-- ==== Sys2Proof/Word.lean ====
section
/-! DEFINITION. The words of the LC16's link ports: the byte of a frame and the 32-bit argument or reply value
(sections 12.1 and 12.8.1). -/

namespace Sys2Proof

/-- One byte of a frame, of a character or of a message slot. -/
abbrev Byte := BitVec 8

/-- The 32-bit value that occupies bytes 2 to 5 of a frame (12.8.1). -/
abbrev Word32 := BitVec 32

end Sys2Proof
end

