-- ==== Sys2Proof/Syntax.lean ====
section
/-! DEFINITION. The commands of the LC16: one constructor for each row of spec/opcode_table.json. An order carries
the link whose frame held it, its selector and the argument bytes it uses (12.8.4); an event carries its line or host
and the quantity that the detector concerned has measured. -/

namespace Sys2Proof

/-- The two computers, A and B (0.6.1). -/
inductive Computer where
  | a
  | b
  deriving DecidableEq, Repr

/-- The three links (0.6.1). -/
inductive Link where
  | hostA
  | hostB
  | acct
  deriving DecidableEq, Repr

/-- A line number, 0 to 15 (0.6.1). -/
abbrev LineNo := Fin 16

/-- The steps of the part: orders on a link, other frames on a link, and events at a line, a host link, the clock or
the RESET pin. Bytes are written as the frame carries them, so a selector may name no line. -/
inductive Instr where
  /-- Power-on, or assertion of RESET (R5). -/
  | deviceReset
  /-- Select asserted on a link; the outbound frame is built (R171). -/
  | exchangeStart (link : Link)
  /-- A complete frame whose check byte does not hold (R171). -/
  | checkFail (link : Link)
  /-- Select released before the 56th clock (R172). -/
  | shortFrame (link : Link)
  /-- A frame begun while READY is deasserted (R172). -/
  | ignoredFrame (link : Link)
  /-- A good frame whose order code names no order (R174). -/
  | orderUnknown (link : Link) (code : Byte)
  /-- NOP, 0x00 (R173). -/
  | nop (link : Link)
  /-- STATUS, 0x01 (R176). -/
  | status (link : Link)
  /-- NOTICE FETCH, 0x02 (R178). -/
  | noticeFetch (link : Link)
  /-- NOTICE MASK, 0x03: byte 2 the mask (R179). -/
  | noticeMask (link : Link) (mask : Byte)
  /-- LINE READ, 0x04: selector line, byte 2 the group (R22). -/
  | lineRead (link : Link) (line group : Byte)
  /-- CLOCK READ, 0x05 (R127). -/
  | clockRead (link : Link)
  /-- ACCOUNT SELECT, 0x08: 32-bit number (R113). -/
  | accountSelect (link : Link) (number : Word32)
  /-- ACCOUNT READ, 0x09: selector the field (R114). -/
  | accountRead (link : Link) (field : Byte)
  /-- ACCOUNT NEXT, 0x0A (R115). -/
  | accountNext (link : Link)
  /-- ANSWER, 0x10: byte 2 the toggle, byte 3 the verdict (R81). -/
  | answer (link : Link) (line toggle verdict : Byte)
  /-- RX SCAN, 0x11 (R104). -/
  | rxScan (link : Link)
  /-- RECEIVE, 0x12 (R105). -/
  | receive (link : Link) (line : Byte)
  /-- SEND, 0x13: byte 2 the count, bytes 3 to 5 the characters (R106). -/
  | send (link : Link) (line count c1 c2 c3 : Byte)
  /-- RELEASE, 0x14 (R87). -/
  | release (link : Link) (line : Byte)
  /-- DETACH, 0x15 (R89). -/
  | detach (link : Link)
  /-- ACCOUNT CREATE, 0x20: 32-bit number (R116). -/
  | accountCreate (link : Link) (number : Word32)
  /-- ACCOUNT SET, 0x21: selector the field, 32-bit value (R117). -/
  | accountSet (link : Link) (field : Byte) (value : Word32)
  /-- ACCOUNT CREDIT, 0x22: 32-bit amount (R119). -/
  | accountCredit (link : Link) (amount : Word32)
  /-- ACCOUNT REMOVE, 0x23 (R122). -/
  | accountRemove (link : Link)
  /-- CHARGE READ, 0x28: selector the field (R155). -/
  | chargeRead (link : Link) (field : Byte)
  /-- CHARGE TAKE, 0x29 (R156). -/
  | chargeTake (link : Link)
  /-- CLOCK SET, 0x30: 16-bit minute in bytes 2 and 3, byte 4 the second (R126). -/
  | clockSet (link : Link) (minute : BitVec 16) (second : Byte)
  /-- TARIFF SET, 0x31: selector band × 16 + class, 32-bit rate (R129). -/
  | tariffSet (link : Link) (sel : Byte) (rate : Word32)
  /-- BAND SET, 0x32: selector the hour, 32-bit band (R128). -/
  | bandSet (link : Link) (hour : Byte) (band : Word32)
  /-- CLASS SET, 0x33: selector class × 16 + item, 32-bit value (R130). -/
  | classSet (link : Link) (sel : Byte) (value : Word32)
  /-- MESSAGE WRITE, 0x34: selector the slot, byte 2 the start, bytes 3 to 5 the characters (R34). -/
  | messageWrite (link : Link) (slot start c1 c2 c3 : Byte)
  /-- PARAM SET, 0x35: selector the parameter, 32-bit value (R180). -/
  | paramSet (link : Link) (code : Byte) (value : Word32)
  /-- LINE ENABLE, 0x38 (R163). -/
  | lineEnable (link : Link) (line : Byte)
  /-- LINE DISABLE, 0x39 (R164). -/
  | lineDisable (link : Link) (line : Byte)
  /-- LINE CLEAR, 0x3A (R165). -/
  | lineClear (link : Link) (line : Byte)
  /-- LINE CLASS, 0x3B: 32-bit class (R166). -/
  | lineClass (link : Link) (line : Byte) (cls : Word32)
  /-- LINE STATS, 0x3C: byte 2 the counter (R167). -/
  | lineStats (link : Link) (line field : Byte)
  /-- FAULT NEXT, 0x40 (R162). -/
  | faultNext (link : Link)
  /-- FAULT CLEAR, 0x41: byte 2 the flags to clear (R161). -/
  | faultClear (link : Link) (line bits : Byte)
  /-- FAULT MASK, 0x42: byte 2 the masks (R161). -/
  | faultMask (link : Link) (line bits : Byte)
  /-- SERVICE, 0x48, with selector 0, OPEN. The selector is carried, so that this row also stands for the SERVICE
  frame whose selector names no service order (R168; log 8). -/
  | serviceOpen (link : Link) (sel : Byte)
  /-- SERVICE, 0x48, with selector 1, DRAIN (R168). -/
  | serviceDrain (link : Link)
  /-- SERVICE, 0x48, with selector 2, CLOSE (R168). -/
  | serviceClose (link : Link)
  /-- A host link's silence timer expires (R88). -/
  | silenceTimerExpiry (host : Computer)
  /-- A line's offer timer expires (R85). -/
  | offerTimerExpiry (line : LineNo)
  /-- A HELD line's hold timer expires (R95). -/
  | holdTimerExpiry (line : LineNo)
  /-- The first millisecond at which RNG is seen asserted (R40). -/
  | rngAsserted (line : LineNo)
  /-- The first millisecond at which RNG is seen deasserted (R42). -/
  | rngDeasserted (line : LineNo)
  /-- RNG asserted for ring-min-on; `gap` is the measured gap in ms before this burst's first assertion (R41). -/
  | burstStart (line : LineNo) (gap : Nat)
  /-- RNG deasserted for 20 ms; `onTime` is the burst's measured on-time in ms (R42). -/
  | burstEnd (line : LineNo) (onTime : Nat)
  /-- A burst seen to last longer than ring-max-on (R43). -/
  | falseRing (line : LineNo)
  /-- RNG deasserted for 20 ms in REARM; `onTime` is the false burst's measured on-time in ms (R43). -/
  | rearmComplete (line : LineNo) (onTime : Nat)
  /-- A RINGING line's gap timer expires (R44). -/
  | gapTimerExpiry (line : LineNo)
  /-- CAR asserted for carrier-qualify in ANSWERING (R48). -/
  | carrierQualified (line : LineNo)
  /-- An ANSWERING line's carrier limit expires (R49). -/
  | carrierLimitExpiry (line : LineNo)
  /-- CAR deasserted for carrier-loss under the carrier-loss watch (R50, R51). -/
  | carrierLost (line : LineNo)
  /-- The speed detector arms (R52). -/
  | speedDetectorArm (line : LineNo)
  /-- The first space sample on an armed speed detector (R52). -/
  | autobaudStartBit (line : LineNo)
  /-- The start-bit width is final; `w` is its measured width in ticks, 1 to 255 (R53, R54). -/
  | wFinal (line : LineNo) (w : Nat)
  /-- The autobaud character's stop bit sample: positions 0 to 7 as sampled, and the stop bit, true for mark (R55). -/
  | autobaudStopBit (line : LineNo) (bits : Byte) (stop : Bool)
  /-- A SPEED_HUNT line's speed-wait timer expires (R57). -/
  | speedWaitExpiry (line : LineNo)
  /-- The receiver's stop bit sample: positions 0 to 7 as sampled, and the stop bit, true for mark (R28, R29). -/
  | characterReceived (line : LineNo) (bits : Byte) (stop : Bool)
  /-- The transmitter finishes a character's last stop bit (R30). -/
  | transmitCharacterDone (line : LineNo)
  /-- One step of the message feed (R36). -/
  | messageFeedStep (line : LineNo)
  /-- A line's idle timer expires (R18). -/
  | idleTimerExpiry (line : LineNo)
  /-- A SIGN_ON line's sign-on timer expires (R65). -/
  | signOnTimerExpiry (line : LineNo)
  /-- Nothing is left to send in phase DRAIN (R12). -/
  | drainComplete (line : LineNo)
  /-- The drain timer expires (R12). -/
  | drainLimitExpiry (line : LineNo)
  /-- The guard timer expires (R15). -/
  | guardTimerExpiry (line : LineNo)
  /-- MRDY deasserted for 100 ms (R160). -/
  | modemLost (line : LineNo)
  /-- The LINE ENABLE settle timer expires; `mrdy` is the level of the latest millisecond judgement (R163). -/
  | settleTimerExpiry (line : LineNo) (mrdy : Bool)
  /-- The Calendar Clock's second boundary (R125). -/
  | secondBoundary
  /-- A line's grace timer expires (R143). -/
  | graceTimerExpiry (line : LineNo)
  /-- A line's traffic timer expires (R170). -/
  | trafficTimerExpiry (line : LineNo)
  /-- RESET is released, or power-on reset ends (R173). -/
  | resetEnd
  /-- Half a bit time after a space edge on a hunting receiver; `mark` is the level sampled (R27). -/
  | startBitSample (line : LineNo) (mark : Bool)
  /-- RXD sampled mark by a receiver waiting for mark (R27). -/
  | returnToHunting (line : LineNo)
  deriving DecidableEq, Repr

/-- The link of a host (Table of 0.2). -/
def Computer.link : Computer → Link
  | .a => .hostA
  | .b => .hostB

/-- The host whose link this is, if it is a host link. -/
def Link.host? : Link → Option Computer
  | .hostA => some .a
  | .hostB => some .b
  | .acct => none

end Sys2Proof
end

