-- ==== Sys2Proof/WellFormed.lean ====
section
/-! DEFINITION. Which commands can occur: the bounds the manual puts on an event's measured quantity and on which
frame a row stands for. -/

namespace Sys2Proof

/-- The order codes of section 12.8.4; any other code is BAD_ORDER (R174). -/
def orderCodes : List Nat :=
  [0x00, 0x01, 0x02, 0x03, 0x04, 0x05, 0x08, 0x09, 0x0A, 0x10, 0x11, 0x12, 0x13, 0x14, 0x15] ++
  [0x20, 0x21, 0x22, 0x23, 0x28, 0x29, 0x30, 0x31, 0x32, 0x33, 0x34, 0x35] ++
  [0x38, 0x39, 0x3A, 0x3B, 0x3C, 0x40, 0x41, 0x42, 0x48]

/-- A command that can occur. W lies in 1 to 255 (R53); the unknown-order row stands only for a code that names no
order (R174); the SERVICE OPEN row stands for selector 0 and for a selector that names no service order (R168). Every
other command's operands are bounded by their types. -/
def Instr.wellFormed : Instr → Bool
  | .wFinal _ w => 1 ≤ w && w ≤ 255
  | .orderUnknown _ code => !orderCodes.contains code.toNat
  | .serviceOpen _ sel => sel.toNat == 0 || 2 < sel.toNat
  | _ => true

end Sys2Proof
end

