-- ==== Sys2Proof/Decode.lean ====
section
/-! DEFINITION. The command that a complete inbound frame carries (R171, R174, 12.8.1, 12.8.4), and the frame that
carries an order. The opcode table gives no row any bits, so a table word spells no command. -/

namespace Sys2Proof

/-- The command that a word spells by the opcode table's bits: the table gives none (log 10). -/
def decodeTableWord (_nbits _w : Nat) : Option Instr := none

/-- The seven bytes of an inbound frame (12.8.1). -/
structure Frame where
  order : Byte
  sel : Byte
  b2 : Byte
  b3 : Byte
  b4 : Byte
  b5 : Byte
  check : Byte
  deriving DecidableEq, Repr

namespace Frame

/-- The sum of a frame's first six bytes. -/
def body (f : Frame) : Byte := f.order + f.sel + f.b2 + f.b3 + f.b4 + f.b5

/-- A frame's check holds when its seven bytes sum to 255 modulo 256 (R171). -/
def checks (f : Frame) : Bool := f.body + f.check == 255

/-- The 32-bit value of bytes 2 to 5 (12.8.1). -/
def value (f : Frame) : Word32 := f.b2 ++ f.b3 ++ f.b4 ++ f.b5

/-- The order of a frame whose check holds; a code that is not listed names no order (12.8.4). -/
def command (k : Link) (f : Frame) : Instr :=
  match f.order.toNat with
  | 0x00 => .nop k
  | 0x01 => .status k
  | 0x02 => .noticeFetch k
  | 0x03 => .noticeMask k f.b2
  | 0x04 => .lineRead k f.sel f.b2
  | 0x05 => .clockRead k
  | 0x08 => .accountSelect k f.value
  | 0x09 => .accountRead k f.sel
  | 0x0A => .accountNext k
  | 0x10 => .answer k f.sel f.b2 f.b3
  | 0x11 => .rxScan k
  | 0x12 => .receive k f.sel
  | 0x13 => .send k f.sel f.b2 f.b3 f.b4 f.b5
  | 0x14 => .release k f.sel
  | 0x15 => .detach k
  | 0x20 => .accountCreate k f.value
  | 0x21 => .accountSet k f.sel f.value
  | 0x22 => .accountCredit k f.value
  | 0x23 => .accountRemove k
  | 0x28 => .chargeRead k f.sel
  | 0x29 => .chargeTake k
  | 0x30 => .clockSet k (f.b2 ++ f.b3) f.b4
  | 0x31 => .tariffSet k f.sel f.value
  | 0x32 => .bandSet k f.sel f.value
  | 0x33 => .classSet k f.sel f.value
  | 0x34 => .messageWrite k f.sel f.b2 f.b3 f.b4 f.b5
  | 0x35 => .paramSet k f.sel f.value
  | 0x38 => .lineEnable k f.sel
  | 0x39 => .lineDisable k f.sel
  | 0x3A => .lineClear k f.sel
  | 0x3B => .lineClass k f.sel f.value
  | 0x3C => .lineStats k f.sel f.b2
  | 0x40 => .faultNext k
  | 0x41 => .faultClear k f.sel f.b2
  | 0x42 => .faultMask k f.sel f.b2
  | 0x48 => if f.sel = 1 then .serviceDrain k else if f.sel = 2 then .serviceClose k else .serviceOpen k f.sel
  | _ => .orderUnknown k f.order

/-- The command of a complete frame on a link: CHECK_FAIL where the check does not hold (R171, R174). -/
def decode (k : Link) (f : Frame) : Instr := if f.checks then f.command k else .checkFail k

/-- A frame with the check byte that holds (R171). -/
def sealed (order sel b2 b3 b4 b5 : Byte) : Frame :=
  ⟨order, sel, b2, b3, b4, b5, 255 - (order + sel + b2 + b3 + b4 + b5)⟩

/-- A frame with a 32-bit argument. -/
def sealedValue (order sel : Byte) (v : Word32) : Frame :=
  sealed order sel (v.extractLsb' 24 8) (v.extractLsb' 16 8) (v.extractLsb' 8 8) (v.extractLsb' 0 8)

/-- The frame that carries an order; no frame for the other commands. Bytes the order does not use are 0. -/
def encode : Instr → Option (Link × Frame)
  | .orderUnknown k c => some (k, sealed c 0 0 0 0 0)
  | .nop k => some (k, sealed 0x00 0 0 0 0 0)
  | .status k => some (k, sealed 0x01 0 0 0 0 0)
  | .noticeFetch k => some (k, sealed 0x02 0 0 0 0 0)
  | .noticeMask k m => some (k, sealed 0x03 0 m 0 0 0)
  | .lineRead k l g => some (k, sealed 0x04 l g 0 0 0)
  | .clockRead k => some (k, sealed 0x05 0 0 0 0 0)
  | .accountSelect k v => some (k, sealedValue 0x08 0 v)
  | .accountRead k f => some (k, sealed 0x09 f 0 0 0 0)
  | .accountNext k => some (k, sealed 0x0A 0 0 0 0 0)
  | .answer k l t v => some (k, sealed 0x10 l t v 0 0)
  | .rxScan k => some (k, sealed 0x11 0 0 0 0 0)
  | .receive k l => some (k, sealed 0x12 l 0 0 0 0)
  | .send k l n a b c => some (k, sealed 0x13 l n a b c)
  | .release k l => some (k, sealed 0x14 l 0 0 0 0)
  | .detach k => some (k, sealed 0x15 0 0 0 0 0)
  | .accountCreate k v => some (k, sealedValue 0x20 0 v)
  | .accountSet k f v => some (k, sealedValue 0x21 f v)
  | .accountCredit k v => some (k, sealedValue 0x22 0 v)
  | .accountRemove k => some (k, sealed 0x23 0 0 0 0 0)
  | .chargeRead k f => some (k, sealed 0x28 f 0 0 0 0)
  | .chargeTake k => some (k, sealed 0x29 0 0 0 0 0)
  | .clockSet k m c => some (k, sealed 0x30 0 (m.extractLsb' 8 8) (m.extractLsb' 0 8) c 0)
  | .tariffSet k x v => some (k, sealedValue 0x31 x v)
  | .bandSet k x v => some (k, sealedValue 0x32 x v)
  | .classSet k x v => some (k, sealedValue 0x33 x v)
  | .messageWrite k l p a b c => some (k, sealed 0x34 l p a b c)
  | .paramSet k x v => some (k, sealedValue 0x35 x v)
  | .lineEnable k l => some (k, sealed 0x38 l 0 0 0 0)
  | .lineDisable k l => some (k, sealed 0x39 l 0 0 0 0)
  | .lineClear k l => some (k, sealed 0x3A l 0 0 0 0)
  | .lineClass k l v => some (k, sealedValue 0x3B l v)
  | .lineStats k l f => some (k, sealed 0x3C l f 0 0 0)
  | .faultNext k => some (k, sealed 0x40 0 0 0 0 0)
  | .faultClear k l b => some (k, sealed 0x41 l b 0 0 0)
  | .faultMask k l b => some (k, sealed 0x42 l b 0 0 0)
  | .serviceOpen k x => some (k, sealed 0x48 x 0 0 0 0)
  | .serviceDrain k => some (k, sealed 0x48 1 0 0 0 0)
  | .serviceClose k => some (k, sealed 0x48 2 0 0 0 0)
  | .deviceReset | .exchangeStart _ | .checkFail _ | .shortFrame _ | .ignoredFrame _ => none
  | .silenceTimerExpiry _ | .offerTimerExpiry _ | .holdTimerExpiry _ => none
  | .rngAsserted _ | .rngDeasserted _ | .burstStart _ _ | .burstEnd _ _ | .falseRing _ | .rearmComplete _ _ => none
  | .gapTimerExpiry _ | .carrierQualified _ | .carrierLimitExpiry _ | .carrierLost _ => none
  | .speedDetectorArm _ | .autobaudStartBit _ | .wFinal _ _ | .autobaudStopBit _ _ _ | .speedWaitExpiry _ => none
  | .characterReceived _ _ _ | .transmitCharacterDone _ | .messageFeedStep _ | .idleTimerExpiry _ => none
  | .signOnTimerExpiry _ | .drainComplete _ | .drainLimitExpiry _ | .guardTimerExpiry _ | .modemLost _ => none
  | .settleTimerExpiry _ _ | .secondBoundary | .graceTimerExpiry _ | .trafficTimerExpiry _ | .resetEnd => none
  | .startBitSample _ _ | .returnToHunting _ => none

end Frame

end Sys2Proof
end

