-- ==== Sys2Proof/Config.lean ====
section
/-! DEFINITION. What the outside world and the order of arrival decide: free values, with no body. Nothing in
the model can evaluate one, so whatever is proved holds whatever they are.

The four input pins of a line are sampled at every tick (R23) when the command queue is empty (log 4); the levels
they carry are the modem's, and are free. Where several events fall due in the part at one moment the manual leaves
the order open ("taken in either order"); the choice is free (log 5). -/

namespace Sys2Proof.Config

/-- Level of RNG of a line at a tick of the model's time: arguments tick number and line number. FREE. -/
opaque rng : Nat → Nat → Bool

/-- Level of CAR of a line at a tick. FREE. -/
opaque car : Nat → Nat → Bool

/-- Level of MRDY of a line at a tick. FREE. -/
opaque mrdy : Nat → Nat → Bool

/-- Level of RXD of a line at a tick, true for mark. FREE. -/
opaque rxd : Nat → Nat → Bool

/-- Which of several due events is taken first: the argument counts the choices made so far. FREE. -/
opaque arrival : Nat → Nat

end Sys2Proof.Config
end

