-- ==== Sys2Proof/Machine/State.lean ====
section
/-! DEFINITION. The state of the LC16 as plain data, and its value after device reset. Every field cites the rule
that names it; the reset values are those of the rules, and those that no rule gives are named in the log. -/

namespace Sys2Proof.Machine

/-- No rule of the manual stops the part: it has no fault by which a step ends. (Fault flags are state, R159.) -/
inductive Fault where
  deriving DecidableEq, Repr

/-- The one refusal: a command with no meaning in the model. Raised by an arm of exec only; safe. No arm raises it. -/
inductive Refusal where
  /-- The command named has no meaning yet. -/
  | notModelled (mnemonic : String)
  deriving DecidableEq, Repr

/-- A timer on the 1 ms base (R2): stopped, or running with its remaining milliseconds. A running timer at 0 has just
run out: its expiry is the next event of the part (R2, log 5). -/
inductive Timer where
  | stopped
  | running (ms : Nat)
  deriving DecidableEq, Repr

/-- The ten line states of section 1.2 (R5). -/
inductive LineState where
  | idle
  | ringing
  | answering
  | speedHunt
  | signOn
  | offered
  | connected
  | held
  | clearing
  | outOfService
  deriving DecidableEq, Repr

/-- Clearing phase (R1). -/
inductive ClearPhase where
  | none
  | drain
  | guard
  deriving DecidableEq, Repr

/-- The twelve clear causes of R6. -/
inductive Cause where
  | callerDropped
  | hostReleased
  | hostLost
  | creditExhausted
  | idleTimeout
  | forced
  | lineFault
  | serviceClosed
  | signonFailed
  | signonTimeout
  | speedFail
  | noCarrier
  deriving DecidableEq, Repr

/-- The reasons of a WITHDRAWN notice (R9, R85; 12.8.6). -/
inductive Reason where
  | callerGone
  | timeout
  | holdExpired
  | forced
  | serviceClosed
  | lineFault
  deriving DecidableEq, Repr

/-- The five line rates (R25). A rate code NONE is the absence of a rate. -/
inductive Rate where
  | b110
  | b150
  | b300
  | b600
  | b1200
  deriving DecidableEq, Repr

/-- The four character formats (R26). -/
inductive Format where
  | even7
  | odd7
  | ignore7
  | none8
  deriving DecidableEq, Repr

/-- The two offer kinds (R79). -/
inductive OfferKind where
  | signOn
  | adopt
  deriving DecidableEq, Repr

/-- An offer pending: its target and kind (R1, R79). Offer pending no, target NONE and kind NONE stand together in
every rule, as the absence of this record. -/
structure Offer where
  target : Computer
  kind : OfferKind
  deriving DecidableEq, Repr

/-- A subset of the two computers. -/
structure HostSet where
  a : Bool
  b : Bool
  deriving DecidableEq, Repr

/-- A minute of the week and a second (0.6.5). -/
structure Stamp where
  minute : Nat
  second : Nat
  deriving DecidableEq, Repr

/-- The session record of a line (R1). The line number is the record's place in the Session Table. -/
structure Session where
  state : LineState
  /-- Line class of the call in progress. -/
  cls : Fin 4
  /-- Rate code, absent for NONE. -/
  rate : Option Rate
  disablePending : Bool
  ringCount : Nat
  /-- Last burst on-time, ms. -/
  lastOn : Nat
  lastGap : Nat
  /-- Speed attempts used. -/
  speedUsed : Nat
  /-- Sign-on buffer, in the order typed. -/
  buffer : List Byte
  /-- Sign-on attempts used. -/
  attempts : Nat
  account : Option Nat
  requested : Option Computer
  owner : Option Computer
  prevOwner : Option Computer
  firstHost : Option Computer
  adoptions : Nat
  declined : HostSet
  offer : Option Offer
  toggle : Bool
  /-- Offer attempts this admission. -/
  offerAttempts : Nat
  /-- Hosts tried this admission. -/
  tried : HostSet
  offerTimer : Timer
  stateTimer : Timer
  idleTimer : Timer
  graceTimer : Timer
  /-- Fraction accumulator F, in sixtieths of a milli-charge-unit. -/
  f : Nat
  bandSecs : Vector Nat 4
  heldSecs : Nat
  debited : Nat
  overdraft : Nat
  fee : Nat
  start : Option Stamp
  warned : Bool
  /-- Receive FIFO, oldest first. -/
  rx : List Byte
  /-- Transmit FIFO, oldest first. -/
  tx : List Byte
  /-- Message feed queue: slot numbers, oldest first. -/
  feed : List (Fin 16)
  /-- Cursor into the head slot. -/
  cursor : Nat
  xoffSent : Bool
  cause : Option Cause
  phase : ClearPhase
  deriving DecidableEq, Repr

/-- The six conditions of a ring detector (R40). -/
inductive RingCond where
  | stopped
  | armed
  | qualifying
  | burst
  | releasing
  | rearm
  deriving DecidableEq, Repr

/-- The ring detector of a line (R40 to R44) with the millisecond counts it times by. -/
structure Ring where
  cond : RingCond
  /-- Consecutive judgements at the level the condition counts. -/
  run : Nat
  /-- Milliseconds judged from the first assertion of the burst on, that one counted. -/
  since : Nat
  /-- The burst's on-time so far, up to its last judgement asserted. -/
  onTime : Nat
  /-- Milliseconds since the end of the previous burst's on-time. -/
  gap : Nat
  /-- The gap that ended at the assertion being timed. -/
  gapAtStart : Nat
  /-- The latest judgement found the condition's duration reached. -/
  reached : Bool
  /-- The latest judgement found a level other than the one before it. -/
  edge : Bool
  /-- This REARM stores a false burst's on-time when it completes (R43, R46). -/
  stores : Bool
  /-- A gap timer expiry is held while an assertion qualifies (R44). -/
  gapHeld : Bool
  deriving DecidableEq, Repr

/-- The carrier detector of a line (R48, R50): qualifying in ANSWERING, watching from SPEED_HUNT to hang-up. -/
inductive Carrier where
  | stopped
  /-- Continuous CAR assertion so far, and whether carrier-qualify was reached. -/
  | qualifying (ms : Nat) (reached : Bool)
  /-- Continuous CAR deassertion so far, whether carrier-loss was reached, and whether the event has been made since
  CAR was last asserted. -/
  | watching (ms : Nat) (reached made : Bool)
  deriving DecidableEq, Repr

/-- The speed detector of a line (R52 to R55). -/
inductive Speed where
  | stopped
  /-- First attempt, not yet armed: waiting for RXD mark. -/
  | waitMark
  /-- Later attempt: consecutive ticks of mark toward 100 ms. -/
  | waitQuiet (ticks : Nat)
  | armed
  /-- Space ticks counted since the start-bit edge. -/
  | measuring (w : Nat)
  /-- Receiving the rest of the autobaud character: rate, ticks since the edge, positions sampled, stop bit sampled. -/
  | receiving (rate : Rate) (ticks : Nat) (bits : Byte) (stop : Option Bool)
  deriving DecidableEq, Repr

/-- The receiver of a line (R27, R29). -/
inductive Receiver where
  | stopped
  | hunting
  /-- A space edge was taken; ticks since it, and the format in force at it. -/
  | edge (ticks : Nat) (fmt : Format)
  /-- Ticks since the edge, format, positions sampled, stop bit sampled. -/
  | assembling (ticks : Nat) (fmt : Format) (bits : Byte) (stop : Option Bool)
  | waitingForMark
  deriving DecidableEq, Repr

/-- The transmitter of a line (R30): idle, or sending a character in the format it began with, for so many ticks. -/
inductive Transmitter where
  | idle
  | sending (char : Byte) (fmt : Format) (ticks : Nat)
  deriving DecidableEq, Repr

/-- The modem-ready watch (R160). -/
inductive ModemWatch where
  | stopped
  /-- Consecutive judgements with MRDY deasserted. -/
  | watching (count : Nat)
  /-- MODEM_LOST was raised; no further raise until the line has been through OUT_OF_SERVICE. -/
  | raised
  deriving DecidableEq, Repr

/-- The Line Unit of a line: pins, detectors, receiver, transmitter and statistics (Chapters 2, 3 and 11). -/
structure LineUnit where
  /-- RNG, CAR, MRDY and RXD (true for mark) at the latest tick sample (R23). -/
  rng : Bool
  car : Bool
  mrdy : Bool
  rxd : Bool
  /-- RNG and MRDY at the latest millisecond judgement (R47, R163). -/
  rngSeen : Bool
  mrdySeen : Bool
  /-- ANS and TRDY outputs (R21, R24). -/
  ans : Bool
  trdy : Bool
  ring : Ring
  carrier : Carrier
  speed : Speed
  receiver : Receiver
  transmitter : Transmitter
  /-- Flow insertion: at most one XOFF or XON (R32). -/
  flow : Option Byte
  modem : ModemWatch
  /-- Statistics counters (R167). -/
  callsAnswered : Nat
  falseRings : Nat
  charErrors : Nat
  overruns : Nat
  deriving DecidableEq, Repr

/-- What the Supervision Unit holds for a line (Chapter 11). Bit n of flags and masks is the fault of priority n. -/
structure Supervised where
  faults : BitVec 4
  masks : BitVec 4
  /-- Configured class (R166). -/
  configured : Fin 4
  /-- Traffic timer (R170). -/
  traffic : Timer
  deriving DecidableEq, Repr

/-- One of the sixteen lines. -/
structure Line where
  ses : Session
  unit : LineUnit
  sup : Supervised
  deriving DecidableEq, Repr

/-- The four fault flags, in priority order (R159). -/
inductive FaultKind where
  | modemLost
  | modemAbsent
  | noCarrier
  | speedFail
  deriving DecidableEq, Repr

/-- A notice of a notice queue (R177; 12.8.5). -/
inductive Notice where
  | offer (line : LineNo) (toggle : Bool) (account : Nat)
  | adopt (line : LineNo) (toggle : Bool) (account : Nat)
  | withdrawn (line : LineNo) (toggle : Bool) (reason : Reason)
  | cleared (line : LineNo) (cause : Cause)
  | lowBalance (line : LineNo) (balance : Nat)
  | grace (line : LineNo) (minutes : Nat)
  | fault (line : LineNo) (kind : FaultKind)
  | hostDown (host : Computer)
  | hostUp (host : Computer)
  | drained
  deriving DecidableEq, Repr

/-- The reply codes of 12.8.3. -/
inductive ReplyCode where
  | none
  | ok
  | clamped
  | partialDone
  | empty
  | badOrder
  | notPermitted
  | badArgument
  | checkFail
  | notOwner
  | noOffer
  | stale
  | notFound
  | duplicate
  | tableFull
  | inUse
  | faultPending
  | badState
  deriving DecidableEq, Repr

/-- A reply: its code and the four data bytes, byte 2 the most significant (R173). -/
structure Reply where
  code : ReplyCode
  data : Word32
  deriving DecidableEq, Repr

/-- Where a link stands in an exchange (R171, R172): no frame, a frame begun while READY was asserted, or a frame
that is ignored to its end. -/
inductive Exchange where
  | none
  | active
  | ignored
  deriving DecidableEq, Repr

/-- The per-link state of a Link Port (R181). -/
structure LinkPort where
  reply : Reply
  notices : List Notice
  mask : Byte
  /-- Account cursor: the number of the entry it is on, or empty (R112). -/
  cursor : Option Nat
  lost : Bool
  ready : Bool
  exchange : Exchange
  /-- The seven bytes of the latest outbound frame (R171); empty when none has been built since reset. -/
  outbound : List Byte
  deriving DecidableEq, Repr

/-- State of a host link (R88). -/
structure HostLink where
  up : Bool
  silence : Timer
  deriving DecidableEq, Repr

/-- Account states (R110). -/
inductive AccountState where
  | suspended
  | opened
  deriving DecidableEq, Repr

/-- An entry of the Account Table (R110). -/
structure Account where
  number : Nat
  state : AccountState
  balance : Nat
  /-- Warn threshold. -/
  warn : Nat
  /-- Session limit. -/
  limit : Nat
  /-- Active sessions. -/
  active : Nat
  /-- Hosts permitted. -/
  hosts : HostSet
  /-- Classes permitted: bit n for class n (12.8.6). -/
  classes : BitVec 4
  /-- Grace minutes. -/
  grace : Nat
  deriving DecidableEq, Repr

/-- A charge record (R149). -/
structure ChargeRecord where
  serial : Nat
  line : LineNo
  account : Option Nat
  cls : Fin 4
  rate : Option Rate
  firstHost : Option Computer
  lastHost : Option Computer
  adoptions : Nat
  start : Option Stamp
  stop : Option Stamp
  bandSecs : Vector Nat 4
  heldSecs : Nat
  fee : Nat
  debited : Nat
  overdraft : Nat
  cause : Cause
  deriving DecidableEq, Repr

/-- The Calendar Clock (R125). -/
structure Clock where
  set : Bool
  minute : Nat
  second : Nat
  /-- Sub-second phase, ms. -/
  phase : Nat
  deriving DecidableEq, Repr

/-- The settings of a class (R130). Bits 0 to 4 of the permitted rates are 110, 150, 300, 600 and 1200 (12.8.7). -/
structure ClassSettings where
  rates : BitVec 5
  format : Format
  flowControl : Bool
  fee : Nat
  deriving DecidableEq, Repr

/-- The pending copy of a class's settings (R131): each item holds a pending value or none. -/
structure PendingClass where
  rates : Option (BitVec 5)
  format : Option Format
  flowControl : Option Bool
  fee : Option Nat
  deriving DecidableEq, Repr

/-- The Tariff Unit's tables and their pending copy (R128 to R131). The rate of band b and class c is entry
4 × b + c. -/
structure Tariff where
  bands : Vector (Fin 4) 168
  rates : Vector Nat 16
  classes : Vector ClassSettings 4
  pendingBands : Vector (Option (Fin 4)) 168
  pendingRates : Vector (Option Nat) 16
  pendingClasses : Vector PendingClass 4
  deriving DecidableEq, Repr

/-- A slot of the Message Store (R33). -/
structure Slot where
  text : Vector Byte 64
  length : Nat
  deriving DecidableEq, Repr

/-- The service state (R168). -/
inductive Service where
  | closed
  | opened
  | draining
  deriving DecidableEq, Repr

/-- The lamp mode (R170). -/
inductive LampMode where
  | occupied
  | billing
  | fault
  | traffic
  deriving DecidableEq, Repr

/-- The parameters (R3, R39, R60, R77, R170), each in its own unit (12.8.8). -/
structure Params where
  answerAfter : Nat
  ringMinOn : Nat
  ringMaxOn : Nat
  ringMaxOff : Nat
  carrierLimit : Nat
  carrierQualify : Nat
  carrierLoss : Nat
  speedAttempts : Nat
  speedWait : Nat
  signOnLimit : Nat
  signOnAttempts : Nat
  offerLimit : Nat
  holdLimit : Nat
  idleLimit : Nat
  drainLimit : Nat
  guardTime : Nat
  hostSilence : Nat
  lampMode : LampMode
  deriving DecidableEq, Repr

/-- The whole part. -/
structure State where
  lines : Vector Line 16
  portA : LinkPort
  portB : LinkPort
  portAcct : LinkPort
  hostA : HostLink
  hostB : HostLink
  /-- Account Table, in ascending account number (R110). -/
  accounts : List Account
  /-- Charge Record Queue, oldest first (R151). -/
  records : List ChargeRecord
  reservations : Nat
  serial : Nat
  clock : Clock
  tariff : Tariff
  /-- Message Store (R33). -/
  messages : Vector Slot 16
  service : Service
  params : Params
  /-- The RESET pin is asserted (R172). -/
  inReset : Bool
  /-- Reference-clock periods of the millisecond in progress, in steps of a tick (0.6.4). -/
  msPhase : Nat
  /-- The MODEL's own: ticks of time passed, the argument of the free input levels (log 4). -/
  ticks : Nat
  /-- The MODEL's own: choices made among events due together (log 5). -/
  picks : Nat
  /-- The MODEL's own: commands waiting, first in first out. -/
  pending : List Instr
  deriving DecidableEq, Repr

/-- No computer. -/
def HostSet.empty : HostSet := ⟨false, false⟩

/-- The device reset values of a session record (R1). -/
def Session.reset : Session where
  state := .outOfService
  cls := 0
  rate := none
  disablePending := false
  ringCount := 0
  lastOn := 0
  lastGap := 0
  speedUsed := 0
  buffer := []
  attempts := 0
  account := none
  requested := none
  owner := none
  prevOwner := none
  firstHost := none
  adoptions := 0
  declined := .empty
  offer := none
  toggle := false
  offerAttempts := 0
  tried := .empty
  offerTimer := .stopped
  stateTimer := .stopped
  idleTimer := .stopped
  graceTimer := .stopped
  f := 0
  bandSecs := Vector.replicate 4 0
  heldSecs := 0
  debited := 0
  overdraft := 0
  fee := 0
  start := none
  warned := false
  rx := []
  tx := []
  feed := []
  cursor := 0
  xoffSent := false
  cause := none
  phase := .none

/-- A stopped ring detector (R40). -/
def Ring.reset : Ring where
  cond := .stopped
  run := 0
  since := 0
  onTime := 0
  gap := 0
  gapAtStart := 0
  reached := false
  edge := false
  stores := false
  gapHeld := false

/-- The Line Unit after device reset (R24, R29, R31, R40, R167). The input levels are log 6's choice. -/
def LineUnit.reset : LineUnit where
  rng := false
  car := false
  mrdy := false
  rxd := true
  rngSeen := false
  mrdySeen := false
  ans := false
  trdy := false
  ring := .reset
  carrier := .stopped
  speed := .stopped
  receiver := .stopped
  transmitter := .idle
  flow := none
  modem := .stopped
  callsAnswered := 0
  falseRings := 0
  charErrors := 0
  overruns := 0

/-- The Supervision Unit's fields of a line after device reset (R159, R166, R170). -/
def Supervised.reset : Supervised where
  faults := 0
  masks := 0
  configured := 0
  traffic := .stopped

/-- A line after device reset. -/
def Line.reset : Line where
  ses := .reset
  unit := .reset
  sup := .reset

/-- A link port after device reset (R181). -/
def LinkPort.reset : LinkPort where
  reply := ⟨.none, 0⟩
  notices := []
  mask := 0
  cursor := none
  lost := false
  ready := true
  exchange := .none
  outbound := []

/-- A host link after device reset (R88). -/
def HostLink.reset : HostLink where
  up := false
  silence := .stopped

/-- The Calendar Clock after device reset (R125). -/
def Clock.reset : Clock where
  set := false
  minute := 0
  second := 0
  phase := 0

/-- The class settings after device reset (R130). -/
def ClassSettings.reset : ClassSettings where
  rates := 31
  format := .even7
  flowControl := false
  fee := 0

/-- No item of a class holds a pending value (R131). -/
def PendingClass.empty : PendingClass where
  rates := none
  format := none
  flowControl := none
  fee := none

/-- The Tariff Unit's tables after device reset (R128 to R131). -/
def Tariff.reset : Tariff where
  bands := Vector.replicate 168 0
  rates := Vector.replicate 16 0
  classes := Vector.replicate 4 .reset
  pendingBands := Vector.replicate 168 none
  pendingRates := Vector.replicate 16 none
  pendingClasses := Vector.replicate 4 .empty

/-- An empty message slot (R33). -/
def Slot.reset : Slot where
  text := Vector.replicate 64 0
  length := 0

/-- The parameters' reset values (12.8.8). -/
def Params.reset : Params where
  answerAfter := 2
  ringMinOn := 150
  ringMaxOn := 2500
  ringMaxOff := 6000
  carrierLimit := 20
  carrierQualify := 400
  carrierLoss := 400
  speedAttempts := 3
  speedWait := 10
  signOnLimit := 60
  signOnAttempts := 3
  offerLimit := 10
  holdLimit := 5
  idleLimit := 15
  drainLimit := 5
  guardTime := 2
  hostSilence := 10
  lampMode := .occupied

/-- The part right after device reset: RESET released, READY asserted on every link (log 3), every line
OUT_OF_SERVICE (R5), every table, queue, link and parameter at the value its rule gives. -/
def State.reset : State where
  lines := Vector.replicate 16 .reset
  portA := .reset
  portB := .reset
  portAcct := .reset
  hostA := .reset
  hostB := .reset
  accounts := []
  records := []
  reservations := 0
  serial := 0
  clock := .reset
  tariff := .reset
  messages := Vector.replicate 16 .reset
  service := .closed
  params := .reset
  inReset := false
  msPhase := 0
  ticks := 0
  picks := 0
  pending := []

end Sys2Proof.Machine
end

