-- ==== Sys2Proof/Machine/Ops.lean ====
section
/-! DEFINITION. The named operations over the part's records: lines, link ports, notice queues, accounts, timers and
saturating counts. Every meaning is written over these. -/

namespace Sys2Proof.Machine

/-! ### Counts and timers -/

/-- A count that saturates at `top` (0.6.7). -/
def satInc (top x : Nat) : Nat := min (x + 1) top

/-- The bound of band seconds, held seconds, debited, overdraft and balances (R1, R110). -/
def maxUnits : Nat := 16777215

/-- A value clamped into a range (0.6.7). -/
def clamp (lo hi v : Nat) : Nat := max lo (min v hi)

/-- Whether a timer runs (R2). -/
def Timer.isRunning : Timer → Bool
  | .stopped => false
  | .running _ => true

/-- Whether a running timer's remaining time has reached 0 (R2). -/
def Timer.isDue : Timer → Bool
  | .running 0 => true
  | _ => false

/-- One millisecond of a timer (R2). -/
def Timer.tick : Timer → Timer
  | .running (n + 1) => .running n
  | t => t

/-- A timer started from a limit that 0 leaves off: the idle limit (R17), the hold limit (R91), the guard time
(R14). -/
def Timer.start (ms : Nat) : Timer := if ms = 0 then .stopped else .running ms

/-! ### Tables -/

/-- A table with a function applied to every entry; written over lists, so that it can be evaluated. -/
def mapEach {α β : Type} {n : Nat} (f : α → β) (v : Vector α n) : Vector β n :=
  ⟨⟨v.toList.map f⟩, by simp⟩

/-- Two tables of one size combined entry by entry. -/
def zipEach {α β γ : Type} {n : Nat} (f : α → β → γ) (v : Vector α n) (w : Vector β n) : Vector γ n :=
  ⟨⟨List.zipWith f v.toList w.toList⟩, by simp⟩

/-! ### Hosts -/

/-- Membership in a set of computers. -/
def HostSet.has (t : HostSet) : Computer → Bool
  | .a => t.a
  | .b => t.b

/-- The set with a computer added. -/
def HostSet.add (t : HostSet) : Computer → HostSet
  | .a => { t with a := true }
  | .b => { t with b := true }

/-- The set with a computer removed. -/
def HostSet.remove (t : HostSet) : Computer → HostSet
  | .a => { t with a := false }
  | .b => { t with b := false }

/-! ### Lines -/

/-- The sixteen lines in ascending order. -/
def allLines : List LineNo := [0, 1, 2, 3, 4, 5, 6, 7, 8, 9, 10, 11, 12, 13, 14, 15]

namespace State

/-- A line of the part. -/
def line (s : State) (n : LineNo) : Line := s.lines[n.val]

/-- The session record of a line. -/
def ses (s : State) (n : LineNo) : Session := (s.line n).ses

/-- The Line Unit of a line. -/
def unit (s : State) (n : LineNo) : LineUnit := (s.line n).unit

/-- The Supervision Unit's fields of a line. -/
def sup (s : State) (n : LineNo) : Supervised := (s.line n).sup

/-- Change one line. -/
def modLine (s : State) (n : LineNo) (f : Line → Line) : State :=
  { s with lines := s.lines.set n.val (f (s.line n)) }

/-- Change a line's session record. -/
def modSes (s : State) (n : LineNo) (f : Session → Session) : State :=
  s.modLine n fun l => { l with ses := f l.ses }

/-- Change a line's Line Unit. -/
def modUnit (s : State) (n : LineNo) (f : LineUnit → LineUnit) : State :=
  s.modLine n fun l => { l with unit := f l.unit }

/-- Change a line's Supervision Unit fields. -/
def modSup (s : State) (n : LineNo) (f : Supervised → Supervised) : State :=
  s.modLine n fun l => { l with sup := f l.sup }

/-- Do something for every line in ascending order (R90, R135, R168). -/
def forLines (s : State) (f : State → LineNo → State) : State := allLines.foldl f s

/-- How many lines satisfy a condition. -/
def countLines (s : State) (p : LineNo → Line → Bool) : Nat :=
  allLines.countP fun n => p n (s.line n)

/-! ### Links -/

/-- A link's port. -/
def port (s : State) : Link → LinkPort
  | .hostA => s.portA
  | .hostB => s.portB
  | .acct => s.portAcct

/-- Change a link's port. -/
def modPort (s : State) (k : Link) (f : LinkPort → LinkPort) : State :=
  match k with
  | .hostA => { s with portA := f s.portA }
  | .hostB => { s with portB := f s.portB }
  | .acct => { s with portAcct := f s.portAcct }

/-- A host link's state (R88). -/
def host (s : State) : Computer → HostLink
  | .a => s.hostA
  | .b => s.hostB

/-- Change a host link's state. -/
def modHost (s : State) (h : Computer) (f : HostLink → HostLink) : State :=
  match h with
  | .a => { s with hostA := f s.hostA }
  | .b => { s with hostB := f s.hostB }

/-- Whether a notice bound for a link can be placed: the accounting link has no UP or DOWN state (R177). -/
def reachable (s : State) (k : Link) : Bool :=
  match k.host? with
  | some h => (s.host h).up
  | none => true

end State

/-- Places in a link's notice queue (R177). -/
def noticeRoom : Link → Nat
  | .hostA => 32
  | .hostB => 32
  | .acct => 16

/-- Whether a link's mask suppresses a notice (R179). -/
def suppresses (k : Link) (mask : Byte) (m : Notice) : Bool :=
  match k, m with
  | .acct, .hostDown _ => mask.getLsbD 0
  | .acct, .hostUp _ => mask.getLsbD 1
  | .acct, .drained => mask.getLsbD 2
  | .acct, _ => false
  | _, .lowBalance _ _ => mask.getLsbD 0
  | _, .grace _ _ => mask.getLsbD 1
  | _, _ => false

namespace State

/-- Whether a link's notice queue is full (R177). -/
def queueFull (s : State) (k : Link) : Bool := decide (noticeRoom k ≤ (s.port k).notices.length)

/-- Place a notice at the back of a link's queue. -/
def pushNotice (s : State) (k : Link) (m : Notice) : State :=
  s.modPort k fun p => { p with notices := p.notices ++ [m] }

/-- Post a notice (R177): discarded if its kind is masked or its host link is DOWN, else placed if the queue has room,
else dropped with LOST set. -/
def postNotice (s : State) (k : Link) (m : Notice) : State :=
  if suppresses k (s.port k).mask m then s
  else if !s.reachable k then s
  else if s.queueFull k then s.modPort k fun p => { p with lost := true }
  else s.pushNotice k m

/-! ### Accounts -/

/-- The entry with a number (R113). -/
def account? (s : State) (number : Nat) : Option Account := s.accounts.find? (·.number == number)

/-- Change the entry with a number. -/
def modAccount (s : State) (number : Nat) (f : Account → Account) : State :=
  { s with accounts := s.accounts.map fun e => if e.number == number then f e else e }

/-- The entry a line's session names, if any. -/
def accountOf (s : State) (n : LineNo) : Option Account := (s.ses n).account.bind s.account?

/-- Change the entry a line's session names. -/
def modAccountOf (s : State) (n : LineNo) (f : Account → Account) : State :=
  match (s.ses n).account with
  | some number => s.modAccount number f
  | none => s

/-- Whether the account of a line permits a computer, as the entry stands now (R92, R93). -/
def permitsHost (s : State) (n : LineNo) (h : Computer) : Bool :=
  match s.accountOf n with
  | some e => e.hosts.has h
  | none => false

end State

/-! ### The clock's stamp -/

/-- The stamp read from the Calendar Clock: present only while it is SET (R127). -/
def Clock.stamp (c : Clock) : Option Stamp := if c.set then some ⟨c.minute, c.second⟩ else none

/-! ### Line states -/

/-- The active states of section 1.2. -/
def LineState.active : LineState → Bool
  | .answering | .speedHunt | .signOn | .offered | .connected | .held => true
  | _ => false

/-- A session exists in OFFERED, CONNECTED and HELD (section 1.2). -/
def LineState.hasSession : LineState → Bool
  | .offered | .connected | .held => true
  | _ => false

/-- Neither IDLE nor OUT_OF_SERVICE (R169, R170, R176). -/
def LineState.busy : LineState → Bool
  | .idle | .outOfService => false
  | _ => true

/-- A line of phase DRAIN. -/
def Session.draining (r : Session) : Bool := r.state == .clearing && r.phase == .drain

/-- The transmitter runs: a rate is set, in SIGN_ON, OFFERED, CONNECTED, HELD and phase DRAIN (R31). -/
def Session.transmits (r : Session) : Bool :=
  r.rate.isSome &&
    (r.state == .signOn || r.state == .offered || r.state == .connected || r.state == .held || r.draining)

/-- The format of a line's class, from the installed class settings (R26, R133). -/
def State.formatOf (s : State) (n : LineNo) : Format := s.tariff.classes[(s.ses n).cls.val].format

/-! ### Rates and formats -/

/-- Ticks per bit T (R25). -/
def Rate.ticks : Rate → Nat
  | .b110 => 175
  | .b150 => 128
  | .b300 => 64
  | .b600 => 32
  | .b1200 => 16

/-- Bits per transmitted character: two stop bits at 110 bit/s, one at every other rate (R25, R26). -/
def Rate.charBits : Rate → Nat
  | .b110 => 11
  | _ => 10

/-- The tick, counted from the start-bit edge, at which bit position i is sampled; position 8 is the stop bit (R27). -/
def Rate.sampleAt (r : Rate) (i : Nat) : Nat := r.ticks / 2 + (i + 1) * r.ticks

/-- The tolerance of a rate's window (R54). -/
def Rate.tolerance (r : Rate) : Nat := r.ticks / 8

/-- Whether a measured width lies in a rate's window (R54). -/
def Rate.windowHolds (r : Rate) (w : Nat) : Bool :=
  r.ticks - r.tolerance ≤ w && w ≤ r.ticks + r.tolerance

/-- The rate whose window contains a measured width (R54). -/
def rateOfWidth (w : Nat) : Option Rate :=
  [Rate.b110, .b150, .b300, .b600, .b1200].find? (·.windowHolds w)

/-- A rate's bit in a permitted-rates value (12.8.7). -/
def Rate.bit : Rate → Nat
  | .b110 => 0
  | .b150 => 1
  | .b300 => 2
  | .b600 => 3
  | .b1200 => 4

/-- The number of ones in a byte. -/
def onesIn (b : Byte) : Nat := ([0, 1, 2, 3, 4, 5, 6, 7] : List Nat).countP fun i => b.getLsbD i

/-- Whether received positions pass their format's parity check (R26, R28). -/
def Format.parityOk (f : Format) (bits : Byte) : Bool :=
  match f with
  | .even7 => onesIn bits % 2 == 0
  | .odd7 => onesIn bits % 2 == 1
  | .ignore7 => true
  | .none8 => true

/-- The value of received positions: positions 0 to 6 in the 7-bit formats, 0 to 7 in 8-none (R28). -/
def Format.value (f : Format) (bits : Byte) : Byte :=
  match f with
  | .none8 => bits
  | _ => bits &&& 0x7F

/-- The eight positions sent for a character: in the 7-bit formats position 7 is the parity or mark (R30). -/
def Format.positions (f : Format) (char : Byte) : Byte :=
  let low := char &&& 0x7F
  match f with
  | .even7 => if onesIn low % 2 == 0 then low else low ||| 0x80
  | .odd7 => if onesIn low % 2 == 0 then low ||| 0x80 else low
  | .ignore7 => low ||| 0x80
  | .none8 => char

end Sys2Proof.Machine
end

