-- ==== Sys2Proof/Machine/Operands.lean ====
section
/-! DEFINITION. Operand and reply forms of the link orders: line selectors, value codes, and the layouts of replies,
notices and fields (section 12.8). -/

namespace Sys2Proof.Machine

/-- The four bytes 2 to 5 of a frame as one 32-bit value, most significant byte first (12.8.1). -/
def bytes4 (b2 b3 b4 b5 : Byte) : Word32 := b2 ++ b3 ++ b4 ++ b5

/-- A count or number as a byte. -/
def byteOf (n : Nat) : Byte := BitVec.ofNat 8 n

/-- A number as a 32-bit value. -/
def wordOf (n : Nat) : Word32 := BitVec.ofNat 32 n

/-- The bytes of a 24-bit value, bytes 3 to 5 (12.8.1). -/
def bytes24 (b2 : Byte) (n : Nat) : Word32 := b2 ++ BitVec.ofNat 24 n

/-- Two 16-bit values, bytes 2 and 3 and bytes 4 and 5 (12.8.1). -/
def words16 (hi lo : Nat) : Word32 := BitVec.ofNat 16 hi ++ BitVec.ofNat 16 lo

/-- A yes or no as a byte. -/
def flagByte (b : Bool) : Byte := if b then 1 else 0

/-- Byte i (2 to 5) of a 32-bit value. -/
def byteAt (w : Word32) (i : Nat) : Byte := w.extractLsb' (8 * (5 - i)) 8

/-- A line selector: a value above 15 names no line (R174). -/
def lineSel (b : Byte) : Option LineNo := if h : b.toNat < 16 then some ⟨b.toNat, h⟩ else none

/-! ### Value codes (12.8.6) -/

def LineState.code : LineState → Nat
  | .idle => 0
  | .ringing => 1
  | .answering => 2
  | .speedHunt => 3
  | .signOn => 4
  | .offered => 5
  | .connected => 6
  | .held => 7
  | .clearing => 8
  | .outOfService => 9

def ClearPhase.code : ClearPhase → Nat
  | .none => 0
  | .drain => 1
  | .guard => 2

def rateCode : Option Rate → Nat
  | none => 0
  | some .b110 => 1
  | some .b150 => 2
  | some .b300 => 3
  | some .b600 => 4
  | some .b1200 => 5

def hostCode : Option Computer → Nat
  | none => 0
  | some .a => 1
  | some .b => 2

def OfferKind.code : OfferKind → Nat
  | .signOn => 1
  | .adopt => 2

def Cause.code : Cause → Nat
  | .callerDropped => 1
  | .hostReleased => 2
  | .hostLost => 3
  | .creditExhausted => 4
  | .idleTimeout => 5
  | .forced => 6
  | .lineFault => 7
  | .serviceClosed => 8
  | .signonFailed => 9
  | .signonTimeout => 10
  | .speedFail => 11
  | .noCarrier => 12

def Reason.code : Reason → Nat
  | .callerGone => 1
  | .timeout => 2
  | .holdExpired => 3
  | .forced => 4
  | .serviceClosed => 5
  | .lineFault => 6

/-- A fault's priority, which is also its code (11.1, 12.8.6). -/
def FaultKind.code : FaultKind → Nat
  | .modemLost => 0
  | .modemAbsent => 1
  | .noCarrier => 2
  | .speedFail => 3

def AccountState.code : AccountState → Nat
  | .suspended => 0
  | .opened => 1

def HostSet.code (t : HostSet) : Nat := (if t.a then 1 else 0) + (if t.b then 2 else 0)

/-- The reply codes (12.8.3). -/
def ReplyCode.code : ReplyCode → Byte
  | .none => 0x00
  | .ok => 0x01
  | .clamped => 0x02
  | .partialDone => 0x03
  | .empty => 0x04
  | .badOrder => 0x10
  | .notPermitted => 0x11
  | .badArgument => 0x12
  | .checkFail => 0x13
  | .notOwner => 0x20
  | .noOffer => 0x21
  | .stale => 0x22
  | .notFound => 0x30
  | .duplicate => 0x31
  | .tableFull => 0x32
  | .inUse => 0x33
  | .faultPending => 0x40
  | .badState => 0x41

/-- A reply whose data bytes are 0 (R173). -/
def replyOf (c : ReplyCode) : Reply := ⟨c, 0⟩

/-- OK with data. -/
def okWith (d : Word32) : Reply := ⟨.ok, d⟩

/-- OK, or CLAMPED where the value written differs from the value carried (R117, R180). -/
def okOrClamped (clamped : Bool) : Reply := replyOf (if clamped then .clamped else .ok)

/-! ### Notices (12.8.5) -/

/-- Bytes 3 to 5 of an OFFER or ADOPT notice: bit 23 the toggle, bits 19 to 0 the account number. -/
def offerPayload (toggle : Bool) (account : Nat) : BitVec 24 :=
  BitVec.ofNat 24 (account % 1048576 + if toggle then 8388608 else 0)

/-- Byte 2 of a notice: the kind in bits 7 to 4 and the line in bits 3 to 0. -/
def noticeHead (kind line : Nat) : Byte := byteOf (16 * kind + line)

/-- A notice's four data bytes. -/
def Notice.layout : Notice → Word32
  | .offer n t acc => noticeHead 1 n.val ++ offerPayload t acc
  | .adopt n t acc => noticeHead 2 n.val ++ offerPayload t acc
  | .withdrawn n t r => bytes4 (noticeHead 3 n.val) (flagByte t) (byteOf r.code) 0
  | .cleared n c => bytes4 (noticeHead 4 n.val) (byteOf c.code) 0 0
  | .lowBalance n b => bytes24 (noticeHead 5 n.val) b
  | .grace n m => bytes4 (noticeHead 6 n.val) (byteOf m) 0 0
  | .fault n k => bytes4 (noticeHead 8 n.val) (byteOf k.code) 0 0
  | .hostDown h => bytes4 (noticeHead 9 0) (byteOf (hostCode (some h))) 0 0
  | .hostUp h => bytes4 (noticeHead 10 0) (byteOf (hostCode (some h))) 0 0
  | .drained => bytes4 (noticeHead 11 0) 0 0 0

/-! ### Fields (12.8.7) -/

/-- A stamp: byte 2 present, bytes 3 and 4 the minute, byte 5 the second; zeros when absent (R155). -/
def stampLayout : Option Stamp → Word32
  | some t => (1 : Byte) ++ BitVec.ofNat 16 t.minute ++ byteOf t.second
  | none => 0

/-- Remaining milliseconds as whole seconds, rounded up; 0 when stopped (R22). -/
def Timer.seconds : Timer → Nat
  | .stopped => 0
  | .running ms => (ms + 999) / 1000

/-- A LINE READ group's data, or none for a code that names no group (R22). -/
def Session.group (r : Session) (code : Nat) : Option Word32 :=
  match code with
  | 0 => some (bytes4 (byteOf r.state.code) (byteOf r.phase.code)
      (byteOf (16 * r.cls.val + rateCode r.rate)) (flagByte r.disablePending))
  | 1 => some (match r.account with
      | some a => bytes24 1 a
      | none => 0)
  | 2 => some (bytes4 (byteOf (hostCode r.owner)) (byteOf (hostCode r.prevOwner))
      (match r.offer with
        | some o => byteOf (16 * o.kind.code + hostCode (some o.target))
        | none => 0)
      (flagByte r.toggle))
  | 3 => some (bytes24 0 (min (r.bandSecs[0] + r.bandSecs[1] + r.bandSecs[2] + r.bandSecs[3]) maxUnits))
  | 4 => some (bytes24 0 r.debited)
  | 5 => some (bytes24 0 r.overdraft)
  | 6 => some (bytes4 (byteOf r.rx.length) (byteOf r.tx.length) (byteOf r.feed.length) 0)
  | 7 => some (words16 r.lastOn r.lastGap)
  | 8 => some (bytes4 (byteOf r.ringCount) 0 0 0)
  | 9 => some (words16 0 r.graceTimer.seconds)
  | _ => none

/-- An account field's value, or none for a code that names no field (R114). -/
def Account.field (e : Account) (code : Nat) : Option Word32 :=
  match code with
  | 0 => some (wordOf e.number)
  | 1 => some (wordOf e.state.code)
  | 2 => some (wordOf e.balance)
  | 3 => some (wordOf e.warn)
  | 4 => some (wordOf e.limit)
  | 5 => some (wordOf e.active)
  | 6 => some (wordOf e.hosts.code)
  | 7 => some (e.classes.setWidth 32)
  | 8 => some (wordOf e.grace)
  | _ => none

/-- A charge record field's value, or none for a code that names no field (R155). -/
def ChargeRecord.field (r : ChargeRecord) (code : Nat) : Option Word32 :=
  match code with
  | 0 => some (wordOf r.serial)
  | 1 => some (wordOf r.line.val)
  | 2 => some (wordOf (r.account.getD 0))
  | 3 => some (wordOf r.cls.val)
  | 4 => some (wordOf (rateCode r.rate))
  | 5 => some (wordOf (hostCode r.firstHost))
  | 6 => some (wordOf (hostCode r.lastHost))
  | 7 => some (wordOf r.adoptions)
  | 8 => some (stampLayout r.start)
  | 9 => some (stampLayout r.stop)
  | 10 => some (wordOf r.bandSecs[0])
  | 11 => some (wordOf r.bandSecs[1])
  | 12 => some (wordOf r.bandSecs[2])
  | 13 => some (wordOf r.bandSecs[3])
  | 14 => some (wordOf r.heldSecs)
  | 15 => some (wordOf r.fee)
  | 16 => some (wordOf r.debited)
  | 17 => some (wordOf r.overdraft)
  | 18 => some (wordOf r.cause.code)
  | _ => none

/-- The value an ACCOUNT SET writes into an entry's field, with whether it was clamped (R117). The outer none is a
refused field code, the inner one a refused value code. -/
def Account.withField (e : Account) (code v : Nat) : Option (Account × Bool) :=
  match code with
  | 1 => if v = 0 then some ({ e with state := .suspended }, false)
         else if v = 1 then some ({ e with state := .opened }, false) else none
  | 2 => some ({ e with balance := min v maxUnits }, decide (maxUnits < v))
  | 3 => some ({ e with warn := min v 65535 }, decide (65535 < v))
  | 4 => some ({ e with limit := max (clamp 1 4 v) e.active }, max (clamp 1 4 v) e.active != v)
  | 6 => if v = 1 then some ({ e with hosts := ⟨true, false⟩ }, false)
         else if v = 2 then some ({ e with hosts := ⟨false, true⟩ }, false)
         else if v = 3 then some ({ e with hosts := ⟨true, true⟩ }, false) else none
  | 7 => if v ≤ 15 then some ({ e with classes := BitVec.ofNat 4 v }, false) else none
  | 8 => some ({ e with grace := min v 15 }, decide (15 < v))
  | _ => none

/-- The entry that ACCOUNT CREATE makes (R110). -/
def Account.fresh (number : Nat) : Account where
  number := number
  state := .suspended
  balance := 0
  warn := 0
  limit := 1
  active := 0
  hosts := ⟨true, true⟩
  classes := 15
  grace := 0

/-- The format of a code (12.8.7). -/
def formatOfCode : Nat → Option Format
  | 0 => some .even7
  | 1 => some .odd7
  | 2 => some .ignore7
  | 3 => some .none8
  | _ => none

/-- The pending copy of a class with one item written, or none for an item or value that is refused (R130). -/
def PendingClass.withItem (p : PendingClass) (item v : Nat) : Option PendingClass :=
  match item with
  | 0 => if v < 32 then some { p with rates := some (BitVec.ofNat 5 v) } else none
  | 1 => (formatOfCode v).map fun f => { p with format := some f }
  | 2 => if v ≤ 1 then some { p with flowControl := some (v == 1) } else none
  | 3 => if v ≤ 255 then some { p with fee := some v } else none
  | _ => none

/-- The lamp mode of a code (12.8.8). -/
def lampModeOf : Nat → LampMode
  | 0 => .occupied
  | 1 => .billing
  | 2 => .fault
  | _ => .traffic

/-- The range of a parameter, or none for a code that names none (12.8.8). -/
def paramRange : Nat → Option (Nat × Nat)
  | 0 => some (1, 8)
  | 1 => some (50, 750)
  | 2 => some (500, 3000)
  | 3 => some (1000, 8000)
  | 4 => some (5, 60)
  | 5 => some (100, 1000)
  | 6 => some (100, 2000)
  | 7 => some (1, 5)
  | 8 => some (2, 30)
  | 9 => some (15, 300)
  | 10 => some (1, 7)
  | 11 => some (2, 30)
  | 12 => some (0, 30)
  | 13 => some (0, 60)
  | 14 => some (1, 10)
  | 15 => some (0, 10)
  | 16 => some (1, 60)
  | 17 => some (0, 3)
  | _ => none

/-- A parameter written with a value inside its range (R180). -/
def Params.write (p : Params) (code v : Nat) : Params :=
  match code with
  | 0 => { p with answerAfter := v }
  | 1 => { p with ringMinOn := v }
  | 2 => { p with ringMaxOn := v }
  | 3 => { p with ringMaxOff := v }
  | 4 => { p with carrierLimit := v }
  | 5 => { p with carrierQualify := v }
  | 6 => { p with carrierLoss := v }
  | 7 => { p with speedAttempts := v }
  | 8 => { p with speedWait := v }
  | 9 => { p with signOnLimit := v }
  | 10 => { p with signOnAttempts := v }
  | 11 => { p with offerLimit := v }
  | 12 => { p with holdLimit := v }
  | 13 => { p with idleLimit := v }
  | 14 => { p with drainLimit := v }
  | 15 => { p with guardTime := v }
  | 16 => { p with hostSilence := v }
  | 17 => { p with lampMode := lampModeOf v }
  | _ => p

end Sys2Proof.Machine
end

