-- ==== Sys2Proof/Machine/Flags.lean ====
section
/-! DEFINITION. Flags and indications: fault flags, the status byte, the outputs that follow from the state
(ATTENTION, LMP, TXD, data out), and the check byte. -/

namespace Sys2Proof.Machine

/-! ### Fault flags (Chapter 11) -/

/-- Raise a fault flag of a line (R159): a clear flag becomes set, and a FAULT notice is posted if its mask is off. -/
def raiseFault (s : State) (n : LineNo) (k : FaultKind) : State :=
  if (s.sup n).faults.getLsbD k.code then s
  else
    let s' := s.modSup n fun u => { u with faults := u.faults ||| BitVec.ofNat 4 (2 ^ k.code) }
    if (s.sup n).masks.getLsbD k.code then s' else s'.postNotice .acct (.fault n k)

/-- A fault flag that is set and not masked (R162). -/
def reportable (s : State) (n : LineNo) (k : FaultKind) : Bool :=
  (s.sup n).faults.getLsbD k.code && !(s.sup n).masks.getLsbD k.code

/-- The fault kinds in priority order (11.1). -/
def faultKinds : List FaultKind := [.modemLost, .modemAbsent, .noCarrier, .speedFail]

/-- The fault that FAULT NEXT returns: lowest priority number first, then lowest line (R162). -/
def nextFault (s : State) : Option (LineNo × FaultKind) :=
  faultKinds.findSome? fun k => (allLines.find? fun n => reportable s n k).map fun n => (n, k)

/-! ### The status byte (R175) -/

/-- The service state's code (12.8.2). -/
def Service.code : Service → Nat
  | .closed => 0
  | .opened => 1
  | .draining => 2

/-- A line that is CONNECTED with a given owner. -/
def Session.ownedBy (r : Session) (h : Computer) : Bool := r.state == .connected && r.owner == some h

/-- Records plus reservations (R158). -/
def State.recordSum (s : State) : Nat := s.records.length + s.reservations

/-- A bit of the status byte. -/
def bitIf (b : Bool) (weight : Nat) : Nat := if b then weight else 0

/-- Bits 2 to 0 of a host link's status byte. -/
def hostStatusBits (s : State) (h : Computer) : Nat :=
  bitIf (allLines.any fun n => (s.ses n).ownedBy h && !(s.ses n).rx.isEmpty) 4 + bitIf (s.host h).up 2

/-- Bits 2 to 0 of the accounting link's status byte. -/
def acctStatusBits (s : State) : Nat :=
  bitIf (!s.records.isEmpty) 4 + bitIf (nextFault s).isSome 2 + bitIf (decide (16 ≤ s.recordSum)) 1

/-- The status byte of a link (R175). -/
def statusByte (s : State) (k : Link) : Byte :=
  byteOf (bitIf (!(s.port k).notices.isEmpty) 128 + bitIf (s.port k).lost 64 + 16 * s.service.code
    + bitIf s.clock.set 8
    + match k.host? with
      | some h => hostStatusBits s h
      | none => acctStatusBits s)

/-- The check byte that makes a frame's bytes sum to 255 modulo 256 (R171). -/
def checkByte (bytes : List Byte) : Byte := 255 - bytes.foldl (· + ·) 0

/-- The outbound frame built at the assertion of select (R171). -/
def outboundFrame (s : State) (k : Link) : List Byte :=
  let r := (s.port k).reply
  let body := [statusByte s k, r.code.code, byteAt r.data 2, byteAt r.data 3, byteAt r.data 4, byteAt r.data 5]
  body ++ [checkByte body]

/-- The bytes driven in a frame that is ignored (R172). -/
def ignoredFrameBytes : List Byte := List.replicate 7 0xFF

/-! ### Outputs that follow from the state -/

/-- ATTENTION of a link (R177). While RESET is asserted it is deasserted (R172), the queue being empty. -/
def attention (s : State) (k : Link) : Bool := !(s.port k).notices.isEmpty

/-- Data out of a link at bit i of an exchange, most significant bit of byte 0 first; 1 beyond the 56th bit, and while
select is deasserted (R171, R172, R181). -/
def dataOut (s : State) (k : Link) (i : Nat) : Bool :=
  if (s.port k).exchange = .none then true
  else match (s.port k).outbound[i / 8]? with
    | some b => b.getLsbD (7 - i % 8)
    | none => true

/-- LMP of a line (R170). -/
def lamp (s : State) (n : LineNo) : Bool :=
  match s.params.lampMode with
  | .occupied => (s.ses n).state.busy
  | .billing => (s.ses n).state == .connected
  | .fault => (s.sup n).faults != 0
  | .traffic => (s.sup n).traffic.isRunning

/-- TXD of a line, true for mark: the bit of the character being sent at the tick reached, mark otherwise
(R24, R26, R30). -/
def txd (s : State) (n : LineNo) : Bool :=
  match (s.unit n).transmitter, (s.ses n).rate with
  | .sending c f t, some r =>
    let i := t / r.ticks
    if i = 0 then false else if i ≤ 8 then (f.positions c).getLsbD (i - 1) else true
  | _, _ => true

end Sys2Proof.Machine
end

