-- ==== Sys2Proof/Machine/Relay.lean ====
section
/-! DEFINITION. Shared operations of the Relay Buffers, the Message Store's feed, the transmitter and the receive FIFO
(Chapters 2 and 6). -/

namespace Sys2Proof.Machine

/-! ### Message slots (section 2.5) -/

def slotBanner : Fin 16 := 0
def slotPrompt : Fin 16 := 1
def slotSyntax : Fin 16 := 2
def slotAccount : Fin 16 := 3
def slotBalance : Fin 16 := 4
def slotLimit : Fin 16 := 5
def slotHost : Fin 16 := 6
def slotBusy : Fin 16 := 7
def slotDeclined : Fin 16 := 8
def slotWelcome : Fin 16 := 9
def slotResumed : Fin 16 := 10
def slotLowBalance : Fin 16 := 11
def slotGrace : Fin 16 := 12
def slotHolding : Fin 16 := 13
def slotGoodbye : Fin 16 := 14
def slotTimedOut : Fin 16 := 15

/-! ### Characters (0.6.6) -/

def chBel : Byte := 7
def chBs : Byte := 8
def chLf : Byte := 10
def chCr : Byte := 13
def chXon : Byte := 17
def chXoff : Byte := 19
def chSp : Byte := 32

/-- Places in a FIFO (R97, R99). -/
def fifoSize : Nat := 64

namespace State

/-- A message request (R35): the slot joins the back of the feed queue, or is dropped when the queue holds 3. -/
def requestMessage (s : State) (n : LineNo) (slot : Fin 16) : State :=
  s.modSes n fun r =>
    if r.feed.length < 3 then
      { r with feed := r.feed ++ [slot], cursor := if r.feed.isEmpty then 0 else r.cursor }
    else r

/-- Empty the message feed queue, with its cursor at 0 (R35). -/
def emptyFeed (s : State) (n : LineNo) : State := s.modSes n fun r => { r with feed := [], cursor := 0 }

/-- Empty the transmit FIFO and the message feed queue (R11, R12, R13). -/
def emptyOut (s : State) (n : LineNo) : State :=
  s.modSes n fun r => { r with tx := [], feed := [], cursor := 0 }

/-- An idle transmitter takes its next character, the flow insertion before the transmit FIFO, in the format its class
has at this moment (R30, R31). -/
def takeNext (s : State) (n : LineNo) : State :=
  if (s.unit n).transmitter = .idle ∧ (s.ses n).transmits then
    match (s.unit n).flow, (s.ses n).tx with
    | some c, _ => s.modUnit n fun u => { u with flow := none, transmitter := .sending c (s.formatOf n) 0 }
    | none, c :: rest =>
      (s.modSes n fun r => { r with tx := rest }).modUnit n fun u =>
        { u with transmitter := .sending c (s.formatOf n) 0 }
    | none, [] => s
  else s

/-- Place a character at the back of the transmit FIFO; an idle transmitter takes it at once (R30, R99). -/
def placeTx (s : State) (n : LineNo) (c : Byte) : State :=
  (s.modSes n fun r => { r with tx := r.tx ++ [c] }).takeNext n

/-- Place a run of characters in the transmit FIFO in order. -/
def placeAll (s : State) (n : LineNo) (cs : List Byte) : State := cs.foldl (fun t c => t.placeTx n c) s

/-- Echo one character: placed, or dropped if the transmit FIFO is full (R37). -/
def echo (s : State) (n : LineNo) (c : Byte) : State :=
  if (s.ses n).tx.length < fifoSize then s.placeTx n c else s

/-- Echo several characters, each placed or dropped on its own (R37). -/
def echoAll (s : State) (n : LineNo) (cs : List Byte) : State := cs.foldl (fun t c => t.echo n c) s

/-- Place XOFF or XON in the flow insertion, replacing one not yet taken; an idle transmitter takes it at once
(R32). -/
def placeFlow (s : State) (n : LineNo) (c : Byte) : State :=
  (s.modUnit n fun u => { u with flow := some c }).takeNext n

/-- The current length of the feed queue's head slot (R36). -/
def headLength (s : State) (slot : Fin 16) : Nat := s.messages[slot.val].length

/-- The character of a slot at a position. -/
def slotChar (s : State) (slot : Fin 16) (i : Nat) : Byte := s.messages[slot.val].text[i]?.getD 0

/-- Whether the feed can take a step (R36): the head is exhausted, or a character can move into a free place while the
transmitter runs. -/
def feedReady (s : State) (n : LineNo) : Bool :=
  match (s.ses n).feed with
  | [] => false
  | slot :: _ =>
    decide (s.headLength slot ≤ (s.ses n).cursor) ||
      (decide ((s.ses n).tx.length < fifoSize) && (s.ses n).transmits)

/-- One step of the message feed (R36). -/
def feedStep (s : State) (n : LineNo) : State :=
  match (s.ses n).feed with
  | [] => s
  | slot :: rest =>
    let pos := (s.ses n).cursor
    let len := s.headLength slot
    if len ≤ pos then s.modSes n fun r => { r with feed := rest, cursor := 0 }
    else if (s.ses n).tx.length < fifoSize ∧ (s.ses n).transmits then
      let moved := s.modSes n fun r =>
        if len ≤ pos + 1 then { r with feed := rest, cursor := 0 } else { r with cursor := pos + 1 }
      moved.placeTx n (s.slotChar slot pos)
    else s

/-- The idle timer starts or restarts at the idle limit; with limit 0 it stays stopped (R17). -/
def restartIdle (s : State) (n : LineNo) : State :=
  s.modSes n fun r => { r with idleTimer := .start (s.params.idleLimit * 60000) }

/-- The idle timer restarts only in CONNECTED (R17). -/
def relayActivity (s : State) (n : LineNo) : State :=
  if (s.ses n).state = .connected then s.restartIdle n else s

/-- The high-water judgement after a placement (R100). -/
def judgeHighWater (s : State) (n : LineNo) : State :=
  if 48 ≤ (s.ses n).rx.length ∧ (s.ses n).xoffSent = false
      ∧ s.tariff.classes[(s.ses n).cls.val].flowControl = true then
    (s.modSes n fun r => { r with xoffSent := true }).placeFlow n chXoff
  else s

/-- The low-water judgement after a removal (R101). -/
def judgeLowWater (s : State) (n : LineNo) : State :=
  if (s.ses n).rx.length ≤ 16 ∧ (s.ses n).xoffSent = true then
    (s.modSes n fun r => { r with xoffSent := false }).placeFlow n chXon
  else s

/-- A good character taken in CONNECTED or HELD: placed in the receive FIFO (R97), or an overrun (R98). -/
def receivePlace (s : State) (n : LineNo) (c : Byte) : State :=
  if (s.ses n).rx.length < fifoSize then
    (((s.modSes n fun r => { r with rx := r.rx ++ [c] }).relayActivity n).judgeHighWater n)
  else
    (s.modUnit n fun u => { u with overruns := satInc 255 u.overruns }).relayActivity n

/-- A character reported as received or sent restarts the traffic timer (R24, R170). -/
def reportTraffic (s : State) (n : LineNo) : State := s.modSup n fun u => { u with traffic := .running 50 }

end State

end Sys2Proof.Machine
end

