-- ==== Sys2Proof/Machine/Charging.lean ====
section
/-! DEFINITION. Shared operations of the Charge Engine and the Charge Record Queue (Chapters 9 and 10). -/

namespace Sys2Proof.Machine.State

/-- A unit debit (R139): one CU from the balance of the account the line's session names, or one of overdraft when the
balance is 0. The Bool says whether it was overdraft. -/
def unitDebit (s : State) (n : LineNo) : State × Bool :=
  match s.accountOf n with
  | some e =>
    if 0 < e.balance then
      ((s.modAccountOf n fun e => { e with balance := e.balance - 1 }).modSes n fun r =>
        { r with debited := satInc maxUnits r.debited }, false)
    else (s.modSes n fun r => { r with overdraft := satInc maxUnits r.overdraft }, true)
  | none => (s, false)

/-- Post a notice to the line's owner (R141). -/
def notifyOwner (s : State) (n : LineNo) (m : Notice) : State :=
  match (s.ses n).owner with
  | some h => s.postNotice h.link m
  | none => s

/-- The low-balance judgement after a unit debit (R140). -/
def judgeWarning (s : State) (n : LineNo) : State :=
  match s.accountOf n with
  | some e =>
    if e.balance < e.warn ∧ (s.ses n).warned = false then
      (((s.modSes n fun r => { r with warned := true }).requestMessage n slotLowBalance).notifyOwner n
        (.lowBalance n e.balance))
    else s
  | none => s

/-- The grace judgement after a unit debit (R142). The Bool says that the line is to be cleared with CREDIT_EXHAUSTED,
its account having no grace minutes. -/
def judgeGrace (s : State) (n : LineNo) (overdraft : Bool) : State × Bool :=
  match s.accountOf n with
  | some e =>
    if overdraft = true ∧ (s.ses n).graceTimer = .stopped then
      if e.grace = 0 then (s, true)
      else
        (((s.modSes n fun r => { r with graceTimer := .running (e.grace * 60000) }).requestMessage n
          slotGrace).notifyOwner n (.grace n e.grace), false)
    else (s, false)
  | none => (s, false)

/-- A unit charged by accrual or by the fee: the debit, the warning, then the grace start (R139, R140, R142). -/
def chargeUnit (s : State) (n : LineNo) : State × Bool :=
  let d := s.unitDebit n
  (d.1.judgeWarning n).judgeGrace n d.2

/-- Several units charged one at a time (R135, R144). -/
def chargeUnits (s : State) (n : LineNo) : Nat → State × Bool
  | 0 => (s, false)
  | k + 1 =>
    let first := s.chargeUnit n
    let others := first.1.chargeUnits n k
    (others.1, first.2 || others.2)

/-- The end rounding (R145): half a unit or more is one more unit debit, with no judgement after it. -/
def endRounding (s : State) (n : LineNo) : State :=
  let charged := if 30000 ≤ (s.ses n).f then (s.unitDebit n).1 else s
  charged.modSes n fun r => { r with f := 0 }

/-- The charge record of a line whose session is closed for a cause (R149). `was` is the state the line was in: from
CONNECTED the last host is the owner, from HELD the previous owner. -/
def buildRecord (s : State) (n : LineNo) (was : LineState) (c : Cause) : ChargeRecord :=
  let r := s.ses n
  { serial := s.serial, line := n, account := r.account, cls := r.cls, rate := r.rate,
    firstHost := r.firstHost, lastHost := if was = .connected then r.owner else r.prevOwner,
    adoptions := r.adoptions, start := r.start, stop := s.clock.stamp, bandSecs := r.bandSecs,
    heldSecs := r.heldSecs, fee := r.fee, debited := r.debited, overdraft := r.overdraft, cause := c }

/-- Queue a record: it takes the next serial and the line's reservation is consumed (R151). -/
def queueRecord (s : State) (rec : ChargeRecord) : State :=
  { s with records := s.records ++ [rec], reservations := s.reservations - 1,
           serial := (s.serial + 1) % 65536 }

/-- Release a line's reservation and lower its account's active count (R9, R84). -/
def releaseAdmission (s : State) (n : LineNo) : State :=
  { s with reservations := s.reservations - 1 }.modAccountOf n fun e => { e with active := e.active - 1 }

/-- The billing fields return to their reset values (R8, step 5). -/
def resetBilling (s : State) (n : LineNo) : State :=
  s.modSes n fun r =>
    { r with f := 0, bandSecs := Vector.replicate 4 0, heldSecs := 0, debited := 0, overdraft := 0, fee := 0,
             start := none, warned := false }

/-- A CLEARED notice goes to the owner of a line that was CONNECTED; a HELD line has none (R8, step 4). -/
def notifyCleared (s : State) (n : LineNo) (was : LineState) (c : Cause) : State :=
  if was = .connected then s.notifyOwner n (.cleared n c) else s

/-- The session closing of R8, from CONNECTED or HELD. -/
def closeSession (s : State) (n : LineNo) (was : LineState) (c : Cause) : State :=
  let rounded := s.endRounding n
  let queued := rounded.queueRecord (rounded.buildRecord n was c)
  let counted := queued.modAccountOf n fun e => { e with active := e.active - 1 }
  (counted.notifyCleared n was c).resetBilling n

end Sys2Proof.Machine.State
end

