-- ==== Sys2Proof/Machine/Clearing.lean ====
section
/-! DEFINITION. The Session Table's shared operations: IDLE and OUT_OF_SERVICE entries, hang-up, and the clearing
sequence (Chapter 1), with the ring detector's start and stop (R40) and the drain judgement (R169). -/

namespace Sys2Proof.Machine

/-- The ring detector started afresh: QUALIFYING if RNG is asserted, timed from this moment, else ARMED (R40). -/
def Ring.afresh (rng : Bool) : Ring :=
  { Ring.reset with cond := if rng then .qualifying else .armed }

/-- REARM, counting toward 20 ms of deassertion; `stores` for a false burst, whose on-time goes on (R43, R46). -/
def Ring.toRearm (d : Ring) (stores : Bool) : Ring :=
  { d with cond := .rearm, run := 0, reached := false, gapHeld := false, stores := stores }

namespace State

/-- The drain of a DRAINING service is complete when every line is IDLE or OUT_OF_SERVICE (R169). -/
def judgeDrained (s : State) : State :=
  if s.service = .draining ∧ s.countLines (fun _ l => l.ses.state.busy) = 0 then
    { s with service := .closed }.postNotice .acct .drained
  else s

/-- Start the ring detector afresh where the service state is OPEN, else leave it STOPPED (R40). -/
def startRing (s : State) (n : LineNo) : State :=
  s.modUnit n fun u =>
    { u with ring := if s.service = .opened then .afresh u.rngSeen else .reset }

/-- The IDLE entry (R4, R31, R40), judged for the drain (R169). -/
def idleEntry (s : State) (n : LineNo) : State :=
  let wiped := s.modSes n fun r => { Session.reset with state := .idle, cls := r.cls, toggle := r.toggle }
  let quiet := wiped.modUnit n fun u => { u with trdy := true, transmitter := .idle, flow := none }
  (quiet.startRing n).judgeDrained

/-- The OUT_OF_SERVICE entry (R19, R31), judged for the drain (R169). -/
def outEntry (s : State) (n : LineNo) : State :=
  let wiped := s.modSes n fun r => { Session.reset with cls := r.cls, toggle := r.toggle }
  (wiped.modUnit n fun u =>
    { u with ans := false, trdy := false, ring := .reset, carrier := .stopped, speed := .stopped,
             receiver := .stopped, transmitter := .idle, flow := none, modem := .stopped }).judgeDrained

/-- The end of the guard time (R15). -/
def guardEnd (s : State) (n : LineNo) : State :=
  if (s.ses n).disablePending then s.outEntry n else s.idleEntry n

/-- The hang-up (R14): with a guard time of 0 the guard expiry follows at once. -/
def hangUp (s : State) (n : LineNo) : State :=
  let quiet := s.modUnit n fun u =>
    { u with ans := false, trdy := false, carrier := .stopped, speed := .stopped, receiver := .stopped,
             transmitter := .idle, flow := none }
  let guarded := quiet.modSes n fun r =>
    { r with phase := .guard, stateTimer := .start (s.params.guardTime * 1000) }
  if s.params.guardTime = 0 then guarded.guardEnd n else guarded

/-- What a clear request takes first: the cause stands in the record (R6), the line is CLEARING, its timers stop, the
receive FIFO is emptied and XOFF-sent cleared (R7); ring qualification and an autobaud attempt end (R13, R59). -/
def takeClear (s : State) (n : LineNo) (c : Cause) : State :=
  let cleared := s.modSes n fun r =>
    { r with state := .clearing, cause := some c, stateTimer := .stopped, idleTimer := .stopped,
             graceTimer := .stopped, rx := [], xoffSent := false }
  cleared.modUnit n fun u =>
    { u with speed := .stopped,
             carrier := match u.carrier with
               | .qualifying _ _ => .stopped
               | other => other }

/-- The WITHDRAWN reason of a clear cause (R9). The other causes clear no line that has an offer pending. -/
def withdrawReason (c : Cause) : Option Reason :=
  match c with
  | .callerDropped => some .callerGone
  | .hostLost => some .holdExpired
  | .forced => some .forced
  | .serviceClosed => some .serviceClosed
  | .lineFault => some .lineFault
  | .creditExhausted => some .forced
  | _ => none

/-- The offer fields return to no, NONE, NONE and the offer timer stops (R78). -/
def dropOffer (s : State) (n : LineNo) : State :=
  s.modSes n fun r => { r with offer := none, offerTimer := .stopped }

/-- The withdrawal of a clearing line's offer (R9); a line that was OFFERED also gives back its reservation and its
account's active count. -/
def withdrawOffer (s : State) (n : LineNo) (was : LineState) (c : Cause) : State :=
  match (s.ses n).offer with
  | some o =>
    let dropped := s.dropOffer n
    let told := match withdrawReason c with
      | some why => dropped.postNotice o.target.link (.withdrawn n (s.ses n).toggle why)
      | none => dropped
    if was = .offered then told.releaseAdmission n else told
  | none => s

/-- The message slot a clear cause carries (R10). -/
def clearMessage (c : Cause) : Option (Fin 16) :=
  match c with
  | .hostReleased | .hostLost | .creditExhausted | .forced | .serviceClosed | .signonFailed => some slotGoodbye
  | .idleTimeout | .signonTimeout => some slotTimedOut
  | .callerDropped | .lineFault | .speedFail | .noCarrier => none

/-- The final message is requested when CAR is asserted at the moment of entry (R10). -/
def finalMessage (s : State) (n : LineNo) (c : Cause) : State :=
  match clearMessage c with
  | some slot => if (s.unit n).car then s.requestMessage n slot else s
  | none => s

/-- The causes that hang up at once, with nothing sent (R11). -/
def hangsUpAtOnce (c : Cause) : Bool :=
  match c with
  | .lineFault | .noCarrier | .speedFail => true
  | _ => false

/-- What a line has to send as phase DRAIN begins: nothing on a line with no rate (R12), no message text after a
carrier-lost event (R51), else all that it holds. -/
def drainContents (s : State) (n : LineNo) (c : Cause) : State :=
  if (s.ses n).rate.isNone then s.emptyOut n
  else if c = .callerDropped then s.emptyFeed n else s

/-- The end of the entry event: an immediate hang-up, or phase DRAIN, which is complete at once when nothing is left
to send (R11, R12). -/
def startDrain (s : State) (n : LineNo) (c : Cause) : State :=
  if hangsUpAtOnce c then (s.emptyOut n).hangUp n
  else
    let left := s.drainContents n c
    let draining := left.modSes n fun r =>
      { r with phase := .drain, stateTimer := .running (s.params.drainLimit * 1000) }
    if (draining.ses n).feed.isEmpty ∧ (draining.ses n).tx.isEmpty then draining.hangUp n else draining

/-- Entry to CLEARING (R7 to R11), as one event. -/
def enterClearing (s : State) (n : LineNo) (c : Cause) : State :=
  let was := (s.ses n).state
  let taken := s.takeClear n c
  let closed := if was = .connected ∨ was = .held then taken.closeSession n was c else taken
  let withdrawn := closed.withdrawOffer n was c
  (withdrawn.finalMessage n c).startDrain n c

/-- A clear request (R6): taken in an active state, ignored in every other. -/
def clearRequest (s : State) (n : LineNo) (c : Cause) : State :=
  if (s.ses n).state.active then s.enterClearing n c else s

/-- A RINGING line returns to IDLE without the reset of R4 (R43, R44, R46). -/
def ringingToIdle (s : State) (n : LineNo) : State :=
  if (s.ses n).state = .ringing then
    s.modSes n fun r => { r with state := .idle, ringCount := 0, stateTimer := .stopped }
  else s

end State

end Sys2Proof.Machine
end

