-- ==== Sys2Proof/Machine/Offers.lean ====
section
/-! DEFINITION. Shared operations of the Offer Unit and the Sign-On Unit's refusals: host routing, offer attempts,
declines, holding and adoption, and a host link going UP or DOWN (Chapters 4 and 5). -/

namespace Sys2Proof.Machine.State

/-! ### Host routing (R70) -/

/-- The load of a host, the line being routed left out (R70). -/
def load (s : State) (n : LineNo) (h : Computer) : Nat :=
  s.countLines fun m l =>
    m != n && (l.ses.ownedBy h || (l.ses.state == .offered && (l.ses.offer.map (·.target)) == some h))

/-- Of two acceptable hosts the one with the smaller load, A when equal (R70, R93). -/
def lighter (s : State) (n : LineNo) : Computer := if s.load n .a ≤ s.load n .b then .a else .b

/-- The choice among the hosts that pass a test. -/
def choose (s : State) (n : LineNo) (ok : Computer → Bool) : Option Computer :=
  match ok .a, ok .b with
  | true, true => some (s.lighter n)
  | true, false => some .a
  | false, true => some .b
  | false, false => none

/-- Host routing (R70) of a line for an account's hosts permitted, a requested host and the hosts already tried. -/
def route (s : State) (n : LineNo) (permitted : HostSet) (requested : Option Computer) (tried : HostSet) :
    Option Computer :=
  let eligible := fun h => permitted.has h && (s.host h).up && !tried.has h
  match requested with
  | some h => if eligible h then some h else none
  | none => s.choose n eligible

/-! ### Refusals (R74, R75) -/

/-- A refusal with its message (R74); the refusal that uses the last attempt clears the line (R75). -/
def refuse (s : State) (n : LineNo) (slot : Fin 16) : State :=
  let counted := s.modSes n fun r => { r with attempts := satInc 7 r.attempts, buffer := [] }
  let told := counted.requestMessage n slot
  if s.params.signOnAttempts ≤ (told.ses n).attempts then told.clearRequest n .signonFailed
  else
    (told.requestMessage n slotPrompt).modSes n fun r =>
      { r with stateTimer := .running (s.params.signOnLimit * 1000) }

/-- An OFFERED line with no further candidate returns to SIGN_ON and is refused HOST_DECLINED (R84, R74). -/
def returnToSignOn (s : State) (n : LineNo) : State :=
  let released := s.releaseAdmission n
  (released.modSes n fun r =>
    { r with state := .signOn, stateTimer := .running (s.params.signOnLimit * 1000), account := none,
             requested := none }).refuse n slotDeclined

/-! ### Offer attempts (R79) -/

/-- The notice of an offer. -/
def offerNotice (n : LineNo) (kind : OfferKind) (toggle : Bool) (account : Nat) : Notice :=
  match kind with
  | .signOn => .offer n toggle account
  | .adopt => .adopt n toggle account

/-- Post an offer to a queue with room (R79). -/
def postOffer (s : State) (n : LineNo) (h : Computer) (kind : OfferKind) : State :=
  let toggle := !(s.ses n).toggle
  (s.pushNotice h.link (offerNotice n kind toggle ((s.ses n).account.getD 0))).modSes n fun r =>
    { r with toggle := toggle, offer := some ⟨h, kind⟩, offerTimer := .running (s.params.offerLimit * 1000) }

/-- The candidate for a re-route, none once two attempts are used (R84). -/
def rerouteCandidate (s : State) (n : LineNo) : Option Computer :=
  if 2 ≤ (s.ses n).offerAttempts then none
  else match s.accountOf n with
    | some e => s.route n e.hosts (s.ses n).requested (s.ses n).tried
    | none => none

/-- A SIGN_ON offer attempt (R79). A full queue is a decline, re-routed in the same event (R84). The chain ends within
two attempts, because the attempts are counted, so `fuel` 2 never runs out. -/
def signOnAttempt (s : State) (n : LineNo) (h : Computer) : Nat → State
  | 0 => s
  | k + 1 =>
    let counted := s.modSes n fun r => { r with offerAttempts := r.offerAttempts + 1, tried := r.tried.add h }
    if !counted.queueFull h.link then counted.postOffer n h .signOn
    else
      match counted.rerouteCandidate n with
      | some h' => counted.signOnAttempt n h' k
      | none => counted.returnToSignOn n

/-- A SIGN_ON offer's decline (R84). -/
def declineSignOn (s : State) (n : LineNo) : State :=
  let dropped := s.dropOffer n
  match dropped.rerouteCandidate n with
  | some h => dropped.signOnAttempt n h 2
  | none => dropped.returnToSignOn n

/-! ### Holding and adoption (R91 to R94) -/

/-- The host the adoption search finds for a line (R93). -/
def adoptionCandidate (s : State) (n : LineNo) : Option Computer :=
  if (s.ses n).offer.isSome then none
  else s.choose n fun h => (s.host h).up && s.permitsHost n h && !(s.ses n).declined.has h

/-- A host joins the declined-by set (R94, step 2). -/
def addDeclined (s : State) (n : LineNo) (h : Computer) : State :=
  s.modSes n fun r => { r with declined := r.declined.add h }

/-- The adoption search of a HELD line (R93). A full queue is a decline (R79) and the search is made again (R94); each
decline removes a host, so `fuel` 2 lets the chain end. -/
def adoptionSearch (s : State) (n : LineNo) : Nat → State
  | 0 => s
  | k + 1 =>
    match s.adoptionCandidate n with
    | some h =>
      if !s.queueFull h.link then s.postOffer n h .adopt
      else (s.addDeclined n h).adoptionSearch n k
    | none => s

/-- An ADOPT offer attempt to one host (R92, step 3). -/
def adoptAttempt (s : State) (n : LineNo) (h : Computer) : State :=
  if !s.queueFull h.link then s.postOffer n h .adopt
  else (s.addDeclined n h).adoptionSearch n 2

/-- An ADOPT offer's decline by a host (R94). -/
def declineAdopt (s : State) (n : LineNo) (h : Computer) : State :=
  ((s.dropOffer n).addDeclined n h).adoptionSearch n 2

/-- The decline of a pending offer by its target, by its kind (R84, R94). -/
def declineOffer (s : State) (n : LineNo) (o : Offer) : State :=
  match o.kind with
  | .signOn => s.declineSignOn n
  | .adopt => s.declineAdopt n o.target

/-- Entry to HELD when the owner is lost (R91); a hold limit of 0 clears the line at once. -/
def heldEntry (s : State) (n : LineNo) (h : Computer) : State :=
  let lost := s.modSes n fun r =>
    { r with state := .held, prevOwner := some h, owner := none, idleTimer := .stopped }
  let told := lost.requestMessage n slotHolding
  let timed := told.modSes n fun r => { r with stateTimer := .start (s.params.holdLimit * 60000) }
  if s.params.holdLimit = 0 then timed.clearRequest n .hostLost else timed

/-! ### Host links going DOWN and UP (R90, R92) -/

/-- Step 3 of R90 for one line: an offer to the lost host is withdrawn; a SIGN_ON offer is then declined. -/
def withdrawLost (s : State) (n : LineNo) (h : Computer) : State :=
  match (s.ses n).offer with
  | some o =>
    if o.target = h then
      if (s.ses n).state = .offered then s.declineSignOn n else s.dropOffer n
    else s
  | none => s

/-- A host link goes DOWN (R90). -/
def linkDown (s : State) (h : Computer) : State :=
  let down := s.modHost h fun _ => ⟨false, .stopped⟩
  let wiped := down.modPort h.link fun p => { p with notices := [], lost := false, cursor := none }
  let held := wiped.forLines fun t n => if (t.ses n).ownedBy h then t.heldEntry n h else t
  let withdrawn := held.forLines fun t n => t.withdrawLost n h
  let told := withdrawn.postNotice .acct (.hostDown h)
  told.forLines fun t n => if (t.ses n).state = .held then t.adoptionSearch n 2 else t

/-- A host link goes UP (R92), and its silence timer starts (R88). -/
def linkUp (s : State) (h : Computer) : State :=
  let up := s.modHost h fun _ => ⟨true, .running (s.params.hostSilence * 1000)⟩
  let forgiven := up.forLines fun t n => t.modSes n fun r => { r with declined := r.declined.remove h }
  let told := forgiven.postNotice .acct (.hostUp h)
  told.forLines fun t n =>
    if (t.ses n).state = .held ∧ (t.ses n).offer = none ∧ t.permitsHost n h = true then t.adoptAttempt n h else t

end Sys2Proof.Machine.State
end

