-- ==== Sys2Proof/Machine/Exchange.lean ====
section
/-! DEFINITION. Shared operations of the Link Ports: the exchange, link activity and the taking of an order
(Chapter 12).

A command that is a frame's end and finds no exchange begun on its link stands for the whole exchange: the outbound
frame is built first, from the same state (log 7). -/

namespace Sys2Proof.Machine

/-- What a meaning answers. -/
abbrev Result := Host.Outcome State Fault Refusal

namespace State

/-- Select is asserted (R171): with READY asserted the outbound frame is built from the state as it stands; else the
frame is ignored to its end, and 0xFF is driven (R172). -/
def beginExchange (s : State) (k : Link) : State :=
  if (s.port k).ready then
    s.modPort k fun p => { p with exchange := .active, outbound := outboundFrame s k }
  else s.modPort k fun p => { p with exchange := .ignored, outbound := ignoredFrameBytes }

/-- The exchange a frame's end belongs to. -/
def inExchange (s : State) (k : Link) : State :=
  if (s.port k).exchange = .none then s.beginExchange k else s

/-- No frame is on the link any more. -/
def endExchange (s : State) (k : Link) : State := s.modPort k fun p => { p with exchange := .none }

/-- A reply replaces the pending reply of a link (R173). -/
def setReply (s : State) (k : Link) (r : Reply) : State := s.modPort k fun p => { p with reply := r }

/-- A complete frame is taken as one event (R173), unless the part ignores it (R172). -/
def takeFrame (s : State) (k : Link) (f : State → State) : State :=
  let begun := s.inExchange k
  if (begun.port k).exchange = .ignored then begun.endExchange k else f (begun.endExchange k)

/-- Link activity (R88): a good frame restarts an UP host link's silence timer, or brings a DOWN host link UP. -/
def linkActivity (s : State) (k : Link) : State :=
  match k.host? with
  | some h =>
    if (s.host h).up then s.modHost h fun u => { u with silence := .running (s.params.hostSilence * 1000) }
    else s.linkUp h
  | none => s

/-- A good frame: link activity, then its order, whose reply replaces the pending reply (R88, R173). -/
def takeOrder (s : State) (k : Link) (order : State → State × Reply) : State :=
  s.takeFrame k fun t =>
    let done := order (t.linkActivity k)
    done.1.setReply k done.2

/-- An order taken on the host links (R174). -/
def hostOrder (s : State) (k : Link) (order : Computer → State → State × Reply) : State :=
  s.takeOrder k fun t =>
    match k.host? with
    | some h => order h t
    | none => (t, replyOf .notPermitted)

/-- An order taken on the accounting link (R174). -/
def acctOrder (s : State) (k : Link) (order : State → State × Reply) : State :=
  s.takeOrder k fun t =>
    match k.host? with
    | some _ => (t, replyOf .notPermitted)
    | none => order t

/-- An order refused, or one that only reads: the reply, and nothing changed. -/
def answered (s : State) (r : Reply) : State × Reply := (s, r)

/-- An order's effect on the line its selector names (R174). -/
def onLine (s : State) (sel : Byte) (act : LineNo → State × Reply) : State × Reply :=
  match lineSel sel with
  | some n => act n
  | none => (s, replyOf .badArgument)

/-- An order's effect on the entry under a link's account cursor (R114, R117, R119, R122). -/
def onCursor (s : State) (k : Link) (act : Account → State × Reply) : State × Reply :=
  match (s.port k).cursor.bind s.account? with
  | some e => act e
  | none => (s, replyOf .notFound)

end State

end Sys2Proof.Machine
end

