-- ==== Sys2Proof/Machine/Accounts.lean ====
section
/-! DEFINITION. LINE READ, CLOCK READ and the account orders (R22, R127 and Chapter 7). -/

namespace Sys2Proof.Machine

/-- LINE READ: changes nothing (R22). -/
def execLineRead (k : Link) (line group : Byte) (s : State) : Result :=
  .next (s.takeOrder k fun t => t.onLine line fun n =>
    match (t.ses n).group group.toNat with
    | some d => t.answered (okWith d)
    | none => t.answered (replyOf .badArgument))

/-- CLOCK READ: changes nothing (R127). -/
def execClockRead (k : Link) (s : State) : Result :=
  .next (s.takeOrder k fun t =>
    t.answered (okWith (flagByte t.clock.set ++ BitVec.ofNat 16 t.clock.minute ++ byteOf t.clock.second)))

/-- The highest account number (0.6.3). -/
def maxAccount : Nat := 999999

namespace State

/-- Put a link's account cursor somewhere (R112). -/
def setCursor (s : State) (k : Link) (c : Option Nat) : State := s.modPort k fun p => { p with cursor := c }

/-- The entry that ACCOUNT NEXT moves a cursor to: the lowest one above it, or the lowest of all (R115). -/
def nextAccount (s : State) (c : Option Nat) : Option Account :=
  match c with
  | some number => s.accounts.find? fun e => decide (number < e.number)
  | none => s.accounts.head?

/-- After a credit or a balance set (R120): with a balance above 0 the account's grace timers stop, and warned flags
clear where the balance is at or above the threshold. -/
def judgeBalance (s : State) (number : Nat) : State :=
  match s.account? number with
  | some e =>
    if 0 < e.balance then
      s.forLines fun t n =>
        if ((t.ses n).state = .connected ∨ (t.ses n).state = .held) ∧ (t.ses n).account = some number then
          t.modSes n fun r =>
            { r with graceTimer := .stopped, warned := if e.warn ≤ e.balance then false else r.warned }
        else t
    else s
  | none => s

end State

/-- An entry inserted in its place in the ascending order (R111, R116). -/
def insertAccount (e : Account) : List Account → List Account
  | [] => [e]
  | x :: rest => if e.number < x.number then e :: x :: rest else x :: insertAccount e rest

/-- ACCOUNT SELECT (R113). -/
def execAccountSelect (k : Link) (number : Word32) (s : State) : Result :=
  .next (s.takeOrder k fun t =>
    if maxAccount < number.toNat then t.answered (replyOf .badArgument)
    else if (t.account? number.toNat).isSome then (t.setCursor k (some number.toNat), replyOf .ok)
    else (t.setCursor k none, replyOf .notFound))

/-- ACCOUNT READ: changes nothing (R114). -/
def execAccountRead (k : Link) (field : Byte) (s : State) : Result :=
  .next (s.takeOrder k fun t =>
    if 8 < field.toNat then t.answered (replyOf .badArgument)
    else t.onCursor k fun e =>
      match e.field field.toNat with
      | some d => t.answered (okWith d)
      | none => t.answered (replyOf .badArgument))

/-- ACCOUNT NEXT (R115). -/
def execAccountNext (k : Link) (s : State) : Result :=
  .next (s.takeOrder k fun t =>
    match t.nextAccount (t.port k).cursor with
    | some e => (t.setCursor k (some e.number), okWith (wordOf e.number))
    | none => (t.setCursor k none, replyOf .empty))

/-- ACCOUNT CREATE (R116). -/
def execAccountCreate (k : Link) (number : Word32) (s : State) : Result :=
  .next (s.acctOrder k fun t =>
    if maxAccount < number.toNat then t.answered (replyOf .badArgument)
    else if (t.account? number.toNat).isSome then t.answered (replyOf .duplicate)
    else if 128 ≤ t.accounts.length then t.answered (replyOf .tableFull)
    else
      ({ t with accounts := insertAccount (Account.fresh number.toNat) t.accounts }.setCursor .acct
        (some number.toNat), replyOf .ok))

/-- Whether ACCOUNT SET refuses a field code or value code, whatever entry the cursor is on (R117, checks 1 and 2). -/
def setRefused (field value : Nat) : Bool := ((Account.fresh 0).withField field value).isNone

/-- ACCOUNT SET; a balance written acts on the account's sessions (R117, R120). -/
def execAccountSet (k : Link) (field : Byte) (value : Word32) (s : State) : Result :=
  .next (s.acctOrder k fun t =>
    if setRefused field.toNat value.toNat then t.answered (replyOf .badArgument)
    else t.onCursor .acct fun e =>
      match e.withField field.toNat value.toNat with
      | some (e', clamped) =>
        let written := t.modAccount e.number fun _ => e'
        (if field.toNat = 2 then written.judgeBalance e.number else written, okOrClamped clamped)
      | none => t.answered (replyOf .badArgument))

/-- ACCOUNT CREDIT: adds, saturating, then acts on the account's sessions (R119, R120). -/
def execAccountCredit (k : Link) (amount : Word32) (s : State) : Result :=
  .next (s.acctOrder k fun t => t.onCursor .acct fun e =>
    ((t.modAccount e.number fun e => { e with balance := min (e.balance + amount.toNat) maxUnits }).judgeBalance
      e.number, okOrClamped (decide (maxUnits < e.balance + amount.toNat))))

/-- A cursor after an entry has been removed (R112). -/
def cursorWithout (number : Nat) (c : Option Nat) : Option Nat := if c = some number then none else c

/-- ACCOUNT REMOVE: refused IN_USE while sessions are active; else every cursor on the entry is emptied (R122). -/
def execAccountRemove (k : Link) (s : State) : Result :=
  .next (s.acctOrder k fun t => t.onCursor .acct fun e =>
    if 0 < e.active then t.answered (replyOf .inUse)
    else
      let gone := { t with accounts := t.accounts.filter fun x => x.number != e.number }
      let off := fun p : LinkPort => { p with cursor := cursorWithout e.number p.cursor }
      ((((gone.modPort .hostA off).modPort .hostB off).modPort .acct off), replyOf .ok))

end Sys2Proof.Machine
end

