-- ==== Sys2Proof/Machine/SignOn.lean ====
section
/-! DEFINITION. The Sign-On Unit's shared operations: line editing, evaluation and admission (Chapter 4). -/

namespace Sys2Proof.Machine

/-- A digit, 48 to 57 (R62). -/
def isDigit (c : Byte) : Bool := 48 ≤ c.toNat && c.toNat ≤ 57

/-- The storable characters: digits, comma, A, B, a and b (R62). -/
def storable (c : Byte) : Bool := isDigit c || ([44, 65, 66, 97, 98] : List Nat).contains c.toNat

/-- The host that a sign-on letter names (R67). -/
def hostLetter (c : Byte) : Option Computer :=
  if c.toNat = 65 ∨ c.toNat = 97 then some .a
  else if c.toNat = 66 ∨ c.toNat = 98 then some .b else none

/-- Digits read as a decimal number (R67). -/
def decimal (cs : List Byte) : Nat := cs.foldl (fun v c => 10 * v + (c.toNat - 48)) 0

/-- The syntax check (R67): six digits, or six digits, a comma and a host letter. The result is the account number and
the requested host. -/
def parseSignOn (buf : List Byte) : Option (Nat × Option Computer) :=
  let digits := buf.take 6
  if digits.length = 6 ∧ digits.all isDigit then
    match buf.drop 6 with
    | [] => some (decimal digits, none)
    | [comma, letter] =>
      if comma.toNat = 44 then (hostLetter letter).map fun h => (decimal digits, some h) else none
    | _ => none
  else none

/-- What an evaluation finds: the slot of the refusal message, or what admission needs. -/
abbrev Evaluation := Except (Fin 16) (Nat × Option Computer × Computer)

namespace State

/-- Checks 2 to 7 of an evaluation, for an account number and requested host (R66, R68 to R72). -/
def checkAccount (s : State) (n : LineNo) (number : Nat) (requested : Option Computer) : Evaluation :=
  match s.account? number with
  | none => .error slotAccount
  | some e =>
    if e.state = .suspended then .error slotAccount
    else if e.classes.getLsbD (s.ses n).cls.val = false then .error slotAccount
    else if e.balance < s.tariff.classes[(s.ses n).cls.val].fee ∨ e.balance < 1 then .error slotBalance
    else if e.limit ≤ e.active then .error slotLimit
    else match s.route n e.hosts requested .empty with
      | none => .error slotHost
      | some h => if 32 ≤ s.recordSum then .error slotBusy else .ok (number, requested, h)

/-- The evaluation of a line's sign-on buffer (R66). -/
def evaluation (s : State) (n : LineNo) : Evaluation :=
  match parseSignOn (s.ses n).buffer with
  | none => .error slotSyntax
  | some (number, requested) => s.checkAccount n number requested

/-- Admission (R73). -/
def admitCaller (s : State) (n : LineNo) (number : Nat) (requested : Option Computer) (h : Computer) : State :=
  let reserved := { s with reservations := s.reservations + 1 }
  let counted := reserved.modAccount number fun e => { e with active := e.active + 1 }
  let written := counted.modSes n fun r =>
    { r with account := some number, requested := requested, buffer := [], state := .offered,
             stateTimer := .stopped, offerAttempts := 0, tried := .empty }
  written.signOnAttempt n h 2

/-- The end of the sign-on line (R66): CR and LF are echoed, then the buffer is evaluated. -/
def endOfLine (s : State) (n : LineNo) : State :=
  let shown := s.echoAll n [chCr, chLf]
  match shown.evaluation n with
  | .error slot => shown.refuse n slot
  | .ok (number, requested, h) => shown.admitCaller n number requested h

/-- A storable character: stored with its echo, or BEL when the buffer holds 16 (R62). -/
def storeChar (s : State) (n : LineNo) (c : Byte) : State :=
  if (s.ses n).buffer.length < 16 then
    (s.modSes n fun r => { r with buffer := r.buffer ++ [c] }).echo n c
  else s.echo n chBel

/-- An erase character (R63). -/
def eraseChar (s : State) (n : LineNo) : State :=
  if (s.ses n).buffer.isEmpty then s.echo n chBel
  else (s.modSes n fun r => { r with buffer := r.buffer.dropLast }).echoAll n [chBs, chSp, chBs]

/-- A kill character (R64). -/
def killLine (s : State) (n : LineNo) : State :=
  ((s.modSes n fun r => { r with buffer := [] }).echoAll n [chCr, chLf]).requestMessage n slotPrompt

/-- A character taken in SIGN_ON, by its group (R62). -/
def signOnChar (s : State) (n : LineNo) (c : Byte) : State :=
  if storable c then s.storeChar n c
  else if c.toNat = 8 ∨ c.toNat = 127 then s.eraseChar n
  else if c.toNat = 21 then s.killLine n
  else if c.toNat = 13 then s.endOfLine n
  else if 32 ≤ c.toNat ∧ c.toNat ≤ 126 then s.echo n chBel
  else s

end State

end Sys2Proof.Machine
end

