-- ==== Sys2Proof/Machine/Characters.lean ====
section
/-! DEFINITION. The receiver's and transmitter's events and the message feed step (Chapter 2). -/

namespace Sys2Proof.Machine

namespace State

/-- The states in which the receiver delivers or discards characters (R29). -/
def receives (s : State) (n : LineNo) : Bool :=
  match (s.ses n).state with
  | .signOn | .offered | .connected | .held => true
  | _ => (s.ses n).draining

/-- A good character goes where the line state sends it (R29). -/
def deliver (s : State) (n : LineNo) (c : Byte) : State :=
  match (s.ses n).state with
  | .signOn => s.signOnChar n c
  | .connected | .held => s.receivePlace n c
  | _ => s

/-- A character with a framing or parity error is discarded and counted once (R28). -/
def countCharError (s : State) (n : LineNo) : State :=
  if s.receives n then s.modUnit n fun u => { u with charErrors := satInc 255 u.charErrors } else s

/-- The format of the character that a running receiver completes: the one it began with, none where the receiver
completes nothing (R26, R27; log 9). -/
def formatReceived (s : State) (n : LineNo) : Option Format :=
  match (s.unit n).receiver with
  | .hunting => some (s.formatOf n)
  | .edge _ f => some f
  | .assembling _ f _ _ => some f
  | .stopped | .waitingForMark => none

end State

/-- START_BIT_SAMPLE: space begins a character, mark was noise (R27). -/
def execStartBitSample (n : LineNo) (mark : Bool) (s : State) : Result :=
  let began := fun (r : Rate) (f : Format) =>
    s.modUnit n fun u =>
      { u with rxd := mark, receiver := if mark then .hunting else .assembling (r.ticks / 2) f 0 none }
  .next (match (s.unit n).receiver, (s.ses n).rate with
  | .hunting, some r => began r (s.formatOf n)
  | .edge _ f, some r => began r f
  | _, _ => s)

/-- CHARACTER_RECEIVED: the judgement at the stop bit sample (R27 to R29). -/
def execCharacterReceived (n : LineNo) (bits : Byte) (stop : Bool) (s : State) : Result :=
  .next (match s.formatReceived n with
  | some f =>
    let heard := s.modUnit n fun u =>
      { u with rxd := stop, receiver := if stop then .hunting else .waitingForMark }
    let lit := heard.reportTraffic n
    if stop && f.parityOk bits then lit.deliver n (f.value bits) else lit.countCharError n
  | none => s)

/-- RETURN_TO_HUNTING (R27). -/
def execReturnToHunting (n : LineNo) (s : State) : Result :=
  .next (if (s.unit n).receiver = .waitingForMark then
    s.modUnit n fun u => { u with rxd := true, receiver := .hunting }
  else s)

/-- TRANSMIT_CHARACTER_DONE: the character is reported as sent, and the next is taken (R24, R30). -/
def execTransmitCharacterDone (n : LineNo) (s : State) : Result :=
  .next (match (s.unit n).transmitter with
  | .sending _ _ _ => ((s.modUnit n fun u => { u with transmitter := .idle }).reportTraffic n).takeNext n
  | .idle => s)

/-- MESSAGE_FEED_STEP (R36). -/
def execMessageFeedStep (n : LineNo) (s : State) : Result := .next (s.feedStep n)

end Sys2Proof.Machine
end

