-- ==== Sys2Proof/Machine/Frames.lean ====
section
/-! DEFINITION. Reset, frames that carry no order, and the link orders of Chapter 12: EXCHANGE START, CHECK_FAIL,
SHORT and IGNORED frames, unknown orders, NOP, STATUS, NOTICE FETCH and NOTICE MASK. -/

namespace Sys2Proof.Machine

/-- A line after device reset: its input pins keep the levels its modem drives (R5, log 6). -/
def Line.afterReset (l : Line) : Line :=
  { Line.reset with
    unit := { LineUnit.reset with
      rng := l.unit.rng, car := l.unit.car, mrdy := l.unit.mrdy, rxd := l.unit.rxd,
      rngSeen := l.unit.rngSeen, mrdySeen := l.unit.mrdySeen } }

/-- A link port while RESET is asserted: READY deasserted, and a frame on the link ignored to its end (R172, R181). -/
def LinkPort.inReset (p : LinkPort) : LinkPort :=
  match p.exchange with
  | .none => { LinkPort.reset with ready := false }
  | _ => { LinkPort.reset with ready := false, exchange := .ignored, outbound := ignoredFrameBytes }

/-- DEVICE_RESET: power-on, or assertion of RESET (R5, R181; 0.6.8). The part stays in reset until RESET_END. -/
def execDeviceReset (s : State) : Result :=
  .next { State.reset with
    lines := mapEach Line.afterReset s.lines
    portA := s.portA.inReset
    portB := s.portB.inReset
    portAcct := s.portAcct.inReset
    inReset := true
    ticks := s.ticks
    picks := s.picks
    pending := s.pending }

/-- RESET_END: READY is asserted on every link and the clock's sub-second phase starts at 0 (R125, R173). -/
def execResetEnd (s : State) : Result :=
  .next (if s.inReset then
    let started := { s with inReset := false, msPhase := 0, clock := { s.clock with phase := 0 } }
    ((started.modPort .hostA fun p => { p with ready := true }).modPort .hostB fun p =>
      { p with ready := true }).modPort .acct fun p => { p with ready := true }
  else s)

/-- EXCHANGE_START (R171, R172). -/
def execExchangeStart (k : Link) (s : State) : Result := .next (s.beginExchange k)

/-- CHECK_FAIL: a complete frame whose check byte does not hold is no link activity (R171). -/
def execCheckFail (k : Link) (s : State) : Result :=
  .next (s.takeFrame k fun t => t.setReply k (replyOf .checkFail))

/-- SHORT_FRAME: everything received is discarded, the pending reply kept (R172). -/
def execShortFrame (k : Link) (s : State) : Result := .next ((s.inExchange k).endExchange k)

/-- IGNORED_FRAME: 0xFF is driven, and nothing else changes (R172). -/
def execIgnoredFrame (k : Link) (s : State) : Result :=
  .next (s.modPort k fun p => { p with exchange := .none, outbound := ignoredFrameBytes })

/-- ORDER_UNKNOWN: refused BAD_ORDER; the frame is link activity (R174). -/
def execOrderUnknown (k : Link) (_code : Byte) (s : State) : Result :=
  .next (s.takeOrder k fun t => t.answered (replyOf .badOrder))

/-- NOP (R173). -/
def execNop (k : Link) (s : State) : Result := .next (s.takeOrder k fun t => t.answered (replyOf .ok))

/-- The line count of STATUS: CONNECTED lines of a host, or lines in use for the accounting link (R176). -/
def statusLines (s : State) (k : Link) : Nat :=
  match k.host? with
  | some h => s.countLines fun _ l => l.ses.ownedBy h
  | none => s.countLines fun _ l => l.ses.state.busy

/-- STATUS: the four counts, then LOST is cleared (R176). -/
def execStatus (k : Link) (s : State) : Result :=
  .next (s.takeOrder k fun t =>
    (t.modPort k fun p => { p with lost := false },
     okWith (bytes4 (byteOf (t.port k).notices.length) (byteOf t.records.length) (byteOf t.reservations)
       (byteOf (statusLines t k)))))

/-- NOTICE FETCH (R178). -/
def execNoticeFetch (k : Link) (s : State) : Result :=
  .next (s.takeOrder k fun t =>
    match (t.port k).notices with
    | [] => t.answered (replyOf .empty)
    | m :: rest => (t.modPort k fun p => { p with notices := rest }, okWith m.layout))

/-- The mask bits that have a kind on a link (R179). -/
def maskBits : Link → Byte
  | .acct => 7
  | _ => 3

/-- NOTICE MASK: bits with no kind are held as 0 (R179). -/
def execNoticeMask (k : Link) (mask : Byte) (s : State) : Result :=
  .next (s.takeOrder k fun t =>
    (t.modPort k fun p => { p with mask := mask &&& maskBits k }, okWith (bytes4 (mask &&& maskBits k) 0 0 0)))

end Sys2Proof.Machine
end

