-- ==== Sys2Proof/Machine/HostOrders.lean ====
section
/-! DEFINITION. The orders of the host links: ANSWER, RX SCAN, RECEIVE, SEND, RELEASE and DETACH (Chapters 5
and 6). -/

namespace Sys2Proof.Machine

namespace State

/-- The sign-on fee and the start stamp (R144). The Bool is that of the charged units (R142). -/
def chargeFee (s : State) (n : LineNo) : State × Bool :=
  let fee := s.tariff.classes[(s.ses n).cls.val].fee
  let charged := (s.modSes n fun r => { r with fee := fee }).chargeUnits n fee
  (charged.1.modSes n fun r => { r with start := s.clock.stamp }, charged.2)

/-- The line enters CONNECTED, and its idle timer starts (R17, R82, R83). -/
def connect (s : State) (n : LineNo) : State :=
  (s.modSes n fun r => { r with state := .connected, stateTimer := .stopped }).restartIdle n

/-- ACCEPT of a SIGN_ON offer (R82); with grace minutes 0 an overdraft unit of the fee clears the line afterwards
(R142, R144). -/
def acceptSignOn (s : State) (n : LineNo) (h : Computer) : State :=
  let owned := (s.dropOffer n).modSes n fun r => { r with owner := some h, firstHost := some h }
  let charged := owned.chargeFee n
  let connected := (charged.1.requestMessage n slotWelcome).connect n
  if charged.2 then connected.clearRequest n .creditExhausted else connected

/-- ACCEPT of an ADOPT offer (R83). -/
def acceptAdopt (s : State) (n : LineNo) (h : Computer) : State :=
  let owned := (s.dropOffer n).modSes n fun r =>
    { r with stateTimer := .stopped, owner := some h, adoptions := satInc 255 r.adoptions, declined := .empty }
  (owned.requestMessage n slotResumed).connect n

/-- ACCEPT of the pending offer, by its kind (R81). -/
def acceptOffer (s : State) (n : LineNo) (o : Offer) : State :=
  match o.kind with
  | .signOn => s.acceptSignOn n o.target
  | .adopt => s.acceptAdopt n o.target

/-- The verdict of an ANSWER: 1 ACCEPT, 2 DECLINE (12.8.4). -/
def actOnVerdict (s : State) (n : LineNo) (o : Offer) (verdict : Byte) : State :=
  if verdict = 1 then s.acceptOffer n o else s.declineOffer n o

/-- The checks of ANSWER on a line, and its verdict (R81). -/
def answerLine (s : State) (h : Computer) (n : LineNo) (toggle verdict : Byte) : State × Reply :=
  if 1 < toggle.toNat ∨ (verdict ≠ 1 ∧ verdict ≠ 2) then s.answered (replyOf .badArgument)
  else match (s.ses n).offer with
    | some o =>
      if o.target ≠ h then s.answered (replyOf .noOffer)
      else if toggle ≠ flagByte (s.ses n).toggle then s.answered (replyOf .stale)
      else (s.actOnVerdict n o verdict, replyOf .ok)
    | none => s.answered (replyOf .noOffer)

/-- A mask of 16 bits, bit n for line n (R104). -/
def lineMask (s : State) (p : Line → Bool) : Nat :=
  allLines.foldl (fun v n => v + if p (s.line n) then 2 ^ n.val else 0) 0

/-- The characters of a RECEIVE reply: the count, and unused places 0 (R105). -/
def receiveReply (cs : List Byte) : Word32 :=
  bytes4 (byteOf cs.length) (cs[0]?.getD 0) (cs[1]?.getD 0) (cs[2]?.getD 0)

/-- RECEIVE on a line its owner asks for (R105). -/
def receiveLine (s : State) (n : LineNo) : State × Reply :=
  match (s.ses n).rx with
  | [] => s.answered (replyOf .empty)
  | c :: rest =>
    let cs := (c :: rest).take 3
    ((s.modSes n fun r => { r with rx := (c :: rest).drop 3 }).judgeLowWater n, okWith (receiveReply cs))

/-- How many of a SEND's characters are accepted (R106, R107). -/
def sendRoom (s : State) (n : LineNo) (count : Nat) : Nat :=
  if (s.ses n).feed.isEmpty then min count (fifoSize - (s.ses n).tx.length) else 0

/-- SEND on a line its owner asks for (R106, R107). -/
def sendLine (s : State) (n : LineNo) (cs : List Byte) : State × Reply :=
  let room := s.sendRoom n cs.length
  let placed := s.placeAll n (cs.take room)
  (if room = 0 then placed else placed.restartIdle n,
   ⟨if room = cs.length then .ok else .partialDone, bytes4 (byteOf room) 0 0 0⟩)

end State

/-- ANSWER (R81). -/
def execAnswer (k : Link) (line toggle verdict : Byte) (s : State) : Result :=
  .next (s.hostOrder k fun h t => t.onLine line fun n => t.answerLine h n toggle verdict)

/-- RX SCAN: changes nothing (R104). -/
def execRxScan (k : Link) (s : State) : Result :=
  .next (s.hostOrder k fun h t => t.answered (okWith (words16
    (t.lineMask fun l => l.ses.ownedBy h && !l.ses.rx.isEmpty)
    (t.lineMask fun l => l.ses.ownedBy h && l.ses.tx.isEmpty))))

/-- RECEIVE (R103, R105). -/
def execReceive (k : Link) (line : Byte) (s : State) : Result :=
  .next (s.hostOrder k fun h t => t.onLine line fun n =>
    if (t.ses n).ownedBy h then t.receiveLine n else t.answered (replyOf .notOwner))

/-- SEND (R103, R106). -/
def execSend (k : Link) (line count c1 c2 c3 : Byte) (s : State) : Result :=
  .next (s.hostOrder k fun h t => t.onLine line fun n =>
    if count.toNat = 0 ∨ 3 < count.toNat then t.answered (replyOf .badArgument)
    else if (t.ses n).ownedBy h then t.sendLine n ([c1, c2, c3].take count.toNat)
    else t.answered (replyOf .notOwner))

/-- RELEASE (R87). -/
def execRelease (k : Link) (line : Byte) (s : State) : Result :=
  .next (s.hostOrder k fun h t => t.onLine line fun n =>
    if (t.ses n).ownedBy h then (t.clearRequest n .hostReleased, replyOf .ok)
    else t.answered (replyOf .notOwner))

/-- DETACH: the link goes DOWN at once, and its reply OK waits as the pending reply (R89). -/
def execDetach (k : Link) (s : State) : Result :=
  .next (s.hostOrder k fun h t => (t.linkDown h, replyOf .ok))

end Sys2Proof.Machine
end

