-- ==== Sys2Proof/Machine/LineControl.lean ====
section
/-! DEFINITION. The Supervision Unit's orders: line control, statistics, fault reporting and the service state
(Chapter 11). -/

namespace Sys2Proof.Machine

namespace State

/-- A line that is OUT_OF_SERVICE and settling under LINE ENABLE (R163). -/
def settling (s : State) (n : LineNo) : Bool :=
  (s.ses n).state == .outOfService && (s.ses n).stateTimer.isRunning

/-- LINE ENABLE on a line (R163). -/
def enableLine (s : State) (n : LineNo) : State × Reply :=
  if (s.ses n).state ≠ .outOfService then s.answered (replyOf .ok)
  else if (s.sup n).faults.getLsbD FaultKind.modemLost.code ∨ (s.sup n).faults.getLsbD FaultKind.modemAbsent.code then
    s.answered (replyOf .faultPending)
  else if s.settling n then s.answered (replyOf .ok)
  else
    ((s.modUnit n fun u => { u with trdy := true }).modSes n fun r => { r with stateTimer := .running 250 },
     replyOf .ok)

/-- The line is to go OUT_OF_SERVICE at its guard expiry (R20). -/
def setDisablePending (s : State) (n : LineNo) : State := s.modSes n fun r => { r with disablePending := true }

/-- LINE DISABLE on a line (R163, R164). -/
def disableLine (s : State) (n : LineNo) : State :=
  match (s.ses n).state with
  | .idle | .ringing => s.outEntry n
  | .clearing => s.setDisablePending n
  | .outOfService =>
    if s.settling n then
      (s.modUnit n fun u => { u with trdy := false }).modSes n fun r => { r with stateTimer := .stopped }
    else s
  | .answering | .speedHunt | .signOn | .offered | .connected | .held =>
    (s.setDisablePending n).clearRequest n .forced

/-- LINE CLEAR on a line (R165, R46). -/
def clearLine (s : State) (n : LineNo) : State × Reply :=
  match (s.ses n).state with
  | .outOfService => s.answered (replyOf .badState)
  | .ringing =>
    ((s.ringingToIdle n).modUnit n fun u => { u with ring := u.ring.toRearm false }, replyOf .ok)
  | .idle | .clearing => s.answered (replyOf .ok)
  | .answering | .speedHunt | .signOn | .offered | .connected | .held => (s.clearRequest n .forced, replyOf .ok)

/-- A statistics counter (R167; 12.8.4). -/
def statistic (u : LineUnit) (field : Nat) : Option Nat :=
  match field with
  | 0 => some u.callsAnswered
  | 1 => some u.falseRings
  | 2 => some u.charErrors
  | 3 => some u.overruns
  | _ => none

/-- A statistics counter made 0 (R167). -/
def zeroStatistic (u : LineUnit) (field : Nat) : LineUnit :=
  match field with
  | 0 => { u with callsAnswered := 0 }
  | 1 => { u with falseRings := 0 }
  | 2 => { u with charErrors := 0 }
  | 3 => { u with overruns := 0 }
  | _ => u

/-- The ring detectors stop and RINGING lines return to IDLE as the service state leaves OPEN (R46). -/
def stopRinging (s : State) : State :=
  s.forLines fun t n =>
    match (t.ses n).state with
    | .idle | .ringing => (t.ringingToIdle n).modUnit n fun u => { u with ring := .reset }
    | _ => t

/-- The ring detectors of IDLE lines start afresh as the service state becomes OPEN (R40). -/
def startRinging (s : State) : State :=
  s.forLines fun t n => if (t.ses n).state = .idle then t.startRing n else t

/-- SERVICE OPEN (R168). -/
def openService (s : State) : State :=
  match s.service with
  | .opened => s
  | .closed | .draining => { s with service := .opened }.startRinging

/-- SERVICE DRAIN (R168, R169). -/
def drainService (s : State) : State × Reply :=
  match s.service with
  | .closed => s.answered (replyOf .badState)
  | .draining => s.answered (replyOf .ok)
  | .opened => ({ s with service := .draining }.stopRinging.judgeDrained, replyOf .ok)

/-- SERVICE CLOSE: every active line is cleared in ascending order (R168). -/
def closeService (s : State) : State :=
  match s.service with
  | .closed => s
  | .opened | .draining =>
    { s with service := .closed }.stopRinging.forLines fun t n => t.clearRequest n .serviceClosed

end State

/-- LINE ENABLE (R163). -/
def execLineEnable (k : Link) (line : Byte) (s : State) : Result :=
  .next (s.acctOrder k fun t => t.onLine line fun n => t.enableLine n)

/-- LINE DISABLE (R164). -/
def execLineDisable (k : Link) (line : Byte) (s : State) : Result :=
  .next (s.acctOrder k fun t => t.onLine line fun n => (t.disableLine n, replyOf .ok))

/-- LINE CLEAR (R165). -/
def execLineClear (k : Link) (line : Byte) (s : State) : Result :=
  .next (s.acctOrder k fun t => t.onLine line fun n => t.clearLine n)

/-- LINE CLASS: the configured class, for the line's next call (R166). -/
def execLineClass (k : Link) (line : Byte) (cls : Word32) (s : State) : Result :=
  .next (s.acctOrder k fun t => t.onLine line fun n =>
    if 3 < cls.toNat then t.answered (replyOf .badArgument)
    else (t.modSup n fun u => { u with configured := Fin.ofNat 4 cls.toNat }, replyOf .ok))

/-- LINE STATS: returns a counter and clears it (R167). -/
def execLineStats (k : Link) (line field : Byte) (s : State) : Result :=
  .next (s.acctOrder k fun t => t.onLine line fun n =>
    match State.statistic (t.unit n) field.toNat with
    | some v => (t.modUnit n fun u => State.zeroStatistic u field.toNat, okWith (wordOf v))
    | none => t.answered (replyOf .badArgument))

/-- FAULT NEXT: changes nothing (R162). -/
def execFaultNext (k : Link) (s : State) : Result :=
  .next (s.acctOrder k fun t =>
    match nextFault t with
    | some (n, f) => t.answered (okWith (bytes4 (byteOf n.val) (byteOf f.code) 0 0))
    | none => t.answered (replyOf .empty))

/-- FAULT CLEAR: clears the flags whose bits are one; bits 4 to 7 are ignored (R161). -/
def execFaultClear (k : Link) (line bits : Byte) (s : State) : Result :=
  .next (s.acctOrder k fun t => t.onLine line fun n =>
    (t.modSup n fun u => { u with faults := u.faults &&& ~~~(bits.setWidth 4) }, replyOf .ok))

/-- FAULT MASK: writes the four masks; bits 4 to 7 are ignored (R161). -/
def execFaultMask (k : Link) (line bits : Byte) (s : State) : Result :=
  .next (s.acctOrder k fun t => t.onLine line fun n =>
    (t.modSup n fun u => { u with masks := bits.setWidth 4 }, replyOf .ok))

/-- SERVICE OPEN; a selector other than OPEN here names no service order (R168, log 8). -/
def execServiceOpen (k : Link) (sel : Byte) (s : State) : Result :=
  .next (s.acctOrder k fun t =>
    if sel = 0 then (t.openService, replyOf .ok) else t.answered (replyOf .badArgument))

/-- SERVICE DRAIN (R168). -/
def execServiceDrain (k : Link) (s : State) : Result := .next (s.acctOrder k fun t => t.drainService)

/-- SERVICE CLOSE (R168). -/
def execServiceClose (k : Link) (s : State) : Result :=
  .next (s.acctOrder k fun t => (t.closeService, replyOf .ok))

end Sys2Proof.Machine
end

