-- ==== Sys2Proof/Machine/Ringing.lean ====
section
/-! DEFINITION. The ring detector's events and the answer (section 3.2). A count of n milliseconds is n consecutive
judgements (R47): the judgement that first sees a level counts as the first. -/

namespace Sys2Proof.Machine

/-- RNG first seen asserted (R40, R42): ARMED begins to qualify, RELEASING bridges a dropout, REARM begins its count
again. -/
def Ring.asserted (d : Ring) : Ring :=
  match d.cond with
  | .armed =>
    { d with cond := .qualifying, run := 1, since := 1, onTime := 1, gapAtStart := d.gap, gap := d.gap + 1,
             reached := false, edge := false }
  | .releasing =>
    { d with cond := .burst, run := 1, since := d.since + 1, onTime := d.since + 1, reached := false,
             edge := false }
  | .rearm => { d with run := 0, since := d.since + 1, onTime := d.since + 1, edge := false }
  | .stopped | .qualifying | .burst => { d with edge := false }

/-- RNG first seen deasserted (R41, R42): an assertion that was qualifying was a glitch, a burst begins to release. -/
def Ring.deasserted (d : Ring) : Ring :=
  match d.cond with
  | .qualifying =>
    { d with cond := .armed, run := 0, gap := d.gap + 1, reached := false, edge := false, gapHeld := false }
  | .burst => { d with cond := .releasing, run := 1, since := d.since + 1, reached := false, edge := false }
  | .rearm => { d with run := 1, since := d.since + 1, edge := false }
  | .stopped | .armed | .releasing => { d with edge := false }

/-- One millisecond judgement of RNG at the level of the judgement before it (R41 to R43, R47). The judgements so far,
the first assertion's among them, are as many as the milliseconds from that assertion to this judgement: a burst is false
at the first judgement asserted more than ring-max-on after it (R43). -/
def Ring.judge (p : Params) (level : Bool) (d : Ring) : Ring :=
  match d.cond with
  | .stopped => d
  | .armed => { d with gap := d.gap + 1 }
  | .qualifying =>
    { d with run := d.run + 1, since := d.since + 1, onTime := d.since + 1, gap := d.gap + 1,
             reached := decide (p.ringMinOn ≤ d.run + 1) }
  | .burst =>
    { d with since := d.since + 1, onTime := d.since + 1, reached := decide (p.ringMaxOn < d.since) }
  | .releasing => { d with run := d.run + 1, since := d.since + 1 }
  | .rearm =>
    if level then { d with run := 0, since := d.since + 1, onTime := d.since + 1 }
    else { d with run := d.run + 1, since := d.since + 1 }

/-- The milliseconds of deassertion that end a burst or a REARM (R39). -/
def ringRelease : Nat := 20

/-- The bound of stored burst times and gaps (R1). -/
def maxCadence : Nat := 65535

/-- A burst starts (R41): its on-time is at least ring-min-on. -/
def Ring.startBurst (p : Params) (d : Ring) : Ring :=
  let t := if d.reached then d.since else max d.since p.ringMinOn
  { d with cond := .burst, since := t, onTime := t, reached := false, gapHeld := false }

/-- ARMED after a burst or a REARM, with so much of the gap run. -/
def Ring.rearmed (gap : Nat) : Ring := { Ring.reset with cond := .armed, gap := gap }

namespace State

/-- A line's ring detector runs only while the line is IDLE or RINGING and the service state is OPEN (R40). -/
def ringRuns (s : State) (n : LineNo) : Bool :=
  ((s.ses n).state == .idle || (s.ses n).state == .ringing) && s.service == .opened

/-- A line's ring detector runs and is in a given condition. -/
def ringIn (s : State) (n : LineNo) (c : RingCond) : Bool := s.ringRuns n && (s.unit n).ring.cond == c

/-- Change a line's ring detector. -/
def modRing (s : State) (n : LineNo) (f : Ring → Ring) : State := s.modUnit n fun u => { u with ring := f u.ring }

/-- A false burst (R43). -/
def falseBurst (s : State) (n : LineNo) : State :=
  let counted := s.modUnit n fun u =>
    { u with falseRings := satInc 255 u.falseRings, ring := u.ring.toRearm true }
  (counted.ringingToIdle n).modSes n fun r => { r with ringCount := 0 }

/-- A burst that has lasted more than ring-max-on is false (R41, R43). At burst start the time judged is the on-time so
far (R41); at a return from RELEASING it is the time since the burst's first assertion (R43). -/
def judgeFalse (s : State) (n : LineNo) (lasted : Nat) : State :=
  if s.ringIn n .burst ∧ s.params.ringMaxOn < lasted then s.falseBurst n else s

/-- The answer (R45). -/
def answerCall (s : State) (n : LineNo) : State :=
  let entered := s.modSes n fun r =>
    { r with state := .answering, cls := (s.sup n).configured,
             stateTimer := .running (s.params.carrierLimit * 1000) }
  entered.modUnit n fun u =>
    { u with ans := true, callsAnswered := satInc 65535 u.callsAnswered, ring := .reset,
             carrier := .qualifying 0 false }

/-- After a valid ring the count is judged against answer-after; a line that does not answer starts its gap timer, with
20 ms of the gap run (R42, R45). -/
def judgeRings (s : State) (n : LineNo) : State :=
  if s.params.answerAfter ≤ (s.ses n).ringCount then s.answerCall n
  else s.modSes n fun r => { r with stateTimer := .running (s.params.ringMaxOff - 19) }

/-- A valid ring is counted: an IDLE line enters RINGING with ring count 1 (R42). -/
def countRing (s : State) (n : LineNo) (onTime : Nat) : State :=
  s.modSes n fun r =>
    { r with state := .ringing, stateTimer := .stopped, lastOn := min onTime maxCadence,
             ringCount := if r.state = .ringing then r.ringCount + 1 else 1 }

end State

/-- RNG_ASSERTED (R40, R42, R43). -/
def execRngAsserted (n : LineNo) (s : State) : Result :=
  let heard := s.modUnit n fun u => { u with rng := true, rngSeen := true }
  .next (if s.ringRuns n then
    let judged := heard.modRing n Ring.asserted
    if (s.unit n).ring.cond = .releasing then judged.judgeFalse n (s.unit n).ring.since else judged
  else heard)

/-- RNG_DEASSERTED; a glitch that held a gap timer expiry returns the line to IDLE (R41, R42, R44). -/
def execRngDeasserted (n : LineNo) (s : State) : Result :=
  let heard := s.modUnit n fun u => { u with rng := false, rngSeen := false }
  .next (if s.ringRuns n then
    let judged := heard.modRing n Ring.deasserted
    if (s.unit n).ring.cond = .qualifying ∧ (s.unit n).ring.gapHeld then judged.ringingToIdle n else judged
  else heard)

/-- BURST_START (R41). -/
def execBurstStart (n : LineNo) (gap : Nat) (s : State) : Result :=
  .next (if s.ringIn n .qualifying then
    let started := s.modRing n (Ring.startBurst s.params)
    let gapped := if (s.ses n).state = .ringing then
        started.modSes n fun r => { r with lastGap := min gap maxCadence, stateTimer := .stopped }
      else started
    gapped.judgeFalse n (gapped.unit n).ring.onTime
  else s)

/-- BURST_END (R42, R45). -/
def execBurstEnd (n : LineNo) (onTime : Nat) (s : State) : Result :=
  .next (if s.ringIn n .releasing then
    ((s.modRing n fun _ => Ring.rearmed ringRelease).countRing n onTime).judgeRings n
  else s)

/-- FALSE_RING (R43). -/
def execFalseRing (n : LineNo) (s : State) : Result :=
  .next (if s.ringIn n .burst then s.falseBurst n else s)

/-- REARM_COMPLETE: a false burst's on-time is stored (R40, R43, R46). -/
def execRearmComplete (n : LineNo) (onTime : Nat) (s : State) : Result :=
  .next (if s.ringIn n .rearm then
    let armed := s.modRing n fun _ => Ring.rearmed 0
    if (s.unit n).ring.stores then armed.modSes n fun r => { r with lastOn := min onTime maxCadence } else armed
  else s)

/-- GAP_TIMER_EXPIRY: the line returns to IDLE, or the return is held while an assertion qualifies (R44). -/
def execGapTimerExpiry (n : LineNo) (s : State) : Result :=
  .next (if (s.ses n).state = .ringing ∧ (s.ses n).stateTimer.isRunning then
    let stopped := s.modSes n fun r => { r with stateTimer := .stopped }
    match (s.unit n).ring.cond with
    | .armed => stopped.ringingToIdle n
    | .qualifying => stopped.modRing n fun d => { d with gapHeld := true }
    | _ => stopped
  else s)

end Sys2Proof.Machine
end

