-- ==== Sys2Proof/Machine/Seconds.lean ====
section
/-! DEFINITION. The second boundary: the clock's advance, the accrual run, and the installation of pending tariff
changes (Chapters 8 and 9). -/

namespace Sys2Proof.Machine

/-- The clock one second on; the phase begins again at 0 (R125). -/
def Clock.advance (c : Clock) : Clock :=
  if c.second + 1 < 60 then { c with second := c.second + 1, phase := 0 }
  else { c with second := 0, minute := if c.minute + 1 < 10080 then c.minute + 1 else 0, phase := 0 }

/-- The band of the second that ends at a boundary, from the clock just before it (R132). -/
def State.bandNow (s : State) : Fin 4 :=
  if s.clock.set then (s.tariff.bands[s.clock.minute / 60]?).getD 0 else 0

/-- The rate of a band and class, from the installed rate table (R129). -/
def Tariff.rate (t : Tariff) (band cls : Fin 4) : Nat := t.rates[4 * band.val + cls.val]

/-- Every pending value is installed at once, and the pending copy is empty (R131). -/
def Tariff.install (t : Tariff) : Tariff where
  bands := zipEach (fun p v => p.getD v) t.pendingBands t.bands
  rates := zipEach (fun p v => p.getD v) t.pendingRates t.rates
  classes := zipEach (fun p c =>
    { rates := p.rates.getD c.rates, format := p.format.getD c.format,
      flowControl := p.flowControl.getD c.flowControl, fee := p.fee.getD c.fee }) t.pendingClasses t.classes
  pendingBands := Vector.replicate 168 none
  pendingRates := Vector.replicate 16 none
  pendingClasses := Vector.replicate 4 .empty

namespace State

/-- A counted second of a band, its price added to F and the whole units taken out of it (R135, steps 2 to 4). -/
def accrueSecond (s : State) (n : LineNo) (band : Fin 4) : State :=
  s.modSes n fun r =>
    { r with bandSecs := r.bandSecs.set band.val (satInc maxUnits r.bandSecs[band.val]),
             f := (r.f + s.tariff.rate band r.cls) % 60000 }

/-- The unit debits a second makes on a line: one for each 60,000 in F (R135, step 4). -/
def unitsDue (s : State) (n : LineNo) (band : Fin 4) : Nat :=
  ((s.ses n).f + s.tariff.rate band (s.ses n).cls) / 60000

/-- A CONNECTED line billed for the second (R135); with grace minutes 0 an overdraft unit clears it before the run goes
on (R142). -/
def billLine (s : State) (n : LineNo) (band : Fin 4) : State :=
  let charged := (s.accrueSecond n band).chargeUnits n (s.unitsDue n band)
  if charged.2 then charged.1.clearRequest n .creditExhausted else charged.1

/-- One line's work in an accrual run (R135, R136). -/
def accrueLine (band : Fin 4) (s : State) (n : LineNo) : State :=
  match (s.ses n).state with
  | .connected => s.billLine n band
  | .held => s.modSes n fun r => { r with heldSecs := satInc maxUnits r.heldSecs }
  | _ => s

end State

/-- SECOND_BOUNDARY: the clock advances, the second is billed in the band of the clock just before, and pending values
are installed (R125, R131, R132, R135). The clock does not run while RESET is asserted. -/
def execSecondBoundary (s : State) : Result :=
  .next (if s.inReset then s
  else
    let advanced := { s with clock := s.clock.advance }
    let billed := advanced.forLines (State.accrueLine s.bandNow)
    { billed with tariff := billed.tariff.install })

end Sys2Proof.Machine
end

