-- ==== Sys2Proof/Machine/Speed.lean ====
section
/-! DEFINITION. Carrier and speed detection: the carrier detector's events and the autobaud attempts (sections 3.3
and 3.4). An event's operand is what the detector sampled; the level it implies becomes the pin's latest sample
(log 6). -/

namespace Sys2Proof.Machine

namespace State

/-- The first autobaud attempt: armed at once if RXD is mark (R52). -/
def firstAttempt (s : State) (n : LineNo) : State :=
  s.modUnit n fun u => { u with speed := if u.rxd then .armed else .waitMark }

/-- Speed-wait starts (R52). -/
def startSpeedWait (s : State) (n : LineNo) : State :=
  s.modSes n fun r => { r with stateTimer := .running (s.params.speedWait * 1000) }

/-- The speed attempts are used up (R58). -/
def giveUp (s : State) (n : LineNo) : State := (raiseFault s n .speedFail).clearRequest n .speedFail

/-- A failed attempt is counted; the next begins at once, unless none is left (R57). -/
def failAttempt (s : State) (n : LineNo) : State :=
  let counted := s.modSes n fun r => { r with speedUsed := satInc 5 r.speedUsed }
  if s.params.speedAttempts ≤ (counted.ses n).speedUsed then counted.giveUp n
  else (counted.startSpeedWait n).modUnit n fun u => { u with speed := .waitQuiet 0 }

/-- The success of an attempt (R56). -/
def attemptSucceeds (s : State) (n : LineNo) (r : Rate) : State :=
  let rated := s.modSes n fun x => { x with rate := some r }
  let hearing := rated.modUnit n fun u => { u with receiver := .hunting, speed := .stopped }
  ((hearing.requestMessage n slotBanner).requestMessage n slotPrompt).modSes n fun x =>
    { x with state := .signOn, stateTimer := .running (s.params.signOnLimit * 1000) }

/-- The autobaud attempt in progress: the speed detector runs only in SPEED_HUNT (R52). -/
def attempt (s : State) (n : LineNo) : Speed :=
  if (s.ses n).state = .speedHunt then (s.unit n).speed else .stopped

/-- The carrier-loss watch runs from SPEED_HUNT to hang-up (R50). -/
def watched (s : State) (n : LineNo) : Carrier :=
  match (s.ses n).state with
  | .speedHunt | .signOn | .offered | .connected | .held => (s.unit n).carrier
  | _ => if (s.ses n).draining then (s.unit n).carrier else .stopped

/-- Whether the class of a line permits a rate (R54). -/
def permitsRate (s : State) (n : LineNo) (r : Rate) : Bool :=
  s.tariff.classes[(s.ses n).cls.val].rates.getLsbD r.bit

end State

/-- A good CR (R55). -/
def goodReturn (f : Format) (bits : Byte) (stop : Bool) : Bool := stop && f.parityOk bits && bits &&& 0x7F == 13

/-- CARRIER_QUALIFIED (R48, R52). -/
def execCarrierQualified (n : LineNo) (s : State) : Result :=
  .next (match (s.ses n).state, (s.unit n).carrier with
  | .answering, .qualifying _ _ =>
    let heard := s.modUnit n fun u => { u with car := true, carrier := .watching 0 false false }
    ((heard.modSes n fun r => { r with state := .speedHunt }).startSpeedWait n).firstAttempt n
  | _, _ => s)

/-- CARRIER_LIMIT_EXPIRY (R49). -/
def execCarrierLimitExpiry (n : LineNo) (s : State) : Result :=
  .next (if (s.ses n).state = .answering ∧ (s.ses n).stateTimer.isRunning then
    (raiseFault s n .noCarrier).clearRequest n .noCarrier
  else s)

/-- CARRIER_LOST: the carrier-lost event by the line's state; no second event until CAR has been asserted again
(R50, R51). -/
def execCarrierLost (n : LineNo) (s : State) : Result :=
  .next (match s.watched n with
  | .watching _ _ false =>
    let heard := s.modUnit n fun u => { u with car := false, carrier := .watching 0 false true }
    if (s.ses n).draining then heard.emptyFeed n else heard.clearRequest n .callerDropped
  | _ => s)

/-- SPEED_DETECTOR_ARM (R52). -/
def execSpeedDetectorArm (n : LineNo) (s : State) : Result :=
  .next (match s.attempt n with
  | .waitMark | .waitQuiet _ => s.modUnit n fun u => { u with rxd := true, speed := .armed }
  | _ => s)

/-- AUTOBAUD_START_BIT: speed-wait stops and the measurement begins (R52, R53). -/
def execAutobaudStartBit (n : LineNo) (s : State) : Result :=
  .next (if s.attempt n = .armed then
    (s.modUnit n fun u => { u with rxd := false, speed := .measuring 1 }).modSes n fun r =>
      { r with stateTimer := .stopped }
  else s)

/-- W_FINAL: the width judged against the windows and the class's permitted rates (R53, R54, R57). -/
def execWFinal (n : LineNo) (w : Nat) (s : State) : Result :=
  .next (match s.attempt n with
  | .measuring _ =>
    let heard := s.modUnit n fun u => { u with rxd := decide (w < 255) }
    match rateOfWidth w with
    | some r =>
      if s.permitsRate n r then heard.modUnit n fun u => { u with speed := .receiving r w 0 none }
      else heard.failAttempt n
    | none => heard.failAttempt n
  | _ => s)

/-- AUTOBAUD_STOP_BIT: a good CR succeeds, any other outcome fails; the character counts as received for the lamp
(R55 to R57, R170). -/
def execAutobaudStopBit (n : LineNo) (bits : Byte) (stop : Bool) (s : State) : Result :=
  .next (match s.attempt n with
  | .receiving r _ _ _ =>
    let heard := (s.modUnit n fun u => { u with rxd := stop }).reportTraffic n
    if goodReturn (s.formatOf n) bits stop then heard.attemptSucceeds n r else heard.failAttempt n
  | _ => s)

/-- SPEED_WAIT_EXPIRY (R57). -/
def execSpeedWaitExpiry (n : LineNo) (s : State) : Result :=
  .next (if (s.ses n).state = .speedHunt ∧ (s.ses n).stateTimer.isRunning then s.failAttempt n else s)

end Sys2Proof.Machine
end

