-- ==== Sys2Proof/Machine/Stations.lean ====
section
/-! DEFINITION. The accounting station's orders on charge records, clock, tariff, messages and parameters
(Chapters 2, 8, 10 and 12). -/

namespace Sys2Proof.Machine

/-- CHARGE READ: changes nothing (R155). -/
def execChargeRead (k : Link) (field : Byte) (s : State) : Result :=
  .next (s.acctOrder k fun t =>
    if 18 < field.toNat then t.answered (replyOf .badArgument)
    else match t.records with
      | [] => t.answered (replyOf .empty)
      | r :: _ =>
        match r.field field.toNat with
        | some d => t.answered (okWith d)
        | none => t.answered (replyOf .badArgument))

/-- CHARGE TAKE: removes the oldest record (R156). -/
def execChargeTake (k : Link) (s : State) : Result :=
  .next (s.acctOrder k fun t =>
    match t.records with
    | [] => t.answered (replyOf .empty)
    | r :: rest => ({ t with records := rest }, okWith (words16 r.serial 0)))

/-- CLOCK SET (R126). -/
def execClockSet (k : Link) (minute : BitVec 16) (second : Byte) (s : State) : Result :=
  .next (s.acctOrder k fun t =>
    if 10079 < minute.toNat ∨ 59 < second.toNat then t.answered (replyOf .badArgument)
    else
      ({ t with clock := { set := true, minute := minute.toNat, second := second.toNat, phase := 0 } },
       replyOf .ok))

/-- The Tariff Unit's tables changed. -/
def State.modTariff (s : State) (f : Tariff → Tariff) : State := { s with tariff := f s.tariff }

/-- TARIFF SET: the rate joins the pending copy (R129, R131). -/
def execTariffSet (k : Link) (sel : Byte) (rate : Word32) (s : State) : Result :=
  .next (s.acctOrder k fun t =>
    if 3 < sel.toNat / 16 ∨ 3 < sel.toNat % 16 ∨ 65535 < rate.toNat then t.answered (replyOf .badArgument)
    else
      let entry := 4 * (sel.toNat / 16) + sel.toNat % 16
      (t.modTariff fun u => { u with pendingRates := u.pendingRates.setIfInBounds entry (some rate.toNat) },
       replyOf .ok))

/-- BAND SET: the band joins the pending copy (R128, R131). -/
def execBandSet (k : Link) (hour : Byte) (band : Word32) (s : State) : Result :=
  .next (s.acctOrder k fun t =>
    if 167 < hour.toNat ∨ 3 < band.toNat then t.answered (replyOf .badArgument)
    else
      (t.modTariff fun u =>
        { u with pendingBands := u.pendingBands.setIfInBounds hour.toNat (some (Fin.ofNat 4 band.toNat)) },
       replyOf .ok))

/-- CLASS SET: the value joins the pending copy (R130, R131). -/
def execClassSet (k : Link) (sel : Byte) (value : Word32) (s : State) : Result :=
  .next (s.acctOrder k fun t =>
    match t.tariff.pendingClasses[sel.toNat / 16]? with
    | some p =>
      match p.withItem (sel.toNat % 16) value.toNat with
      | some p' =>
        (t.modTariff fun u => { u with pendingClasses := u.pendingClasses.setIfInBounds (sel.toNat / 16) p' },
         replyOf .ok)
      | none => t.answered (replyOf .badArgument)
    | none => t.answered (replyOf .badArgument))

/-- A slot being written, and whether a character was dropped for its position (R34). Characters are taken in order
from `pos`; a 0 at a position of 63 or below ends the text. -/
def Slot.write (t : Slot) (pos : Nat) : List Byte → Slot × Bool
  | [] => ({ t with length := min pos 64 }, false)
  | c :: rest =>
    if 63 < pos then
      let more := t.write (pos + 1) rest
      (more.1, true)
    else if c = 0 then ({ t with length := pos }, false)
    else { t with text := t.text.setIfInBounds pos c }.write (pos + 1) rest

/-- MESSAGE WRITE (R34). -/
def execMessageWrite (k : Link) (slot start c1 c2 c3 : Byte) (s : State) : Result :=
  .next (s.acctOrder k fun t =>
    match t.messages[slot.toNat]? with
    | some m =>
      if 63 < start.toNat then t.answered (replyOf .badArgument)
      else
        let written := m.write start.toNat [c1, c2, c3]
        ({ t with messages := t.messages.setIfInBounds slot.toNat written.1 }, okOrClamped written.2)
    | none => t.answered (replyOf .badArgument))

/-- PARAM SET: clamped into the range, the value written returned (R180). -/
def execParamSet (k : Link) (code : Byte) (value : Word32) (s : State) : Result :=
  .next (s.acctOrder k fun t =>
    match paramRange code.toNat with
    | some (lo, hi) =>
      let v := clamp lo hi value.toNat
      ({ t with params := t.params.write code.toNat v },
       ⟨if v = value.toNat then .ok else .clamped, wordOf v⟩)
    | none => t.answered (replyOf .badArgument))

end Sys2Proof.Machine
end

