-- ==== Sys2Proof/Machine/Timers.lean ====
section
/-! DEFINITION. The expiry of the part's timers, the end of phase DRAIN, and the loss of a modem. An expiry of a timer
that does not run, or in a state that gives it no use, leaves the part as it is (R2, R5). -/

namespace Sys2Proof.Machine

/-- A line whose state timer runs in a given state (R2). -/
def State.timing (s : State) (n : LineNo) (st : LineState) : Bool :=
  (s.ses n).state == st && (s.ses n).stateTimer.isRunning

/-- SILENCE_TIMER_EXPIRY (R88, R90). -/
def execSilenceTimerExpiry (h : Computer) (s : State) : Result :=
  .next (if (s.host h).silence.isRunning then s.linkDown h else s)

/-- OFFER_TIMER_EXPIRY: WITHDRAWN with reason TIMEOUT to the target, then a decline (R85). -/
def execOfferTimerExpiry (n : LineNo) (s : State) : Result :=
  .next (match (s.ses n).offer with
  | some o =>
    if (s.ses n).offerTimer.isRunning then
      (s.postNotice o.target.link (.withdrawn n (s.ses n).toggle .timeout)).declineOffer n o
    else s
  | none => s)

/-- HOLD_TIMER_EXPIRY (R95). -/
def execHoldTimerExpiry (n : LineNo) (s : State) : Result :=
  .next (if s.timing n .held then s.clearRequest n .hostLost else s)

/-- IDLE_TIMER_EXPIRY (R18). -/
def execIdleTimerExpiry (n : LineNo) (s : State) : Result :=
  .next (if (s.ses n).idleTimer.isRunning then
    (s.modSes n fun r => { r with idleTimer := .stopped }).clearRequest n .idleTimeout
  else s)

/-- SIGN_ON_TIMER_EXPIRY (R65). -/
def execSignOnTimerExpiry (n : LineNo) (s : State) : Result :=
  .next (if s.timing n .signOn then s.clearRequest n .signonTimeout else s)

/-- GRACE_TIMER_EXPIRY (R143). -/
def execGraceTimerExpiry (n : LineNo) (s : State) : Result :=
  .next (if (s.ses n).graceTimer.isRunning then
    (s.modSes n fun r => { r with graceTimer := .stopped }).clearRequest n .creditExhausted
  else s)

/-- DRAIN_COMPLETE: nothing is left to send (R12). -/
def execDrainComplete (n : LineNo) (s : State) : Result :=
  .next (if (s.ses n).draining ∧ (s.ses n).feed.isEmpty ∧ (s.ses n).tx.isEmpty then s.hangUp n else s)

/-- DRAIN_LIMIT_EXPIRY: what remains to send is discarded (R12). -/
def execDrainLimitExpiry (n : LineNo) (s : State) : Result :=
  .next (if (s.ses n).draining ∧ (s.ses n).stateTimer.isRunning then (s.emptyOut n).hangUp n else s)

/-- GUARD_TIMER_EXPIRY (R15). -/
def execGuardTimerExpiry (n : LineNo) (s : State) : Result :=
  .next (if s.timing n .clearing ∧ (s.ses n).phase = .guard then s.guardEnd n else s)

/-- TRAFFIC_TIMER_EXPIRY (R170). -/
def execTrafficTimerExpiry (n : LineNo) (s : State) : Result :=
  .next (if (s.sup n).traffic.isRunning then s.modSup n fun u => { u with traffic := .stopped } else s)

/-- SETTLE_TIMER_EXPIRY: the IDLE entry, with the modem-ready watch begun, or MODEM_ABSENT (R160, R163). -/
def execSettleTimerExpiry (n : LineNo) (mrdy : Bool) (s : State) : Result :=
  .next (if s.timing n .outOfService then
    let judged := s.modUnit n fun u => { u with mrdy := mrdy, mrdySeen := mrdy }
    if mrdy then (judged.modUnit n fun u => { u with modem := .watching 0 }).idleEntry n
    else
      let off := (judged.modUnit n fun u => { u with trdy := false }).modSes n fun r =>
        { r with stateTimer := .stopped }
      raiseFault off n .modemAbsent
  else s)

/-- What a raise of MODEM_LOST does to the line, by its state (R160, R13, R15, R20). -/
def State.loseModem (s : State) (n : LineNo) : State :=
  let disabled := s.modSes n fun r => { r with disablePending := true }
  match (s.ses n).state with
  | .idle | .ringing => s.outEntry n
  | .outOfService => s
  | .clearing => if (s.ses n).draining then (disabled.emptyOut n).hangUp n else disabled
  | .answering | .speedHunt | .signOn | .offered | .connected | .held => disabled.clearRequest n .lineFault

/-- The modem-ready watch, which runs in every state but OUT_OF_SERVICE (R160). -/
def State.modemWatch (s : State) (n : LineNo) : ModemWatch :=
  if (s.ses n).state = .outOfService then .stopped else (s.unit n).modem

/-- MODEM_LOST (R160). -/
def execModemLost (n : LineNo) (s : State) : Result :=
  .next (match s.modemWatch n with
  | .watching _ =>
    let judged := s.modUnit n fun u => { u with mrdy := false, mrdySeen := false, modem := .raised }
    (raiseFault judged n .modemLost).loseModem n
  | _ => s)

end Sys2Proof.Machine
end

