-- ==== Sys2Proof/Machine/Dispatch.lean ====
section
/-! DEFINITION. One arm per command: its meaning. -/

namespace Sys2Proof.Machine

def exec (i : Instr) (s : State) : Host.Outcome State Fault Refusal :=
  match i with
  | .deviceReset => Sys2Proof.Machine.execDeviceReset s
  | .exchangeStart link => Sys2Proof.Machine.execExchangeStart link s
  | .checkFail link => Sys2Proof.Machine.execCheckFail link s
  | .shortFrame link => Sys2Proof.Machine.execShortFrame link s
  | .ignoredFrame link => Sys2Proof.Machine.execIgnoredFrame link s
  | .orderUnknown link code => Sys2Proof.Machine.execOrderUnknown link code s
  | .nop link => Sys2Proof.Machine.execNop link s
  | .status link => Sys2Proof.Machine.execStatus link s
  | .noticeFetch link => Sys2Proof.Machine.execNoticeFetch link s
  | .noticeMask link mask => Sys2Proof.Machine.execNoticeMask link mask s
  | .lineRead link line group => Sys2Proof.Machine.execLineRead link line group s
  | .clockRead link => Sys2Proof.Machine.execClockRead link s
  | .accountSelect link number => Sys2Proof.Machine.execAccountSelect link number s
  | .accountRead link field => Sys2Proof.Machine.execAccountRead link field s
  | .accountNext link => Sys2Proof.Machine.execAccountNext link s
  | .answer link line toggle verdict => Sys2Proof.Machine.execAnswer link line toggle verdict s
  | .rxScan link => Sys2Proof.Machine.execRxScan link s
  | .receive link line => Sys2Proof.Machine.execReceive link line s
  | .send link line count c1 c2 c3 => Sys2Proof.Machine.execSend link line count c1 c2 c3 s
  | .release link line => Sys2Proof.Machine.execRelease link line s
  | .detach link => Sys2Proof.Machine.execDetach link s
  | .accountCreate link number => Sys2Proof.Machine.execAccountCreate link number s
  | .accountSet link field value => Sys2Proof.Machine.execAccountSet link field value s
  | .accountCredit link amount => Sys2Proof.Machine.execAccountCredit link amount s
  | .accountRemove link => Sys2Proof.Machine.execAccountRemove link s
  | .chargeRead link field => Sys2Proof.Machine.execChargeRead link field s
  | .chargeTake link => Sys2Proof.Machine.execChargeTake link s
  | .clockSet link minute second => Sys2Proof.Machine.execClockSet link minute second s
  | .tariffSet link sel rate => Sys2Proof.Machine.execTariffSet link sel rate s
  | .bandSet link hour band => Sys2Proof.Machine.execBandSet link hour band s
  | .classSet link sel value => Sys2Proof.Machine.execClassSet link sel value s
  | .messageWrite link slot start c1 c2 c3 => Sys2Proof.Machine.execMessageWrite link slot start c1 c2 c3 s
  | .paramSet link code value => Sys2Proof.Machine.execParamSet link code value s
  | .lineEnable link line => Sys2Proof.Machine.execLineEnable link line s
  | .lineDisable link line => Sys2Proof.Machine.execLineDisable link line s
  | .lineClear link line => Sys2Proof.Machine.execLineClear link line s
  | .lineClass link line cls => Sys2Proof.Machine.execLineClass link line cls s
  | .lineStats link line field => Sys2Proof.Machine.execLineStats link line field s
  | .faultNext link => Sys2Proof.Machine.execFaultNext link s
  | .faultClear link line bits => Sys2Proof.Machine.execFaultClear link line bits s
  | .faultMask link line bits => Sys2Proof.Machine.execFaultMask link line bits s
  | .serviceOpen link sel => Sys2Proof.Machine.execServiceOpen link sel s
  | .serviceDrain link => Sys2Proof.Machine.execServiceDrain link s
  | .serviceClose link => Sys2Proof.Machine.execServiceClose link s
  | .silenceTimerExpiry host => Sys2Proof.Machine.execSilenceTimerExpiry host s
  | .offerTimerExpiry line => Sys2Proof.Machine.execOfferTimerExpiry line s
  | .holdTimerExpiry line => Sys2Proof.Machine.execHoldTimerExpiry line s
  | .rngAsserted line => Sys2Proof.Machine.execRngAsserted line s
  | .rngDeasserted line => Sys2Proof.Machine.execRngDeasserted line s
  | .burstStart line gap => Sys2Proof.Machine.execBurstStart line gap s
  | .burstEnd line onTime => Sys2Proof.Machine.execBurstEnd line onTime s
  | .falseRing line => Sys2Proof.Machine.execFalseRing line s
  | .rearmComplete line onTime => Sys2Proof.Machine.execRearmComplete line onTime s
  | .gapTimerExpiry line => Sys2Proof.Machine.execGapTimerExpiry line s
  | .carrierQualified line => Sys2Proof.Machine.execCarrierQualified line s
  | .carrierLimitExpiry line => Sys2Proof.Machine.execCarrierLimitExpiry line s
  | .carrierLost line => Sys2Proof.Machine.execCarrierLost line s
  | .speedDetectorArm line => Sys2Proof.Machine.execSpeedDetectorArm line s
  | .autobaudStartBit line => Sys2Proof.Machine.execAutobaudStartBit line s
  | .wFinal line w => Sys2Proof.Machine.execWFinal line w s
  | .autobaudStopBit line bits stop => Sys2Proof.Machine.execAutobaudStopBit line bits stop s
  | .speedWaitExpiry line => Sys2Proof.Machine.execSpeedWaitExpiry line s
  | .characterReceived line bits stop => Sys2Proof.Machine.execCharacterReceived line bits stop s
  | .transmitCharacterDone line => Sys2Proof.Machine.execTransmitCharacterDone line s
  | .messageFeedStep line => Sys2Proof.Machine.execMessageFeedStep line s
  | .idleTimerExpiry line => Sys2Proof.Machine.execIdleTimerExpiry line s
  | .signOnTimerExpiry line => Sys2Proof.Machine.execSignOnTimerExpiry line s
  | .drainComplete line => Sys2Proof.Machine.execDrainComplete line s
  | .drainLimitExpiry line => Sys2Proof.Machine.execDrainLimitExpiry line s
  | .guardTimerExpiry line => Sys2Proof.Machine.execGuardTimerExpiry line s
  | .modemLost line => Sys2Proof.Machine.execModemLost line s
  | .settleTimerExpiry line mrdy => Sys2Proof.Machine.execSettleTimerExpiry line mrdy s
  | .secondBoundary => Sys2Proof.Machine.execSecondBoundary s
  | .graceTimerExpiry line => Sys2Proof.Machine.execGraceTimerExpiry line s
  | .trafficTimerExpiry line => Sys2Proof.Machine.execTrafficTimerExpiry line s
  | .resetEnd => Sys2Proof.Machine.execResetEnd s
  | .startBitSample line mark => Sys2Proof.Machine.execStartBitSample line mark s
  | .returnToHunting line => Sys2Proof.Machine.execReturnToHunting line s

end Sys2Proof.Machine
end

