-- ==== Sys2Proof/Machine/Idle.lean ====
section
/-! DEFINITION. What the part does of itself when no command waits (log 4): first it takes the events that have fallen
due, one a step; when none is due, one tick of the 19,200 Hz line sampling base passes (R23, 0.6.4), with a
millisecond judgement at each millisecond (R47).

A timer is due when its remaining time is 0 (R2); a detector when its latest judgement or sample reached its mark. Of
several events due together any may be taken first (log 5). -/

namespace Sys2Proof.Machine

/-- The levels of a line's four inputs at a tick (R23). -/
structure Levels where
  rng : Bool
  car : Bool
  mrdy : Bool
  /-- True for mark. -/
  rxd : Bool
  deriving DecidableEq, Repr

/-- The levels the modems drive at a tick: free (log 4). -/
def levelsAt (t : Nat) (n : LineNo) : Levels :=
  ⟨Config.rng t n.val, Config.car t n.val, Config.mrdy t n.val, Config.rxd t n.val⟩

/-! ### One tick (R23, R25, R27, R52 to R55) -/

/-- The bit positions after the sample at a tick (R27, R55). -/
def sampleBits (r : Rate) (t : Nat) (mark : Bool) (bits : Byte) : Byte :=
  match ([0, 1, 2, 3, 4, 5, 6, 7] : List Nat).find? fun i => r.sampleAt i == t with
  | some i => if mark then bits ||| BitVec.ofNat 8 (2 ^ i) else bits
  | none => bits

/-- The stop bit after the sample at a tick (R27, R55). -/
def sampleStop (r : Rate) (t : Nat) (mark : Bool) (stop : Option Bool) : Option Bool :=
  if t = r.sampleAt 8 then some mark else stop

/-- The speed detector at a tick (R52, R53, R55). -/
def Speed.tick (mark : Bool) : Speed → Speed
  | .waitQuiet t => .waitQuiet (if mark then t + 1 else 0)
  | .measuring w => .measuring (if mark then w else w + 1)
  | .receiving r t bits stop =>
    .receiving r (t + 1) (sampleBits r (t + 1) mark bits) (sampleStop r (t + 1) mark stop)
  | other => other

/-- The receiver of a line with a rate at a tick (R27). -/
def Receiver.tick (r : Rate) (f : Format) (mark : Bool) : Receiver → Receiver
  | .hunting => if mark then .hunting else .edge 0 f
  | .edge t g => .edge (t + 1) g
  | .assembling t g bits stop =>
    .assembling (t + 1) g (sampleBits r (t + 1) mark bits) (sampleStop r (t + 1) mark stop)
  | other => other

/-- The transmitter at a tick (R30). -/
def Transmitter.tick : Transmitter → Transmitter
  | .sending c f t => .sending c f (t + 1)
  | .idle => .idle

/-- A line's inputs sampled (R23). -/
def LineUnit.sampled (v : Levels) (u : LineUnit) : LineUnit :=
  { u with rng := v.rng, car := v.car, mrdy := v.mrdy, rxd := v.rxd }

/-- A line at a tick: its inputs sampled, its speed detector, receiver and transmitter one tick on. -/
def State.lineTick (s : State) (n : LineNo) (v : Levels) : State :=
  let f := s.formatOf n
  s.modLine n fun l =>
    let u := l.unit.sampled v
    { l with unit :=
      { u with speed := u.speed.tick v.rxd,
               receiver := match l.ses.rate with
                 | some r => u.receiver.tick r f v.rxd
                 | none => u.receiver,
               transmitter := u.transmitter.tick } }

/-! ### One millisecond (R2, R47, R48, R50, R125, R160) -/

/-- The ring detector's judgement: a changed level is an event, a steady one counts (R40 to R43, R47). -/
def LineUnit.judgeRing (p : Params) (u : LineUnit) : LineUnit :=
  if u.ring.cond = .stopped then { u with rngSeen := u.rng }
  else if u.rng = u.rngSeen then { u with ring := u.ring.judge p u.rng }
  else { u with rngSeen := u.rng, ring := { u.ring with edge := true } }

/-- The carrier detector's judgement (R48, R50). -/
def Carrier.judge (p : Params) (car : Bool) : Carrier → Carrier
  | .stopped => .stopped
  | .qualifying ms _ => if car then .qualifying (ms + 1) (decide (p.carrierQualify ≤ ms + 1)) else .qualifying 0 false
  | .watching ms _ made =>
    if car then .watching 0 false false else .watching (ms + 1) (!made && decide (p.carrierLoss ≤ ms + 1)) made

/-- The modem-ready watch's judgement (R160). -/
def ModemWatch.judge (mrdy : Bool) : ModemWatch → ModemWatch
  | .watching c => .watching (if mrdy then 0 else c + 1)
  | other => other

/-- A line's detectors at a millisecond. -/
def LineUnit.judge (p : Params) (u : LineUnit) : LineUnit :=
  let v := u.judgeRing p
  { v with carrier := v.carrier.judge p v.car, mrdySeen := v.mrdy, modem := v.modem.judge v.mrdy }

/-- The timers of a session record at a millisecond (R2). -/
def Session.tickTimers (r : Session) : Session :=
  { r with offerTimer := r.offerTimer.tick, stateTimer := r.stateTimer.tick, idleTimer := r.idleTimer.tick,
           graceTimer := r.graceTimer.tick }

/-- A line at a millisecond. -/
def State.lineMs (s : State) (n : LineNo) : State :=
  s.modLine n fun l =>
    { ses := l.ses.tickTimers, unit := l.unit.judge s.params,
      sup := { l.sup with traffic := l.sup.traffic.tick } }

/-- The part at a millisecond: every line, both silence timers (R88), and the clock's sub-second phase (R125). -/
def State.millisecond (s : State) : State :=
  let judged := s.forLines State.lineMs
  { judged with
    hostA := { judged.hostA with silence := judged.hostA.silence.tick }
    hostB := { judged.hostB with silence := judged.hostB.silence.tick }
    clock := { judged.clock with phase := judged.clock.phase + 1 } }

/-- Reference-clock periods in a tick and in a millisecond (0.6.4: 4.608 MHz, divided by 240 for a tick). -/
def tickPeriods : Nat := 240
def msPeriods : Nat := 4608

/-- One tick passes with the inputs at given levels. While RESET is asserted the inputs are sampled and nothing
else. -/
def State.advance (v : LineNo → Levels) (s : State) : State :=
  let counted := { s with ticks := s.ticks + 1 }
  if s.inReset then counted.forLines fun t n => t.modUnit n (LineUnit.sampled (v n))
  else
    let ticked := counted.forLines fun t n => t.lineTick n (v n)
    let phase := s.msPhase + tickPeriods
    if msPeriods ≤ phase then { ticked with msPhase := phase - msPeriods }.millisecond
    else { ticked with msPhase := phase }

/-! ### Events that have fallen due -/

/-- The ticks of mark that arm a later autobaud attempt: 100 ms (R39, R52). -/
def quietTicks : Nat := 1920

/-- A list of one event where its condition holds. -/
def eventIf (c : Bool) (e : Instr) : List Instr := if c then [e] else []

/-- The ring detector's due events (R40 to R43). -/
def ringDue (u : LineUnit) (n : LineNo) : List Instr :=
  eventIf u.ring.edge (if u.rngSeen then .rngAsserted n else .rngDeasserted n) ++
  match u.ring.cond with
  | .qualifying => eventIf u.ring.reached (.burstStart n u.ring.gapAtStart)
  | .burst => eventIf u.ring.reached (.falseRing n)
  | .releasing => eventIf (decide (ringRelease ≤ u.ring.run)) (.burstEnd n u.ring.onTime)
  | .rearm => eventIf (decide (ringRelease ≤ u.ring.run)) (.rearmComplete n u.ring.onTime)
  | .stopped | .armed => []

/-- The state timer's expiry event, by its use in the line's state (R2). -/
def stateExpiry (u : LineUnit) (r : Session) (n : LineNo) : List Instr :=
  match r.state with
  | .ringing => [.gapTimerExpiry n]
  | .answering => [.carrierLimitExpiry n]
  | .speedHunt => [.speedWaitExpiry n]
  | .signOn => [.signOnTimerExpiry n]
  | .held => [.holdTimerExpiry n]
  | .clearing =>
    match r.phase with
    | .drain => [.drainLimitExpiry n]
    | .guard => [.guardTimerExpiry n]
    | .none => []
  | .outOfService => [.settleTimerExpiry n u.mrdySeen]
  | .idle | .offered | .connected => []

/-- The carrier detector's due event (R48, R50). -/
def carrierDue (u : LineUnit) (n : LineNo) : List Instr :=
  match u.carrier with
  | .qualifying _ reached => eventIf reached (.carrierQualified n)
  | .watching _ reached made => eventIf (reached && !made) (.carrierLost n)
  | .stopped => []

/-- The speed detector's due event (R52 to R55). -/
def speedDue (u : LineUnit) (n : LineNo) : List Instr :=
  match u.speed with
  | .stopped => []
  | .waitMark => eventIf u.rxd (.speedDetectorArm n)
  | .waitQuiet t => eventIf (decide (quietTicks ≤ t)) (.speedDetectorArm n)
  | .armed => eventIf (!u.rxd) (.autobaudStartBit n)
  | .measuring w => eventIf (u.rxd || decide (255 ≤ w)) (.wFinal n w)
  | .receiving _ _ bits stop =>
    match stop with
    | some mark => [.autobaudStopBit n bits mark]
    | none => []

/-- The receiver's due event on a line with a rate (R27). -/
def receiverDue (u : LineUnit) (r : Rate) (n : LineNo) : List Instr :=
  match u.receiver with
  | .stopped | .hunting => []
  | .edge t _ => eventIf (decide (r.ticks / 2 ≤ t)) (.startBitSample n u.rxd)
  | .assembling _ _ bits stop =>
    match stop with
    | some mark => [.characterReceived n bits mark]
    | none => []
  | .waitingForMark => eventIf u.rxd (.returnToHunting n)

/-- The transmitter's due event on a line with a rate (R25, R30). -/
def transmitterDue (u : LineUnit) (r : Rate) (n : LineNo) : List Instr :=
  match u.transmitter with
  | .sending _ _ t => eventIf (decide (r.charBits * r.ticks ≤ t)) (.transmitCharacterDone n)
  | .idle => []

/-- The modem-ready watch's due event (R160). -/
def modemDue (u : LineUnit) (n : LineNo) : List Instr :=
  match u.modem with
  | .watching c => eventIf (decide (100 ≤ c)) (.modemLost n)
  | .stopped | .raised => []

namespace State

/-- The events due on a line. RNG's change is judged in the millisecond that sees it, so the gap that it ends is
settled before a gap timer that runs out in the same millisecond (R42, R44). -/
def lineDue (s : State) (n : LineNo) : List Instr :=
  let u := s.unit n
  let r := s.ses n
  ringDue u n ++ (if r.stateTimer.isDue && !u.ring.edge then stateExpiry u r n else []) ++ carrierDue u n ++
  speedDue u n ++
  (match r.rate with
    | some rate => receiverDue u rate n ++ transmitterDue u rate n
    | none => []) ++
  modemDue u n ++ eventIf (s.feedReady n) (.messageFeedStep n) ++
  eventIf (r.draining && r.feed.isEmpty && r.tx.isEmpty) (.drainComplete n) ++
  eventIf (r.offer.isSome && r.offerTimer.isDue) (.offerTimerExpiry n) ++
  eventIf r.idleTimer.isDue (.idleTimerExpiry n) ++ eventIf r.graceTimer.isDue (.graceTimerExpiry n) ++
  eventIf (s.sup n).traffic.isDue (.trafficTimerExpiry n)

/-- The events due in the part. -/
def due (s : State) : List Instr :=
  if s.inReset then []
  else
    eventIf s.hostA.silence.isDue (.silenceTimerExpiry .a) ++ eventIf s.hostB.silence.isDue (.silenceTimerExpiry .b) ++
    eventIf (decide (1000 ≤ s.clock.phase)) .secondBoundary ++ allLines.flatMap s.lineDue

end State

/-- A step with no command waiting: a due event, or a tick (log 4, log 5). -/
def idle (s : State) : Result :=
  match s.due with
  | [] => .next (s.advance (levelsAt s.ticks))
  | [e] => exec e s
  | e :: more =>
    exec ((e :: more).getD (Config.arrival s.picks % (more.length + 1)) e) { s with picks := s.picks + 1 }

end Sys2Proof.Machine
end

