-- ==== Sys2Proof/Safety.lean ====
section
/-! DEFINITION. What a sound state of the part is, in the terms claims use: the laws that the manual states of the whole
part, each with its rule; and the vocabulary of claims about one command: which frames a link takes, what a taken frame
leaves at its port, and which parts of the state a command leaves alone. -/

namespace Sys2Proof.Machine

/-! ### The laws of the part -/

/-- The states in which a line's transmit FIFO is empty (R109). -/
def LineState.txEmpty : LineState → Bool
  | .idle | .ringing | .answering | .speedHunt | .outOfService => true
  | .signOn | .offered | .connected | .held | .clearing => false

/-- The law of the FIFOs for one line (R109), with the bound of the message feed queue (R35). -/
def Session.fifosSound (r : Session) : Prop :=
  (r.rx ≠ [] → r.state = .connected ∨ r.state = .held) ∧ (r.state.txEmpty = true → r.tx = []) ∧
  r.rx.length ≤ 64 ∧ r.tx.length ≤ 64 ∧ r.feed.length ≤ 3

/-- The law of the FIFOs (R109). -/
def fifoLaw (s : State) : Prop := ∀ n, (s.ses n).fifosSound

/-- The law of the outstanding offer for one line (R80): an offer is pending exactly when the line is OFFERED, or HELD
with an adoption pending, and its target link is UP. -/
def offerSound (s : State) (r : Session) : Prop :=
  match r.offer with
  | some o =>
    (r.state = .offered ∧ o.kind = .signOn ∨ r.state = .held ∧ o.kind = .adopt) ∧ (s.host o.target).up = true
  | none => r.state ≠ .offered

/-- The law of the outstanding offer (R80). -/
def offerLaw (s : State) : Prop := ∀ n, offerSound s (s.ses n)

/-- The law of ownership (R90): no line is CONNECTED to a host link that is DOWN. -/
def ownerLaw (s : State) : Prop :=
  ∀ n, (s.ses n).state = .connected → ∃ h, (s.ses n).owner = some h ∧ (s.host h).up = true

/-- The law of the table (R111), with the range of an account number (R110). -/
def tableLaw (s : State) : Prop :=
  s.accounts.length ≤ 128 ∧ s.accounts.Pairwise (fun x y => x.number < y.number) ∧
  ∀ e ∈ s.accounts, e.number ≤ 999999

/-- The law of the balance (R121). -/
def balanceLaw (s : State) : Prop := ∀ e ∈ s.accounts, e.balance ≤ 16777215

/-- A line whose session names an account. -/
def Session.names (r : Session) (number : Nat) : Bool := r.state.hasSession && r.account == some number

/-- The law of active sessions (R123): an entry's count is that of the lines in OFFERED, CONNECTED or HELD that name it,
it never exceeds the session limit, and every such line names an entry present in the table. -/
def activeLaw (s : State) : Prop :=
  (∀ e ∈ s.accounts, e.active = s.countLines (fun _ l => l.ses.names e.number) ∧ e.active ≤ e.limit ∧ e.limit ≤ 4) ∧
  ∀ n, (s.ses n).state.hasSession = true → (s.accountOf n).isSome = true

/-- The law of the fraction accumulator (R137). -/
def fractionLaw (s : State) : Prop :=
  ∀ n, (s.ses n).f < 60000 ∧ ((s.ses n).state ≠ .connected → (s.ses n).state ≠ .held → (s.ses n).f = 0)

/-- Serials consecutive modulo 65,536, the newest just below the counter (R152). -/
def serialsRun (next : Nat) : List ChargeRecord → Prop
  | [] => True
  | [r] => (r.serial + 1) % 65536 = next
  | r :: r' :: rest => (r.serial + 1) % 65536 = r'.serial ∧ serialsRun next (r' :: rest)

/-- The law of record order (R152), with the range of the serial counter (R149). -/
def recordLaw (s : State) : Prop := serialsRun s.serial s.records ∧ s.serial < 65536

/-- The law of reservations (R154). -/
def reservationLaw (s : State) : Prop :=
  s.countLines (fun _ l => l.ses.state.hasSession) = s.reservations ∧ s.records.length + s.reservations ≤ 32

/-- The law of host notice queues, with the bound of the accounting link's queue (R177). -/
def noticeLaw (s : State) : Prop :=
  (∀ h, (s.port (Computer.link h)).notices.length ≤ 32 ∧ ((s.host h).up = false → (s.port (Computer.link h)).notices = [])) ∧
  s.portAcct.notices.length ≤ 16

/-- The law of the ANS output, with TRDY as the state table of section 1.2 has it (R21). -/
def outputLaw (s : State) : Prop :=
  ∀ n, (s.unit n).ans = ((s.ses n).state.active || (s.ses n).draining) ∧
    (s.unit n).trdy = (match (s.ses n).state with
      | .clearing => (s.ses n).draining
      | .outOfService => (s.ses n).stateTimer.isRunning
      | _ => true)

/-- A set Calendar Clock reads a time of the week (R125). -/
def clockLaw (s : State) : Prop := s.clock.minute < 10080 ∧ s.clock.second < 60

/-- The laws together. -/
def lawful (s : State) : Prop :=
  fifoLaw s ∧ offerLaw s ∧ ownerLaw s ∧ tableLaw s ∧ balanceLaw s ∧ activeLaw s ∧ fractionLaw s ∧ recordLaw s ∧
  reservationLaw s ∧ noticeLaw s ∧ outputLaw s ∧ clockLaw s

/-! ### Frames taken -/

/-- A frame on a link is taken at its end: it began with READY asserted (R171), or it was not begun and READY stands
asserted, the command standing for the whole exchange (log 7). -/
def accepts (s : State) (k : Link) : Prop :=
  (s.port k).exchange = .active ∨ (s.port k).exchange = .none ∧ (s.port k).ready = true

/-- A link whose good frames bring nothing UP: a host link that is UP, or the accounting link (R88). -/
def linkIsUp (s : State) (k : Link) : Prop := ∀ h, k.host? = some h → (s.host h).up = true

/-- A link that takes a frame and has no coming UP to do first. -/
def listens (s : State) (k : Link) : Prop := accepts s k ∧ linkIsUp s k

/-- The port after a taken frame with a reply: the exchange over, its outbound frame the one built at the assertion of
select (R171), the reply pending (R173). -/
def framePort (s : State) (k : Link) (r : Reply) : LinkPort :=
  { s.port k with
    reply := r
    exchange := .none
    outbound := if (s.port k).exchange = .active then (s.port k).outbound else outboundFrame s k }

/-- The state in which the order of a good frame is carried out, on a link that listens: the exchange is over, and a
host link's silence timer has been restarted (R88, R171). -/
def State.heard (s : State) (k : Link) : State :=
  let t := s.modPort k fun p => framePort s k p.reply
  match k.host? with
  | some h => t.modHost h fun _ => ⟨true, .running (s.params.hostSilence * 1000)⟩
  | none => t

/-- A taken good frame restarts an UP host link's silence timer at the host-silence limit (R88). -/
def silenceRestarted (k : Link) (s t : State) : Prop :=
  ∀ h, k.host? = some h → t.host h = ⟨true, .running (s.params.hostSilence * 1000)⟩

/-- A good frame has been taken with a reply, and nothing else has changed at its link. -/
def frameTaken (k : Link) (r : Reply) (s t : State) : Prop := t.port k = framePort s k r ∧ silenceRestarted k s t

/-! ### What a command leaves alone -/

/-- The parts of the state. -/
inductive Part where
  | session (n : LineNo)
  | unit (n : LineNo)
  | sup (n : LineNo)
  | port (k : Link)
  | host (h : Computer)
  | accounts
  | records
  | reservations
  | serial
  | clock
  | tariff
  | messages
  | service
  | params
  | reset
  | time
  | queue
  deriving DecidableEq, Repr

/-- A part is the same in two states. -/
def Part.same : Part → State → State → Prop
  | .session n, s, t => t.ses n = s.ses n
  | .unit n, s, t => t.unit n = s.unit n
  | .sup n, s, t => t.sup n = s.sup n
  | .port k, s, t => t.port k = s.port k
  | .host h, s, t => t.host h = s.host h
  | .accounts, s, t => t.accounts = s.accounts
  | .records, s, t => t.records = s.records
  | .reservations, s, t => t.reservations = s.reservations
  | .serial, s, t => t.serial = s.serial
  | .clock, s, t => t.clock = s.clock
  | .tariff, s, t => t.tariff = s.tariff
  | .messages, s, t => t.messages = s.messages
  | .service, s, t => t.service = s.service
  | .params, s, t => t.params = s.params
  | .reset, s, t => t.inReset = s.inReset
  | .time, s, t => t.msPhase = s.msPhase ∧ t.ticks = s.ticks ∧ t.picks = s.picks
  | .queue, s, t => t.pending = s.pending

/-- Every part but those listed is unchanged. -/
def unchangedBut (ps : List Part) (s t : State) : Prop := ∀ p, p ∉ ps → p.same s t

/-- The parts that a taken good frame may change whatever its order: its port, and its host link's silence timer. -/
def frameParts (k : Link) : List Part :=
  .port k :: match k.host? with
    | some h => [.host h]
    | none => []

/-- A frame was taken with a reply, and nothing else changed anywhere. -/
def onlyAnswers (k : Link) (r : Reply) (s t : State) : Prop := frameTaken k r s t ∧ unchangedBut (frameParts k) s t

/-- A good frame was taken, leaving its link's port so, and nothing but the listed parts has changed besides. -/
def carriedOut (k : Link) (p : LinkPort) (ps : List Part) (s t : State) : Prop :=
  t.port k = p ∧ silenceRestarted k s t ∧ unchangedBut (ps ++ frameParts k) s t

/-- Every line's session record. -/
def allSessions : List Part := allLines.map Part.session

/-- Every line: session record, Line Unit and Supervision Unit fields. -/
def allUnits : List Part := allSessions ++ allLines.map Part.unit

/-! ### The codes of section 12.8 -/

/-- The number a table gives an item. -/
def numberIn {α : Type} [BEq α] (table : List (α × Nat)) (a : α) : Nat := (table.lookup a).getD 0

/-- The reply codes (12.8.3). -/
def replyNumbers : List (ReplyCode × Nat) :=
  [(.none, 0x00), (.ok, 0x01), (.clamped, 0x02), (.partialDone, 0x03), (.empty, 0x04), (.badOrder, 0x10),
   (.notPermitted, 0x11), (.badArgument, 0x12), (.checkFail, 0x13), (.notOwner, 0x20), (.noOffer, 0x21),
   (.stale, 0x22), (.notFound, 0x30), (.duplicate, 0x31), (.tableFull, 0x32), (.inUse, 0x33),
   (.faultPending, 0x40), (.badState, 0x41)]

/-- The line states (12.8.6). -/
def stateNumbers : List (LineState × Nat) :=
  [(.idle, 0), (.ringing, 1), (.answering, 2), (.speedHunt, 3), (.signOn, 4), (.offered, 5), (.connected, 6),
   (.held, 7), (.clearing, 8), (.outOfService, 9)]

/-- The clearing phases (12.8.6). -/
def phaseNumbers : List (ClearPhase × Nat) := [(.none, 0), (.drain, 1), (.guard, 2)]

/-- The rate codes (12.8.6). -/
def rateNumbers : List (Option Rate × Nat) :=
  [(none, 0), (some .b110, 1), (some .b150, 2), (some .b300, 3), (some .b600, 4), (some .b1200, 5)]

/-- The hosts (12.8.6). -/
def hostNumbers : List (Option Computer × Nat) := [(none, 0), (some .a, 1), (some .b, 2)]

/-- The offer kinds (12.8.6). -/
def kindNumbers : List (OfferKind × Nat) := [(.signOn, 1), (.adopt, 2)]

/-- The clear causes (12.8.6). -/
def causeNumbers : List (Cause × Nat) :=
  [(.callerDropped, 1), (.hostReleased, 2), (.hostLost, 3), (.creditExhausted, 4), (.idleTimeout, 5), (.forced, 6),
   (.lineFault, 7), (.serviceClosed, 8), (.signonFailed, 9), (.signonTimeout, 10), (.speedFail, 11),
   (.noCarrier, 12)]

/-- The withdrawal reasons (12.8.6). -/
def reasonNumbers : List (Reason × Nat) :=
  [(.callerGone, 1), (.timeout, 2), (.holdExpired, 3), (.forced, 4), (.serviceClosed, 5), (.lineFault, 6)]

/-- The fault kinds (12.8.6). -/
def faultNumbers : List (FaultKind × Nat) := [(.modemLost, 0), (.modemAbsent, 1), (.noCarrier, 2), (.speedFail, 3)]

/-- A stamp's four bytes: present, the minute in two, the second (12.8.7); zeros when absent (R155). -/
def stampBytes : Option Stamp → Word32
  | none => 0
  | some t => (1 : Byte) ++ BitVec.ofNat 16 t.minute ++ BitVec.ofNat 8 t.second

/-- The mask bits that suppress a notice's kind on a host link and on the accounting link (R179). -/
def masked (k : Link) (mask : Byte) (m : Notice) : Prop :=
  k ≠ .acct ∧ (mask.getLsbD 0 = true ∧ (∃ n b, m = .lowBalance n b) ∨ mask.getLsbD 1 = true ∧ ∃ n g, m = .grace n g) ∨
  k = .acct ∧ (mask.getLsbD 0 = true ∧ (∃ h, m = .hostDown h) ∨ mask.getLsbD 1 = true ∧ (∃ h, m = .hostUp h) ∨
    mask.getLsbD 2 = true ∧ m = .drained)

/-! ### Accounts and parameters by their codes -/

/-- What ACCOUNT SET refuses whatever its cursor: a field it does not write, or a value code that names no value
(R117, checks 1 and 2). -/
def refusedField (field value : Nat) : Prop :=
  field ∉ [1, 2, 3, 4, 6, 7, 8] ∨ field = 1 ∧ 1 < value ∨ field = 6 ∧ (value = 0 ∨ 3 < value) ∨ field = 7 ∧ 15 < value

/-- The entry with a field written, clamped as the table of R117 has it. -/
def fieldWritten (e : Account) (field value : Nat) : Account :=
  match field with
  | 1 => { e with state := if value = 0 then .suspended else .opened }
  | 2 => { e with balance := min value 16777215 }
  | 3 => { e with warn := min value 65535 }
  | 4 => { e with limit := max (max 1 (min value 4)) e.active }
  | 6 => { e with hosts := ⟨value == 1 || value == 3, value == 2 || value == 3⟩ }
  | 7 => { e with classes := BitVec.ofNat 4 value }
  | _ => { e with grace := min value 15 }

/-- A field's value as its code or number (12.8.6, 12.8.7). -/
def fieldNumber (e : Account) (field : Nat) : Nat :=
  match field with
  | 0 => e.number
  | 1 => if e.state = .opened then 1 else 0
  | 2 => e.balance
  | 3 => e.warn
  | 4 => e.limit
  | 5 => e.active
  | 6 => (if e.hosts.a then 1 else 0) + (if e.hosts.b then 2 else 0)
  | 7 => e.classes.toNat
  | _ => e.grace

/-- A session after its account's new balance has been judged: with a balance above 0 a CONNECTED or HELD session of the
account has its grace timer stopped, and its warned flag cleared where the balance is not below the threshold (R120). -/
def balanceJudged (e : Account) (r : Session) : Session :=
  if (r.state = .connected ∨ r.state = .held) ∧ r.account = some e.number ∧ 0 < e.balance then
    { r with graceTimer := .stopped, warned := r.warned && decide (e.balance < e.warn) }
  else r

/-- A parameter's value in its own unit, by its code (12.8.8). -/
def paramValue (p : Params) (code : Nat) : Nat :=
  match code with
  | 0 => p.answerAfter
  | 1 => p.ringMinOn
  | 2 => p.ringMaxOn
  | 3 => p.ringMaxOff
  | 4 => p.carrierLimit
  | 5 => p.carrierQualify
  | 6 => p.carrierLoss
  | 7 => p.speedAttempts
  | 8 => p.speedWait
  | 9 => p.signOnLimit
  | 10 => p.signOnAttempts
  | 11 => p.offerLimit
  | 12 => p.holdLimit
  | 13 => p.idleLimit
  | 14 => p.drainLimit
  | 15 => p.guardTime
  | 16 => p.hostSilence
  | _ => match p.lampMode with
    | .occupied => 0
    | .billing => 1
    | .fault => 2
    | .traffic => 3

/-- The ranges of the eighteen parameters, in code order (12.8.8). -/
def paramRanges : List (Nat × Nat) :=
  [(1, 8), (50, 750), (500, 3000), (1000, 8000), (5, 60), (100, 1000), (100, 2000), (1, 5), (2, 30), (15, 300),
   (1, 7), (2, 30), (0, 30), (0, 60), (1, 10), (0, 10), (1, 60), (0, 3)]

/-! ### Events on one line -/

/-- The parts that the shared operations on a line can change: its own record, Line Unit and Supervision Unit fields,
the links' ports, the accounts, the charge records and their counts, and the service state. -/
def lineParts (n : LineNo) : List Part :=
  [.session n, .unit n, .sup n, .port .hostA, .port .hostB, .port .acct, .accounts, .records, .reservations, .serial,
   .service]

/-- The session record after an IDLE entry: reset values, but for the class and the toggle (R4, R78). -/
def idleRecord (r : Session) : Session := { Session.reset with state := .idle, cls := r.cls, toggle := r.toggle }

/-- The session record after an entry to OUT_OF_SERVICE (R19). -/
def outRecord (r : Session) : Session := { Session.reset with cls := r.cls, toggle := r.toggle }

/-- The condition in which a ring detector starts on an IDLE line (R40). -/
def ringStart (s : State) (n : LineNo) : RingCond :=
  if s.service = .opened then if (s.unit n).rngSeen then .qualifying else .armed else .stopped

/-- While DRAINING, a line that comes to rest completes the drain if every other line rests: the service state becomes
CLOSED and DRAINED is posted (R169). Otherwise neither the service state nor the accounting link's port changes. -/
def drainJudged (n : LineNo) (s t : State) : Prop :=
  if s.service = .draining ∧ ∀ m, m ≠ n → (s.ses m).state = .idle ∨ (s.ses m).state = .outOfService then
    t.service = .closed ∧ t.portAcct = (s.postNotice .acct .drained).portAcct
  else t.service = s.service ∧ t.portAcct = s.portAcct

/-- A line has come to rest: OUT_OF_SERVICE if disable-pending is set, else IDLE (R15, R4, R19, R31, R40). -/
def retired (n : LineNo) (s t : State) : Prop :=
  ((s.ses n).disablePending = true → t.ses n = outRecord (s.ses n) ∧ (t.unit n).ans = false ∧ (t.unit n).trdy = false ∧
    (t.unit n).ring = .reset ∧ (t.unit n).modem = .stopped) ∧
  ((s.ses n).disablePending = false → t.ses n = idleRecord (s.ses n) ∧ (t.unit n).trdy = true ∧
    (t.unit n).ring.cond = ringStart s n) ∧
  (t.unit n).transmitter = .idle ∧ (t.unit n).flow = none ∧ drainJudged n s t ∧
  unchangedBut [.session n, .unit n, .service, .port .acct] s t

/-- A line has hung up: its outputs deasserted, its detectors, receiver and transmitter stopped, and the guard timer
started (R14); with a guard time of 0 it comes to rest at once (R15). -/
def hungUp (n : LineNo) (s t : State) : Prop :=
  (s.params.guardTime ≠ 0 →
    t.ses n = { s.ses n with phase := .guard, stateTimer := .running (s.params.guardTime * 1000) } ∧
    t.unit n = { s.unit n with
      ans := false, trdy := false, carrier := .stopped, speed := .stopped, receiver := .stopped, transmitter := .idle,
      flow := none } ∧
    unchangedBut [.session n, .unit n] s t) ∧
  (s.params.guardTime = 0 → (t.unit n).ans = false ∧ (t.unit n).receiver = .stopped ∧ retired n s t)

/-- The clear requests of section 1.4, by the command that sends one with a cause to a line, and what it takes for the
command to send it (R6). -/
def sendsClear (s : State) (n : LineNo) (i : Instr) (c : Cause) : Prop :=
  match i with
  | .release k b => listens s k ∧ b.toNat = n.val ∧ c = .hostReleased ∧
      ∃ h, k.host? = some h ∧ (s.ses n).state = .connected ∧ (s.ses n).owner = some h
  | .lineClear k b => k = .acct ∧ listens s k ∧ b.toNat = n.val ∧ c = .forced
  | .lineDisable k b => k = .acct ∧ listens s k ∧ b.toNat = n.val ∧ c = .forced
  | .carrierLost m => m = n ∧ c = .callerDropped ∧ (s.ses n).state ≠ .answering ∧
      ∃ ms reached, (s.unit n).carrier = .watching ms reached false
  | .modemLost m => m = n ∧ c = .lineFault ∧ ∃ k, (s.unit n).modem = .watching k
  | .holdTimerExpiry m => m = n ∧ c = .hostLost ∧ (s.ses n).state = .held ∧ ∃ ms, (s.ses n).stateTimer = .running ms
  | .idleTimerExpiry m => m = n ∧ c = .idleTimeout ∧ ∃ ms, (s.ses n).idleTimer = .running ms
  | .graceTimerExpiry m => m = n ∧ c = .creditExhausted ∧ ∃ ms, (s.ses n).graceTimer = .running ms
  | .signOnTimerExpiry m => m = n ∧ c = .signonTimeout ∧ (s.ses n).state = .signOn ∧
      ∃ ms, (s.ses n).stateTimer = .running ms
  | .carrierLimitExpiry m => m = n ∧ c = .noCarrier ∧ (s.ses n).state = .answering ∧
      ∃ ms, (s.ses n).stateTimer = .running ms
  | _ => False

/-- The accounting link's port after a fault flag of a line has been raised: a FAULT notice is posted if the flag was
clear and its mask is off (R159). -/
def faultReported (s : State) (n : LineNo) (kind : FaultKind) (bit : Nat) : LinkPort :=
  if (s.sup n).faults.getLsbD bit = false ∧ (s.sup n).masks.getLsbD bit = false then
    (s.postNotice .acct (.fault n kind)).portAcct
  else s.portAcct

/-- The parts that the frame of such a command changes. -/
def clearFrame : Instr → List Part
  | .release k _ | .lineClear k _ | .lineDisable k _ => frameParts k
  | _ => []

/-- The commands that set disable-pending on an active line (R20). -/
def disables : Instr → Bool
  | .lineDisable _ _ | .modemLost _ => true
  | _ => false

/-- One unit of end rounding: half a unit or more of F (R145). -/
def roundsUp (r : Session) : Bool := decide (30000 ≤ r.f)

/-- The record of a session closed with a cause, built after end rounding on an account with a balance (R145, R149). -/
def closingRecord (s : State) (n : LineNo) (balance : Nat) (c : Cause) : ChargeRecord :=
  let r := s.ses n
  { serial := s.serial, line := n, account := r.account, cls := r.cls, rate := r.rate, firstHost := r.firstHost,
    lastHost := if r.state = .connected then r.owner else r.prevOwner, adoptions := r.adoptions, start := r.start,
    stop := if s.clock.set then some ⟨s.clock.minute, s.clock.second⟩ else none, bandSecs := r.bandSecs,
    heldSecs := r.heldSecs, fee := r.fee,
    debited := if roundsUp r ∧ 0 < balance then min (r.debited + 1) 16777215 else r.debited,
    overdraft := if roundsUp r ∧ balance = 0 then min (r.overdraft + 1) 16777215 else r.overdraft, cause := c }

/-- The message a clear cause carries (R10). -/
def goodbyeSlot (c : Cause) : Option (Fin 16) :=
  if c ∈ [.hostReleased, .hostLost, .creditExhausted, .forced, .serviceClosed, .signonFailed] then some 14
  else if c = .idleTimeout ∨ c = .signonTimeout then some 15 else none

/-- A feed queue after a message request (R35). -/
def requested (feed : List (Fin 16)) (slot : Fin 16) : List (Fin 16) :=
  if feed.length < 3 then feed ++ [slot] else feed

/-! ### Offers and links -/

/-- The idle timer as it starts: off at limit 0 (R17). -/
def idleStart (p : Params) : Timer := if p.idleLimit = 0 then .stopped else .running (p.idleLimit * 60000)

/-- The cursor after a message request: at the start of a message that joins an empty queue (R35). -/
def cursorRequested (r : Session) : Nat := if r.feed = [] then 0 else r.cursor

/-- The clock's stamp (R127). -/
def stampNow (s : State) : Option Stamp := if s.clock.set then some ⟨s.clock.minute, s.clock.second⟩ else none

/-- The commands by which a pending offer ends in a decline by its target: DECLINE with the offer's toggle, and the
expiry of the offer timer (R84, R85, R94). -/
def declines (s : State) (n : LineNo) (o : Offer) (i : Instr) : Prop :=
  match i with
  | .answer k b toggle verdict => k.host? = some o.target ∧ listens s k ∧ b.toNat = n.val ∧ verdict = 2 ∧
      toggle = (if (s.ses n).toggle then 1 else 0)
  | .offerTimerExpiry m => m = n ∧ ∃ ms, (s.ses n).offerTimer = .running ms
  | _ => False

/-- The frame of a decline. -/
def declineFrame : Instr → List Part
  | .answer k _ _ _ => frameParts k
  | _ => []

/-- The other computer. -/
def otherHost : Computer → Computer
  | .a => .b
  | .b => .a

/-- A host can take an offer for an account: permitted, its link UP, and its notice queue with room (R70, R93, R79). -/
def canTake (s : State) (e : Account) (h : Computer) : Prop :=
  e.hosts.has h = true ∧ (s.host h).up = true ∧ (s.port (Computer.link h)).notices.length < 32

/-- The commands that take a host link DOWN (R90). -/
def takesDown (s : State) (h : Computer) (i : Instr) : Prop :=
  match i with
  | .detach k => k.host? = some h ∧ listens s k
  | .silenceTimerExpiry g => g = h ∧ ∃ ms, (s.host h).silence = .running ms
  | _ => False

/-- A line OFFERED to a host. -/
def offeredTo (s : State) (h : Computer) (n : LineNo) : Bool :=
  (s.ses n).state == .offered && (s.ses n).offer.map (·.target) == some h

/-- A line OFFERED to a host that is lost, for which host routing finds the other host (R90, step 3; R84, R70). -/
def rerouted (s : State) (h : Computer) (n : LineNo) : Bool :=
  offeredTo s h n && decide ((s.ses n).offerAttempts ≤ 1) && (s.ses n).requested.all (· == otherHost h) &&
  !(s.ses n).tried.has (otherHost h) && s.permitsHost n (otherHost h) && (s.host (otherHost h)).up

/-- A line that is HELD with no offer once a host is lost, for which the adoption search finds the other host (R90,
step 5; R93). -/
def sought (s : State) (h : Computer) (n : LineNo) : Bool :=
  ((s.ses n).ownedBy h && s.params.holdLimit != 0 ||
    (s.ses n).state == .held && ((s.ses n).offer.isNone || (s.ses n).offer.map (·.target) == some h)) &&
  !(s.ses n).declined.has (otherHost h) && s.permitsHost n (otherHost h) && (s.host (otherHost h)).up

/-- A HELD line that a host coming UP is offered (R92). -/
def awaits (s : State) (h : Computer) (n : LineNo) : Bool :=
  (s.ses n).state == .held && (s.ses n).offer.isNone && s.permitsHost n h

/-! ### Charging -/

/-- The host link after a unit of the sign-on fee has brought the balance below the warn threshold: LOW_BALANCE with the
balance left by the first debit that did (R140, R141). -/
def feeWarned (s : State) (k : Link) (n : LineNo) (e : Account) (warns : Bool) : State :=
  if warns then s.postNotice k (.lowBalance n (min (e.balance - 1) (e.warn - 1))) else s

/-- The host link's port after a fee that started grace as well (R142). -/
def feePort (s : State) (k : Link) (n : LineNo) (e : Account) (warns graced : Bool) : LinkPort :=
  (if graced then (feeWarned s k n e warns).postNotice k (.grace n e.grace) else feeWarned s k n e warns).port k

/-- A feed queue after the messages of charged units: LOW_BALANCE, then GRACE (R140, R142). -/
def chargeFeed (feed : List (Fin 16)) (warns graced : Bool) : List (Fin 16) :=
  let warned := if warns then requested feed 11 else feed
  if graced then requested warned 12 else warned

/-- The units a CONNECTED line makes at a second boundary in a band (R135). -/
def unitsMade (s : State) (band : Nat) (n : LineNo) : Nat :=
  if (s.ses n).state = .connected then
    ((s.ses n).f + (s.tariff.rates[4 * band + (s.ses n).cls.val]?).getD 0) / 60000
  else 0

/-- The units that the lines below a number make on an account at a second boundary: they are taken first (R135). -/
def unitsBelow (s : State) (band number top : Nat) : Nat :=
  ((allLines.filter fun m => decide (m.val < top) && (s.ses m).account == some number).map (unitsMade s band)).sum

/-! ### Ringing and speed detection -/

/-- A line whose ring detector runs (R40). -/
def hears (s : State) (n : LineNo) : Prop :=
  ((s.ses n).state = .idle ∨ (s.ses n).state = .ringing) ∧ s.service = .opened

/-- A false burst (R43): the line is IDLE with ring count 0, the false ring is counted, the detector waits in REARM to
store the burst's on-time, and nothing else of the block changes. -/
def foundFalse (n : LineNo) (s t : State) : Prop :=
  (t.ses n).state = .idle ∧ (t.ses n).ringCount = 0 ∧ (t.ses n).lastOn = (s.ses n).lastOn ∧
  (t.unit n).falseRings = min ((s.unit n).falseRings + 1) 255 ∧ (t.unit n).ring.cond = .rearm ∧
  (t.unit n).ring.stores = true ∧ unchangedBut [.session n, .unit n] s t

/-- The windows of the five rates (R54). -/
def rateWindows : List (Rate × Nat × Nat) :=
  [(.b110, 154, 196), (.b150, 112, 144), (.b300, 56, 72), (.b600, 28, 36), (.b1200, 14, 18)]

/-- A failed autobaud attempt: counted, and the next one begun with speed-wait restarted; or, the attempts used up,
SPEED_FAIL raised and the line cleared (R57, R58). -/
def attemptFailed (n : LineNo) (s t : State) : Prop :=
  (min ((s.ses n).speedUsed + 1) 5 < s.params.speedAttempts →
    t.ses n = { s.ses n with
      speedUsed := min ((s.ses n).speedUsed + 1) 5
      stateTimer := .running (s.params.speedWait * 1000) } ∧
    (t.unit n).speed = .waitQuiet 0 ∧ unchangedBut [.session n, .unit n, .sup n] s t) ∧
  (s.params.speedAttempts ≤ min ((s.ses n).speedUsed + 1) 5 →
    (t.ses n).state.active = false ∧ ((t.ses n).state = .clearing → (t.ses n).cause = some .speedFail) ∧
    (t.ses n).tx = [] ∧ (t.ses n).feed = [] ∧ (t.unit n).ans = false ∧
    (t.sup n).faults = (s.sup n).faults ||| 8 ∧
    (s.service ≠ .draining → t.portAcct = faultReported s n .speedFail 3) ∧
    unchangedBut (lineParts n) s t)

/-! ### Sign-on -/

/-- What a character typed in SIGN_ON does to the buffer and echoes, but for CR (R62 to R64): a storable character, an
erase, a kill, another printable, or nothing. -/
def edited (buf : List Byte) (c : Byte) : List Byte × List Byte :=
  if 48 ≤ c.toNat ∧ c.toNat ≤ 57 ∨ c.toNat ∈ [44, 65, 66, 97, 98] then
    if buf.length < 16 then (buf ++ [c], [c]) else (buf, [7])
  else if c.toNat = 8 ∨ c.toNat = 127 then if buf = [] then (buf, [7]) else (buf.dropLast, [8, 32, 8])
  else if c.toNat = 21 then ([], [13, 10])
  else if 32 ≤ c.toNat ∧ c.toNat ≤ 126 then (buf, [7])
  else (buf, [])

/-- A FIFO with echoed characters placed while there is room (R37). -/
def echoed (tx cs : List Byte) : List Byte := tx ++ cs.take (64 - tx.length)

/-- The two forms of a sign-on line, with the account number and the requested host they give (R67). -/
def spells (buf : List Byte) (number : Nat) (req : Option Computer) : Prop :=
  ∃ d1 d2 d3 d4 d5 d6 : Nat, d1 < 10 ∧ d2 < 10 ∧ d3 < 10 ∧ d4 < 10 ∧ d5 < 10 ∧ d6 < 10 ∧
    number = 100000 * d1 + 10000 * d2 + 1000 * d3 + 100 * d4 + 10 * d5 + d6 ∧
    ∃ rest, buf.map (·.toNat) = [48 + d1, 48 + d2, 48 + d3, 48 + d4, 48 + d5, 48 + d6] ++ rest ∧
      (rest = [] ∧ req = none ∨ (rest = [44, 65] ∨ rest = [44, 97]) ∧ req = some .a ∨
        (rest = [44, 66] ∨ rest = [44, 98]) ∧ req = some .b)

/-- The line hears the character c in SIGN_ON, its transmitter busy: its receiver is at a stop bit, and the sampled
positions are c's, good in the format it began with (R27, R28). -/
def typed (s : State) (n : LineNo) (bits c : Byte) : Prop :=
  (s.ses n).state = .signOn ∧ (s.unit n).transmitter ≠ .idle ∧
  ∃ ticks f b stop, (s.unit n).receiver = .assembling ticks f b stop ∧ f.parityOk bits = true ∧ c = f.value bits

/-- A sign-on refusal with a message: the attempt counted, the buffer emptied, and, attempts being left, the message and
PROMPT requested with the sign-on timer restarted; else the line cleared, holding nothing (R74, R75). -/
def refusedWith (slot : Fin 16) (n : LineNo) (s t : State) : Prop :=
  (min ((s.ses n).attempts + 1) 7 < s.params.signOnAttempts →
    (t.ses n).state = .signOn ∧ (t.ses n).attempts = min ((s.ses n).attempts + 1) 7 ∧ (t.ses n).buffer = [] ∧
    (t.ses n).feed = requested (requested (s.ses n).feed slot) 1 ∧
    (t.ses n).stateTimer = .running (s.params.signOnLimit * 1000)) ∧
  (s.params.signOnAttempts ≤ min ((s.ses n).attempts + 1) 7 →
    (t.ses n).state.active = false ∧ ((t.ses n).state = .clearing → (t.ses n).cause = some .signonFailed))

end Sys2Proof.Machine
end

