-- ==== Sys2Proof/Certificates/Slice0/Obligations.lean ====
section
/-! DEFINITION. The statements for the provers, in the terms of Safety.lean. -/

open Sys2Proof Sys2Proof.Machine

/-! ### The step, reset and encoding -/

/-- With commands waiting, a step carries out the one at the front on the state with the queue's rest (log 2), and
every command answers a next state in every state: no rule of the manual stops the part. With none waiting and no event
due, one tick passes at the free input levels; with one event due, a step is that event (log 4). -/
def Obligations.StepTakesFrontOrPassesTime : Prop :=
  (∀ (c : Instr) (rest : List Instr) (s : State), s.pending = c :: rest →
    step s = exec c { s with pending := rest }) ∧
  (∀ (c : Instr) (s : State), ∃ t, exec c s = .next t) ∧
  (∀ s : State, s.pending = [] → s.due = [] → step s = .next (s.advance (levelsAt s.ticks))) ∧
  ∀ (e : Instr) (s : State), s.pending = [] → s.due = [e] → step s = exec e s

/-- What device reset leaves: the lines, links, tables, queues, clock, tariff, message slots and parameters at the
values their rules give, and every law of the part holding. READY stands asserted, since State.reset is the end of
reset (log 3), the input pins at the levels of log 6, and the class and toggle of every line at 0 (R1). -/
def Obligations.ResetValues : Prop :=
  (∀ n, State.reset.ses n =
    { state := .outOfService, cls := 0, rate := none, disablePending := false, ringCount := 0, lastOn := 0,
      lastGap := 0, speedUsed := 0, buffer := [], attempts := 0, account := none, requested := none, owner := none,
      prevOwner := none, firstHost := none, adoptions := 0, declined := ⟨false, false⟩, offer := none, toggle := false,
      offerAttempts := 0, tried := ⟨false, false⟩, offerTimer := .stopped, stateTimer := .stopped,
      idleTimer := .stopped, graceTimer := .stopped, f := 0, bandSecs := ⟨#[0, 0, 0, 0], rfl⟩, heldSecs := 0,
      debited := 0, overdraft := 0, fee := 0, start := none, warned := false, rx := [], tx := [], feed := [],
      cursor := 0, xoffSent := false, cause := none, phase := .none }) ∧
  (∀ n, (State.reset.unit n).ans = false ∧ (State.reset.unit n).trdy = false ∧
    (State.reset.unit n).rng = false ∧ (State.reset.unit n).car = false ∧ (State.reset.unit n).mrdy = false ∧
    (State.reset.unit n).rxd = true ∧ (State.reset.unit n).rngSeen = false ∧ (State.reset.unit n).mrdySeen = false ∧
    (State.reset.unit n).ring.cond = .stopped ∧ (State.reset.unit n).carrier = .stopped ∧
    (State.reset.unit n).speed = .stopped ∧ (State.reset.unit n).receiver = .stopped ∧
    (State.reset.unit n).transmitter = .idle ∧ (State.reset.unit n).flow = none ∧
    (State.reset.unit n).modem = .stopped ∧ (State.reset.unit n).callsAnswered = 0 ∧
    (State.reset.unit n).falseRings = 0 ∧ (State.reset.unit n).charErrors = 0 ∧ (State.reset.unit n).overruns = 0 ∧
    State.reset.sup n = ⟨0, 0, 0, .stopped⟩ ∧ txd State.reset n = true ∧ lamp State.reset n = false) ∧
  (∀ k, (State.reset.port k).reply = ⟨.none, 0⟩ ∧ (State.reset.port k).notices = [] ∧
    (State.reset.port k).mask = 0 ∧ (State.reset.port k).cursor = none ∧ (State.reset.port k).lost = false ∧
    (State.reset.port k).ready = true ∧ (State.reset.port k).exchange = .none ∧ attention State.reset k = false) ∧
  (∀ h, State.reset.host h = ⟨false, .stopped⟩) ∧
  State.reset.accounts = [] ∧ State.reset.records = [] ∧ State.reset.reservations = 0 ∧ State.reset.serial = 0 ∧
  State.reset.clock = ⟨false, 0, 0, 0⟩ ∧ State.reset.service = .closed ∧ State.reset.inReset = false ∧
  (∀ i, (hi : i < 168) → State.reset.tariff.bands[i] = 0 ∧ State.reset.tariff.pendingBands[i] = none) ∧
  (∀ i, (hi : i < 16) → State.reset.tariff.rates[i] = 0 ∧ State.reset.tariff.pendingRates[i] = none) ∧
  (∀ i, (hi : i < 4) → State.reset.tariff.classes[i] = ⟨31, .even7, false, 0⟩ ∧
    State.reset.tariff.pendingClasses[i] = ⟨none, none, none, none⟩) ∧
  (∀ i, (hi : i < 16) → State.reset.messages[i].length = 0 ∧
    ∀ j, (hj : j < 64) → State.reset.messages[i].text[j] = 0) ∧
  State.reset.params = ⟨2, 150, 2500, 6000, 20, 400, 400, 3, 10, 60, 3, 10, 5, 15, 5, 2, 10, .occupied⟩ ∧
  lawful State.reset

/-- The command that the frame of an order decodes to is that order, with every operand at every value its bytes take.
Of the three SERVICE rows the OPEN row also carries every selector that names no service order (log 8). -/
def Obligations.DecodeOfEncode : Prop :=
  ∀ (i : Instr) (k : Link) (f : Frame), i.wellFormed = true → Frame.encode i = some (k, f) →
    f.order + f.sel + f.b2 + f.b3 + f.b4 + f.b5 + f.check = 255 ∧ Frame.decode k f = i

/-- Frames written out byte by byte from section 12.8 and the worked example of section 12.7 decode to the orders they
carry, a wrong check byte to CHECK_FAIL, and an unlisted code to ORDER_UNKNOWN. -/
def Obligations.WrittenFramesDecode : Prop :=
  ∀ k : Link,
    Frame.decode k ⟨0x00, 0, 0, 0, 0, 0, 0xFF⟩ = .nop k ∧
    Frame.decode k ⟨0x12, 3, 0, 0, 0, 0, 0xEA⟩ = .receive k 3 ∧
    Frame.decode k ⟨0x12, 3, 0, 0, 0, 0, 0xEB⟩ = .checkFail k ∧
    Frame.decode k ⟨0x10, 14, 1, 1, 0, 0, 0xDF⟩ = .answer k 14 1 1 ∧
    Frame.decode k ⟨0x08, 0, 0, 0x03, 0x1D, 0x55, 0x82⟩ = .accountSelect k 204117 ∧
    Frame.decode k ⟨0x30, 0, 0x0A, 0x28, 10, 0, 0x93⟩ = .clockSet k 2600 10 ∧
    Frame.decode k ⟨0x48, 1, 0, 0, 0, 0, 0xB6⟩ = .serviceDrain k ∧
    Frame.decode k ⟨0x06, 0, 0, 0, 0, 0, 0xF9⟩ = .orderUnknown k 0x06

/-! ### The laws of the part: every step keeps them -/

/-- Law of the outstanding offer (R80). -/
def Obligations.OfferLawKept : Prop := ∀ s t : State, offerLaw s → step s = .next t → offerLaw t

/-- Law of ownership (R90). -/
def Obligations.OwnerLawKept : Prop := ∀ s t : State, ownerLaw s → step s = .next t → ownerLaw t

/-- Law of the FIFOs (R109). -/
def Obligations.FifoLawKept : Prop := ∀ s t : State, offerLaw s → fifoLaw s → step s = .next t → fifoLaw t

/-- Law of the table (R111) and law of the balance (R121). -/
def Obligations.TableAndBalanceLawsKept : Prop :=
  ∀ s t : State, tableLaw s → balanceLaw s → step s = .next t → tableLaw t ∧ balanceLaw t

/-- Law of active sessions (R123). -/
def Obligations.ActiveLawKept : Prop :=
  ∀ s t : State, offerLaw s → tableLaw s → activeLaw s → step s = .next t → activeLaw t

/-- Law of the fraction accumulator (R137), and the range of the Calendar Clock's minute and second (R125). -/
def Obligations.FractionAndClockLawsKept : Prop :=
  (∀ s t : State, offerLaw s → fractionLaw s → step s = .next t → fractionLaw t) ∧
  ∀ s t : State, clockLaw s → step s = .next t → clockLaw t

/-- Law of record order (R152). -/
def Obligations.RecordLawKept : Prop := ∀ s t : State, recordLaw s → step s = .next t → recordLaw t

/-- Law of reservations (R154). -/
def Obligations.ReservationLawKept : Prop :=
  ∀ s t : State, offerLaw s → reservationLaw s → step s = .next t → reservationLaw t

/-- Law of host notice queues, with the accounting link's bound (R177). -/
def Obligations.NoticeLawKept : Prop := ∀ s t : State, noticeLaw s → step s = .next t → noticeLaw t

/-- Law of the ANS output, with TRDY by the state table (R21). -/
def Obligations.OutputLawKept : Prop :=
  ∀ s t : State, offerLaw s → outputLaw s → step s = .next t → outputLaw t

/-! ### Reset and frames -/

/-- DEVICE_RESET leaves every piece of state at its device reset value, READY deasserted on every link and a frame in
progress ignored to its end (R5, R172, R181); the input pins keep their levels (log 6) and the queue its commands.
RESET_END asserts READY on every link (R173) and starts the clock's sub-second phase at 0 (R125); with no reset in
progress it has no effect (log 19). -/
def Obligations.DeviceResetAndItsEnd : Prop :=
  (∀ s : State, ∃ t, exec .deviceReset s = .next t ∧ t.inReset = true ∧
    (∀ n, t.ses n = Session.reset ∧ t.sup n = Supervised.reset ∧
      t.unit n = { LineUnit.reset with
        rng := (s.unit n).rng, car := (s.unit n).car, mrdy := (s.unit n).mrdy, rxd := (s.unit n).rxd,
        rngSeen := (s.unit n).rngSeen, mrdySeen := (s.unit n).mrdySeen }) ∧
    (∀ k, (t.port k).ready = false ∧ (t.port k).reply = ⟨.none, 0⟩ ∧ (t.port k).notices = [] ∧
      (t.port k).mask = 0 ∧ (t.port k).cursor = none ∧ (t.port k).lost = false ∧
      ((s.port k).exchange = .none → (t.port k).exchange = .none) ∧
      ((s.port k).exchange ≠ .none → (t.port k).exchange = .ignored)) ∧
    (∀ h, t.host h = ⟨false, .stopped⟩) ∧ t.accounts = [] ∧ t.records = [] ∧ t.reservations = 0 ∧ t.serial = 0 ∧
    t.clock = ⟨false, 0, 0, 0⟩ ∧ t.tariff = Tariff.reset ∧ t.messages = State.reset.messages ∧
    t.service = .closed ∧ t.params = Params.reset ∧ t.pending = s.pending) ∧
  (∀ s : State, s.inReset = true → ∃ t, exec .resetEnd s = .next t ∧ t.inReset = false ∧
    (∀ k, t.port k = { s.port k with ready := true }) ∧ t.clock = { s.clock with phase := 0 } ∧
    unchangedBut [.port .hostA, .port .hostB, .port .acct, .reset, .clock, .time] s t) ∧
  ∀ s : State, s.inReset = false → exec .resetEnd s = .next s

/-- EXCHANGE_START: with READY asserted the outbound frame is the status byte, the pending reply's code by the table of
12.8.3 and its data, and a check byte that makes the seven bytes sum to 255 (R171); with READY deasserted the frame is
ignored and 0xFF driven in all seven bytes (R172). -/
def Obligations.ExchangeStartBuildsFrame : Prop :=
  (∀ (k : Link) (s : State), (s.port k).ready = true → ∃ t d2 d3 d4 d5 c, exec (.exchangeStart k) s = .next t ∧
    t.port k = { s.port k with
      exchange := .active
      outbound := [statusByte s k, BitVec.ofNat 8 (numberIn replyNumbers (s.port k).reply.code), d2, d3, d4, d5, c] } ∧
    (s.port k).reply.data = d2 ++ d3 ++ d4 ++ d5 ∧
    statusByte s k + BitVec.ofNat 8 (numberIn replyNumbers (s.port k).reply.code) + d2 + d3 + d4 + d5 + c = 255 ∧
    unchangedBut [.port k] s t) ∧
  ∀ (k : Link) (s : State), (s.port k).ready = false → ∃ t, exec (.exchangeStart k) s = .next t ∧
    t.port k = { s.port k with exchange := .ignored, outbound := [0xFF, 0xFF, 0xFF, 0xFF, 0xFF, 0xFF, 0xFF] } ∧
    unchangedBut [.port k] s t

/-- The status byte's eight bits on a host link and on the accounting link (R175). -/
def Obligations.StatusByteBits : Prop :=
  ∀ (s : State) (k : Link),
    ((statusByte s k).getLsbD 7 = true ↔ (s.port k).notices ≠ []) ∧
    (statusByte s k).getLsbD 6 = (s.port k).lost ∧
    ((statusByte s k).getLsbD 5 = true ↔ s.service = .draining) ∧
    ((statusByte s k).getLsbD 4 = true ↔ s.service = .opened) ∧
    (statusByte s k).getLsbD 3 = s.clock.set ∧
    (∀ h, k.host? = some h →
      ((statusByte s k).getLsbD 2 = true ↔
        ∃ n, (s.ses n).state = .connected ∧ (s.ses n).owner = some h ∧ (s.ses n).rx ≠ []) ∧
      (statusByte s k).getLsbD 1 = (s.host h).up ∧ (statusByte s k).getLsbD 0 = false) ∧
    (k = .acct →
      ((statusByte s k).getLsbD 2 = true ↔ s.records ≠ []) ∧
      ((statusByte s k).getLsbD 1 = true ↔
        ∃ n i, i < 4 ∧ (s.sup n).faults.getLsbD i = true ∧ (s.sup n).masks.getLsbD i = false) ∧
      ((statusByte s k).getLsbD 0 = true ↔ 16 ≤ s.records.length + s.reservations))

/-- A complete frame with a bad check replaces the pending reply by CHECK_FAIL (R171); a short frame keeps it (R172);
neither is link activity or does anything else. A frame not begun by EXCHANGE_START counts as begun (log 7). An ignored
frame changes nothing but the bytes driven, and an order in a frame that the part ignores is not carried out, its
pending reply kept (R172). -/
def Obligations.FailedFramesDoNoWork : Prop :=
  (∀ (k : Link) (s : State), accepts s k → ∃ t, exec (.checkFail k) s = .next t ∧
    t.port k = framePort s k ⟨.checkFail, 0⟩ ∧ unchangedBut [.port k] s t) ∧
  (∀ (k : Link) (s : State), accepts s k → ∃ t, exec (.shortFrame k) s = .next t ∧
    t.port k = framePort s k (s.port k).reply ∧ unchangedBut [.port k] s t) ∧
  (∀ (k : Link) (s : State), ∃ t, exec (.ignoredFrame k) s = .next t ∧
    t.port k = { s.port k with exchange := .none, outbound := [0xFF, 0xFF, 0xFF, 0xFF, 0xFF, 0xFF, 0xFF] } ∧
    unchangedBut [.port k] s t) ∧
  ∀ (i : Instr) (k : Link) (f : Frame) (s : State), Frame.encode i = some (k, f) → (s.port k).exchange = .ignored →
    ∃ t, exec i s = .next t ∧ t.port k = { s.port k with exchange := .none } ∧ unchangedBut [.port k] s t

/-- A good frame on a host link leaves the link UP with its silence timer at the host-silence limit, whatever its order
and reply, except DETACH (R88). -/
def Obligations.GoodFrameKeepsHostUp : Prop :=
  ∀ (i : Instr) (k : Link) (h : Computer) (f : Frame) (s : State), Frame.encode i = some (k, f) → k.host? = some h →
    accepts s k → i ≠ .detach k →
    ∃ t, exec i s = .next t ∧ t.host h = ⟨true, .running (s.params.hostSilence * 1000)⟩

/-- The checks every order meets first (R174): an order not permitted on its link is refused NOT_PERMITTED; then a line
selector above 15 is refused BAD_ARGUMENT; and a refused order changes nothing. -/
def Obligations.OrdersRefusedFirst : Prop :=
  (∀ (i : Instr) (k : Link) (f : Frame) (s : State), Frame.encode i = some (k, f) → (∀ c, i ≠ .orderUnknown k c) →
    (0x10 ≤ f.order.toNat ∧ f.order.toNat ≤ 0x15 ∧ k = .acct ∨ 0x20 ≤ f.order.toNat ∧ k ≠ .acct) → listens s k →
    ∃ t, exec i s = .next t ∧ onlyAnswers k ⟨.notPermitted, 0⟩ s t) ∧
  ∀ (i : Instr) (k : Link) (f : Frame) (s : State), Frame.encode i = some (k, f) → (∀ c, i ≠ .orderUnknown k c) →
    (f.order.toNat = 0x04 ∨ f.order.toNat ∈ [0x10, 0x12, 0x13, 0x14] ∧ k ≠ .acct ∨
      f.order.toNat ∈ [0x38, 0x39, 0x3A, 0x3B, 0x3C, 0x41, 0x42] ∧ k = .acct) →
    15 < f.sel.toNat → listens s k →
    ∃ t, exec i s = .next t ∧ onlyAnswers k ⟨.badArgument, 0⟩ s t

/-! ### Orders of every link -/

/-- NOP replies OK, and a code that names no order BAD_ORDER, changing nothing. STATUS gives the notice, record,
reservation and line counts and clears LOST (R173, R174, R176). -/
def Obligations.NopStatusAndUnknownOrders : Prop :=
  ∀ (k : Link) (s : State), listens s k →
    (∃ t, exec (.nop k) s = .next t ∧ onlyAnswers k ⟨.ok, 0⟩ s t) ∧
    (∀ c, ∃ t, exec (.orderUnknown k c) s = .next t ∧ onlyAnswers k ⟨.badOrder, 0⟩ s t) ∧
    ∃ t lineCount, exec (.status k) s = .next t ∧
      (∀ h, k.host? = some h →
        lineCount = s.countLines fun _ l => l.ses.state == .connected && l.ses.owner == some h) ∧
      (k = .acct → lineCount = s.countLines fun _ l => l.ses.state != .idle && l.ses.state != .outOfService) ∧
      carriedOut k { framePort s k ⟨.ok, BitVec.ofNat 8 (s.port k).notices.length ++ BitVec.ofNat 8 s.records.length ++
        BitVec.ofNat 8 s.reservations ++ BitVec.ofNat 8 lineCount⟩ with lost := false } [] s t

/-- NOTICE FETCH removes the oldest notice and returns it, or replies EMPTY; a fetch that empties the queue deasserts
ATTENTION (R178). NOTICE MASK writes the mask with the bits of no kind held as 0, returns it, and leaves the notices
already queued (R179). -/
def Obligations.NoticeOrders : Prop :=
  ∀ (k : Link) (s : State), listens s k →
    ((s.port k).notices = [] → ∃ t, exec (.noticeFetch k) s = .next t ∧ onlyAnswers k ⟨.empty, 0⟩ s t) ∧
    (∀ m rest, (s.port k).notices = m :: rest → ∃ t, exec (.noticeFetch k) s = .next t ∧
      carriedOut k { framePort s k ⟨.ok, m.layout⟩ with notices := rest } [] s t ∧
      (attention t k = true ↔ rest ≠ [])) ∧
    ∀ mask : Byte, ∃ t held, exec (.noticeMask k mask) s = .next t ∧
      (∀ i, held.getLsbD i = (mask.getLsbD i && decide (i < if k = .acct then 3 else 2))) ∧
      carriedOut k { framePort s k ⟨.ok, held ++ (0 : Byte) ++ (0 : Byte) ++ (0 : Byte)⟩ with mask := held } [] s t

/-- A posted notice is discarded if its kind is masked (R179) or its host link is DOWN, else placed at the back of its
queue if there is room; a full queue drops any notice but OFFER and ADOPT, with LOST set; nothing else changes (R177).
An offer attempt at a full queue posts nothing and leaves the link's port, LOST too, as it was, and counts as the
host's decline (R79). -/
def Obligations.NoticePosting : Prop :=
  (∀ (k : Link) (m : Notice) (s : State), (∀ n t a, m ≠ .offer n t a ∧ m ≠ .adopt n t a) →
    (masked k (s.port k).mask m → s.postNotice k m = s) ∧
    (∀ h, k.host? = some h → (s.host h).up = false → s.postNotice k m = s) ∧
    (¬masked k (s.port k).mask m → linkIsUp s k →
      unchangedBut [.port k] s (s.postNotice k m) ∧
      (s.postNotice k m).port k =
        if (s.port k).notices.length < (if k = .acct then 16 else 32) then
          { s.port k with notices := (s.port k).notices ++ [m] }
        else { s.port k with lost := true })) ∧
  ∀ (h : Computer) (n : LineNo) (s : State), 32 ≤ (s.port (Computer.link h)).notices.length →
    (s.signOnAttempt n h 2).port (Computer.link h) = s.port (Computer.link h) ∧
    (s.adoptAttempt n h).port (Computer.link h) = s.port (Computer.link h) ∧
    ((s.adoptAttempt n h).ses n).declined.has h = true

/-- The layouts of section 12.8, with the numbers of its code tables: the reply codes (12.8.3), the ten notices
(12.8.5), the value codes (12.8.6), the nine account fields, the stamps and the groups of LINE READ (12.8.7). -/
def Obligations.NoticeAndFieldLayouts : Prop :=
  (∀ c v, (c, v) ∈ replyNumbers → c.code = BitVec.ofNat 8 v) ∧ (∀ c, (c, numberIn replyNumbers c) ∈ replyNumbers) ∧
  (∀ st, stampLayout st = stampBytes st) ∧
  (∀ (n : LineNo) (a b : Nat) (t : Bool), a < 1048576 → b < 16777216 →
    (Notice.offer n t a).layout.toNat = (16 + n.val) * 2 ^ 24 + (if t then 2 ^ 23 else 0) + a ∧
    (Notice.adopt n t a).layout.toNat = (32 + n.val) * 2 ^ 24 + (if t then 2 ^ 23 else 0) + a ∧
    (∀ r, (Notice.withdrawn n t r).layout.toNat =
      (48 + n.val) * 2 ^ 24 + (if t then 2 ^ 16 else 0) + numberIn reasonNumbers r * 2 ^ 8) ∧
    (∀ c, (Notice.cleared n c).layout.toNat = (64 + n.val) * 2 ^ 24 + numberIn causeNumbers c * 2 ^ 16) ∧
    (Notice.lowBalance n b).layout.toNat = (80 + n.val) * 2 ^ 24 + b ∧
    (∀ m, m < 256 → (Notice.grace n m).layout.toNat = (96 + n.val) * 2 ^ 24 + m * 2 ^ 16) ∧
    (∀ f, (Notice.fault n f).layout.toNat = (128 + n.val) * 2 ^ 24 + numberIn faultNumbers f * 2 ^ 16)) ∧
  (Notice.hostDown .a).layout = 0x90010000 ∧ (Notice.hostDown .b).layout = 0x90020000 ∧
  (Notice.hostUp .a).layout = 0xA0010000 ∧ (Notice.hostUp .b).layout = 0xA0020000 ∧
  Notice.drained.layout = 0xB0000000 ∧
  (∀ (e : Account) (code : Nat), code ≤ 8 → e.field code = some (BitVec.ofNat 32 (fieldNumber e code))) ∧
  ∀ r : Session,
    r.group 0 = some (BitVec.ofNat 8 (numberIn stateNumbers r.state) ++ BitVec.ofNat 8 (numberIn phaseNumbers r.phase) ++
      BitVec.ofNat 8 (16 * r.cls.val + numberIn rateNumbers r.rate) ++ (if r.disablePending then 1 else 0 : Byte)) ∧
    (r.account = none → r.group 1 = some 0) ∧
    (∀ a, a ≤ 999999 → r.account = some a → (r.group 1).map (·.toNat) = some (2 ^ 24 + a)) ∧
    (r.offer = none → r.group 2 = some (BitVec.ofNat 8 (numberIn hostNumbers r.owner) ++
      BitVec.ofNat 8 (numberIn hostNumbers r.prevOwner) ++ (0 : Byte) ++ (if r.toggle then 1 else 0 : Byte))) ∧
    (∀ h kind, r.offer = some ⟨h, kind⟩ →
      r.group 2 = some (BitVec.ofNat 8 (numberIn hostNumbers r.owner) ++
        BitVec.ofNat 8 (numberIn hostNumbers r.prevOwner) ++
        BitVec.ofNat 8 (16 * numberIn kindNumbers kind + numberIn hostNumbers (some h)) ++ (if r.toggle then 1 else 0 : Byte))) ∧
    (r.group 3).map (·.toNat) =
      some (min (r.bandSecs[0] + r.bandSecs[1] + r.bandSecs[2] + r.bandSecs[3]) 16777215) ∧
    (r.debited < 16777216 → (r.group 4).map (·.toNat) = some r.debited) ∧
    (r.overdraft < 16777216 → (r.group 5).map (·.toNat) = some r.overdraft) ∧
    r.group 6 = some (BitVec.ofNat 8 r.rx.length ++ BitVec.ofNat 8 r.tx.length ++ BitVec.ofNat 8 r.feed.length ++
      (0 : Byte)) ∧
    r.group 7 = some (BitVec.ofNat 16 r.lastOn ++ BitVec.ofNat 16 r.lastGap) ∧
    (r.ringCount < 256 → (r.group 8).map (·.toNat) = some (r.ringCount * 2 ^ 24)) ∧
    (r.graceTimer = .stopped → r.group 9 = some 0) ∧
    (∀ ms, ms ≤ 900000 → r.graceTimer = .running ms → (r.group 9).map (·.toNat) = some ((ms + 999) / 1000)) ∧
    ∀ code, 9 < code → r.group code = none

/-- LINE READ returns a group of the selected line's record, or refuses a code that names no group BAD_ARGUMENT (R22);
CLOCK READ returns the clock state, minute and second (R127). Neither changes anything. -/
def Obligations.LineAndClockReads : Prop :=
  ∀ (k : Link) (s : State), listens s k →
    (∀ (line group : Byte) (n : LineNo), line.toNat = n.val →
      (∀ d, (s.ses n).group group.toNat = some d →
        ∃ t, exec (.lineRead k line group) s = .next t ∧ onlyAnswers k ⟨.ok, d⟩ s t) ∧
      (9 < group.toNat → ∃ t, exec (.lineRead k line group) s = .next t ∧ onlyAnswers k ⟨.badArgument, 0⟩ s t)) ∧
    ∃ t, exec (.clockRead k) s = .next t ∧
      onlyAnswers k ⟨.ok, (if s.clock.set then 1 else 0 : Byte) ++ BitVec.ofNat 16 s.clock.minute ++
        BitVec.ofNat 8 s.clock.second⟩ s t

/-! ### Accounts -/

/-- ACCOUNT SELECT: a number above 999,999 is refused BAD_ARGUMENT; otherwise the link's cursor is placed on the entry
with that number, OK, or emptied, NOT_FOUND; no entry changes (R113). -/
def Obligations.AccountSelectPlacesCursor : Prop :=
  ∀ (k : Link) (number : Word32) (s : State), listens s k →
    (999999 < number.toNat →
      ∃ t, exec (.accountSelect k number) s = .next t ∧ onlyAnswers k ⟨.badArgument, 0⟩ s t) ∧
    (number.toNat ≤ 999999 → (∃ e ∈ s.accounts, e.number = number.toNat) →
      ∃ t, exec (.accountSelect k number) s = .next t ∧
        carriedOut k { framePort s k ⟨.ok, 0⟩ with cursor := some number.toNat } [] s t) ∧
    (number.toNat ≤ 999999 → (∀ e ∈ s.accounts, e.number ≠ number.toNat) →
      ∃ t, exec (.accountSelect k number) s = .next t ∧
        carriedOut k { framePort s k ⟨.notFound, 0⟩ with cursor := none } [] s t)

/-- ACCOUNT READ gives a field of the entry under the link's cursor, BAD_ARGUMENT for a code that names no field,
NOT_FOUND with the cursor empty, and changes nothing (R114). -/
def Obligations.AccountReadGivesField : Prop :=
  ∀ (k : Link) (field : Byte) (s : State), tableLaw s → listens s k →
    (8 < field.toNat → ∃ t, exec (.accountRead k field) s = .next t ∧ onlyAnswers k ⟨.badArgument, 0⟩ s t) ∧
    (field.toNat ≤ 8 → (s.port k).cursor = none →
      ∃ t, exec (.accountRead k field) s = .next t ∧ onlyAnswers k ⟨.notFound, 0⟩ s t) ∧
    ∀ e ∈ s.accounts, field.toNat ≤ 8 → (s.port k).cursor = some e.number →
      ∃ t, exec (.accountRead k field) s = .next t ∧
        onlyAnswers k ⟨.ok, BitVec.ofNat 32 (fieldNumber e field.toNat)⟩ s t

/-- ACCOUNT NEXT moves the link's cursor to the entry with the lowest number above the cursor's, or the lowest of all
from an empty cursor, and returns its number; with no such entry the cursor is emptied and the reply is EMPTY (R115). -/
def Obligations.AccountNextWalks : Prop :=
  ∀ (k : Link) (s : State), tableLaw s → listens s k →
    (∀ e ∈ s.accounts, (∀ c, (s.port k).cursor = some c → c < e.number) →
      (∀ x ∈ s.accounts, (∀ c, (s.port k).cursor = some c → c < x.number) → e.number ≤ x.number) →
      ∃ t, exec (.accountNext k) s = .next t ∧
        carriedOut k { framePort s k ⟨.ok, BitVec.ofNat 32 e.number⟩ with cursor := some e.number } [] s t) ∧
    ((∀ e ∈ s.accounts, ∃ c, (s.port k).cursor = some c ∧ e.number ≤ c) →
      ∃ t, exec (.accountNext k) s = .next t ∧
        carriedOut k { framePort s k ⟨.empty, 0⟩ with cursor := none } [] s t)

/-- ACCOUNT CREATE: its three refusals in order, else an entry with the CREATE values joins the table in its place, the
other entries unchanged, with the accounting link's cursor on it (R116, R110). -/
def Obligations.AccountCreateInserts : Prop :=
  ∀ (number : Word32) (s : State), tableLaw s → listens s .acct →
    (999999 < number.toNat →
      ∃ t, exec (.accountCreate .acct number) s = .next t ∧ onlyAnswers .acct ⟨.badArgument, 0⟩ s t) ∧
    (number.toNat ≤ 999999 → (∃ e ∈ s.accounts, e.number = number.toNat) →
      ∃ t, exec (.accountCreate .acct number) s = .next t ∧ onlyAnswers .acct ⟨.duplicate, 0⟩ s t) ∧
    (number.toNat ≤ 999999 → (∀ e ∈ s.accounts, e.number ≠ number.toNat) → s.accounts.length = 128 →
      ∃ t, exec (.accountCreate .acct number) s = .next t ∧ onlyAnswers .acct ⟨.tableFull, 0⟩ s t) ∧
    (number.toNat ≤ 999999 → (∀ e ∈ s.accounts, e.number ≠ number.toNat) → s.accounts.length < 128 →
      ∃ t, exec (.accountCreate .acct number) s = .next t ∧
        carriedOut .acct { framePort s .acct ⟨.ok, 0⟩ with cursor := some number.toNat } [.accounts] s t ∧
        tableLaw t ∧ t.accounts.length = s.accounts.length + 1 ∧
        ∀ e, e ∈ t.accounts ↔
          e ∈ s.accounts ∨ e = ⟨number.toNat, .suspended, 0, 0, 1, 0, ⟨true, true⟩, 15, 0⟩)

/-- ACCOUNT SET: the refusals in order, changing nothing; else the value is written, clamped, into the entry under the
cursor, CLAMPED exactly when the value written differs from the one carried (R117); a balance written is then judged
against the account's sessions (R120), and no other field changes a session. -/
def Obligations.AccountSetWrites : Prop :=
  ∀ (field : Byte) (value : Word32) (s : State), tableLaw s → listens s .acct →
    (refusedField field.toNat value.toNat →
      ∃ t, exec (.accountSet .acct field value) s = .next t ∧ onlyAnswers .acct ⟨.badArgument, 0⟩ s t) ∧
    (¬refusedField field.toNat value.toNat → s.portAcct.cursor = none →
      ∃ t, exec (.accountSet .acct field value) s = .next t ∧ onlyAnswers .acct ⟨.notFound, 0⟩ s t) ∧
    ∀ e ∈ s.accounts, ¬refusedField field.toNat value.toNat → s.portAcct.cursor = some e.number →
      ∃ t, exec (.accountSet .acct field value) s = .next t ∧
        t.accounts = s.accounts.map (fun x =>
          if x.number = e.number then fieldWritten e field.toNat value.toNat else x) ∧
        (∀ n, t.ses n = if field.toNat = 2 then balanceJudged (fieldWritten e 2 value.toNat) (s.ses n) else s.ses n) ∧
        carriedOut .acct (framePort s .acct ⟨if fieldNumber (fieldWritten e field.toNat value.toNat) field.toNat =
          value.toNat then .ok else .clamped, 0⟩) (.accounts :: allSessions) s t

/-- ACCOUNT CREDIT: NOT_FOUND with the cursor empty; else the amount joins the balance, saturating at 16,777,215 with
reply CLAMPED (R119), and the new balance is judged against the account's sessions (R120). -/
def Obligations.AccountCreditAdds : Prop :=
  ∀ (amount : Word32) (s : State), tableLaw s → listens s .acct →
    (s.portAcct.cursor = none →
      ∃ t, exec (.accountCredit .acct amount) s = .next t ∧ onlyAnswers .acct ⟨.notFound, 0⟩ s t) ∧
    ∀ e e' : Account, e ∈ s.accounts → s.portAcct.cursor = some e.number →
      e' = { e with balance := min (e.balance + amount.toNat) 16777215 } →
      ∃ t, exec (.accountCredit .acct amount) s = .next t ∧
        t.accounts = s.accounts.map (fun x => if x.number = e.number then e' else x) ∧
        (∀ n, t.ses n = balanceJudged e' (s.ses n)) ∧
        carriedOut .acct (framePort s .acct ⟨if 16777215 < e.balance + amount.toNat then .clamped else .ok, 0⟩)
          (.accounts :: allSessions) s t

/-- ACCOUNT REMOVE: NOT_FOUND with the cursor empty, IN_USE while sessions are active; else the entry under the cursor
is deleted and every link's cursor that was on it is emptied (R122, R112). -/
def Obligations.AccountRemoveDeletes : Prop :=
  ∀ s : State, tableLaw s → listens s .acct →
    (s.portAcct.cursor = none →
      ∃ t, exec (.accountRemove .acct) s = .next t ∧ onlyAnswers .acct ⟨.notFound, 0⟩ s t) ∧
    ∀ e ∈ s.accounts, s.portAcct.cursor = some e.number →
      (0 < e.active → ∃ t, exec (.accountRemove .acct) s = .next t ∧ onlyAnswers .acct ⟨.inUse, 0⟩ s t) ∧
      (e.active = 0 → ∃ t, exec (.accountRemove .acct) s = .next t ∧
        t.accounts = s.accounts.filter (fun x => x.number ≠ e.number) ∧
        t.portAcct = { framePort s .acct ⟨.ok, 0⟩ with cursor := none } ∧
        (∀ h, t.port (Computer.link h) = { s.port (Computer.link h) with
          cursor := if (s.port (Computer.link h)).cursor = some e.number then none else (s.port (Computer.link h)).cursor }) ∧
        unchangedBut [.accounts, .port .hostA, .port .hostB, .port .acct] s t)

/-! ### Charge records, clock, tariff, messages and parameters -/

/-- CHARGE READ gives a field of the oldest record by its code and changes nothing; EMPTY with no record, BAD_ARGUMENT
for a code that names no field (R155). CHARGE TAKE removes the oldest record and returns its serial (R156). -/
def Obligations.ChargeOrders : Prop :=
  ∀ s : State, listens s .acct →
    (∀ field : Byte, 18 < field.toNat →
      ∃ t, exec (.chargeRead .acct field) s = .next t ∧ onlyAnswers .acct ⟨.badArgument, 0⟩ s t) ∧
    (s.records = [] →
      (∀ field : Byte, field.toNat ≤ 18 →
        ∃ t, exec (.chargeRead .acct field) s = .next t ∧ onlyAnswers .acct ⟨.empty, 0⟩ s t) ∧
      ∃ t, exec (.chargeTake .acct) s = .next t ∧ onlyAnswers .acct ⟨.empty, 0⟩ s t) ∧
    ∀ r rest, s.records = r :: rest →
      (∀ (field : Byte) (d : Word32),
        [BitVec.ofNat 32 r.serial, BitVec.ofNat 32 r.line.val, BitVec.ofNat 32 (r.account.getD 0),
          BitVec.ofNat 32 r.cls.val, BitVec.ofNat 32 (numberIn rateNumbers r.rate),
          BitVec.ofNat 32 (numberIn hostNumbers r.firstHost), BitVec.ofNat 32 (numberIn hostNumbers r.lastHost),
          BitVec.ofNat 32 r.adoptions, stampBytes r.start, stampBytes r.stop,
          BitVec.ofNat 32 r.bandSecs[0], BitVec.ofNat 32 r.bandSecs[1], BitVec.ofNat 32 r.bandSecs[2],
          BitVec.ofNat 32 r.bandSecs[3], BitVec.ofNat 32 r.heldSecs, BitVec.ofNat 32 r.fee,
          BitVec.ofNat 32 r.debited, BitVec.ofNat 32 r.overdraft,
          BitVec.ofNat 32 (numberIn causeNumbers r.cause)][field.toNat]? = some d →
        ∃ t, exec (.chargeRead .acct field) s = .next t ∧ onlyAnswers .acct ⟨.ok, d⟩ s t) ∧
      ∃ t, exec (.chargeTake .acct) s = .next t ∧ t.records = rest ∧
        carriedOut .acct (framePort s .acct ⟨.ok, BitVec.ofNat 16 r.serial ++ (0 : BitVec 16)⟩) [.records] s t

/-- The orders that set the clock and the tariff. CLOCK SET sets the clock at the values carried, its sub-second phase at
0 (R126). TARIFF SET, BAND SET and CLASS SET write the pending copy of their one item, the installed tables unchanged
(R128 to R131). A minute, second, selector or value out of range is refused BAD_ARGUMENT. -/
def Obligations.ClockAndTariffOrders : Prop :=
  (∀ (minute : BitVec 16) (second : Byte) (s : State), listens s .acct →
    (10079 < minute.toNat ∨ 59 < second.toNat →
      ∃ t, exec (.clockSet .acct minute second) s = .next t ∧ onlyAnswers .acct ⟨.badArgument, 0⟩ s t) ∧
    (minute.toNat ≤ 10079 → second.toNat ≤ 59 →
      ∃ t, exec (.clockSet .acct minute second) s = .next t ∧ t.clock = ⟨true, minute.toNat, second.toNat, 0⟩ ∧
        carriedOut .acct (framePort s .acct ⟨.ok, 0⟩) [.clock] s t)) ∧
  (∀ s : State, listens s .acct →
    (∀ (sel : Byte) (rate : Word32), 3 < sel.toNat / 16 ∨ 3 < sel.toNat % 16 ∨ 65535 < rate.toNat →
      ∃ t, exec (.tariffSet .acct sel rate) s = .next t ∧ onlyAnswers .acct ⟨.badArgument, 0⟩ s t) ∧
    (∀ (sel : Byte) (rate : Word32) (band cls : Fin 4), sel.toNat = 16 * band.val + cls.val → rate.toNat ≤ 65535 →
      ∃ t, exec (.tariffSet .acct sel rate) s = .next t ∧
        t.tariff = { s.tariff with
          pendingRates := s.tariff.pendingRates.set (4 * band.val + cls.val) (some rate.toNat) } ∧
        carriedOut .acct (framePort s .acct ⟨.ok, 0⟩) [.tariff] s t) ∧
    (∀ (hour : Byte) (band : Word32), 167 < hour.toNat ∨ 3 < band.toNat →
      ∃ t, exec (.bandSet .acct hour band) s = .next t ∧ onlyAnswers .acct ⟨.badArgument, 0⟩ s t) ∧
    ∀ (hour : Byte) (value : Word32) (band : Fin 4) (hh : hour.toNat < 168), value.toNat = band.val →
      ∃ t, exec (.bandSet .acct hour value) s = .next t ∧
        t.tariff = { s.tariff with pendingBands := s.tariff.pendingBands.set hour.toNat (some band) } ∧
        carriedOut .acct (framePort s .acct ⟨.ok, 0⟩) [.tariff] s t) ∧
  ∀ (sel : Byte) (value : Word32) (s : State), listens s .acct →
    (3 < sel.toNat / 16 ∨ 3 < sel.toNat % 16 ∨ sel.toNat % 16 = 0 ∧ 31 < value.toNat ∨
        sel.toNat % 16 = 1 ∧ 3 < value.toNat ∨ sel.toNat % 16 = 2 ∧ 1 < value.toNat ∨
        sel.toNat % 16 = 3 ∧ 255 < value.toNat →
      ∃ t, exec (.classSet .acct sel value) s = .next t ∧ onlyAnswers .acct ⟨.badArgument, 0⟩ s t) ∧
    ∀ (cls : Fin 4) (p : PendingClass),
      sel.toNat = 16 * cls.val ∧ value.toNat ≤ 31 ∧
          p = { s.tariff.pendingClasses[cls.val] with rates := some (value.setWidth 5) } ∨
        (∃ f, sel.toNat = 16 * cls.val + 1 ∧
          [Format.even7, .odd7, .ignore7, .none8][value.toNat]? = some f ∧
          p = { s.tariff.pendingClasses[cls.val] with format := some f }) ∨
        sel.toNat = 16 * cls.val + 2 ∧ value.toNat ≤ 1 ∧
          p = { s.tariff.pendingClasses[cls.val] with flowControl := some (value == 1) } ∨
        sel.toNat = 16 * cls.val + 3 ∧ value.toNat ≤ 255 ∧
          p = { s.tariff.pendingClasses[cls.val] with fee := some value.toNat } →
      ∃ t, exec (.classSet .acct sel value) s = .next t ∧
        t.tariff = { s.tariff with pendingClasses := s.tariff.pendingClasses.set cls.val p } ∧
        carriedOut .acct (framePort s .acct ⟨.ok, 0⟩) [.tariff] s t

/-- MESSAGE WRITE stores its characters from the start position up to the first 0, and drops those above position 63,
with reply CLAMPED; the text then ends where the 0 stood, or after the third character, at most at 64 (R34). -/
def Obligations.MessageWriteStores : Prop :=
  ∀ (slot start c1 c2 c3 : Byte) (s : State), listens s .acct →
    (15 < slot.toNat ∨ 63 < start.toNat →
      ∃ t, exec (.messageWrite .acct slot start c1 c2 c3) s = .next t ∧ onlyAnswers .acct ⟨.badArgument, 0⟩ s t) ∧
    ∀ (i : Fin 16) (stored : List Byte), slot.toNat = i.val → start.toNat ≤ 63 →
      stored = ([c1, c2, c3].take (64 - start.toNat)).takeWhile (fun c => c ≠ 0) →
      ∃ t, exec (.messageWrite .acct slot start c1 c2 c3) s = .next t ∧
        (∀ j, j ≠ i → t.messages[j.val] = s.messages[j.val]) ∧
        t.messages[i.val].length = start.toNat + stored.length ∧
        (∀ q : Fin 64, t.messages[i.val].text[q.val] =
          if start.toNat ≤ q.val then (stored[q.val - start.toNat]?).getD s.messages[i.val].text[q.val]
          else s.messages[i.val].text[q.val]) ∧
        carriedOut .acct (framePort s .acct
          ⟨if 61 < start.toNat ∧ start.toNat + stored.length = 64 then .clamped else .ok, 0⟩) [.messages] s t

/-- PARAM SET writes the value clamped into the parameter's range and returns it, CLAMPED when it differs from the one
carried; no other parameter changes; a selector that names no parameter is refused BAD_ARGUMENT (R180). -/
def Obligations.ParamSetClamps : Prop :=
  ∀ (code : Byte) (value : Word32) (s : State), listens s .acct →
    (17 < code.toNat →
      ∃ t, exec (.paramSet .acct code value) s = .next t ∧ onlyAnswers .acct ⟨.badArgument, 0⟩ s t) ∧
    ∀ lo hi v, paramRanges[code.toNat]? = some (lo, hi) → v = max lo (min value.toNat hi) →
      ∃ t, exec (.paramSet .acct code value) s = .next t ∧
        (∀ j, j < 18 → paramValue t.params j = if j = code.toNat then v else paramValue s.params j) ∧
        carriedOut .acct (framePort s .acct ⟨if v = value.toNat then .ok else .clamped, BitVec.ofNat 32 v⟩)
          [.params] s t

/-! ### Supervision of lines -/

/-- LINE CLASS writes the configured class (R166). LINE STATS returns one counter and clears it (R167). FAULT NEXT
returns the set unmasked flag of lowest priority number, then of lowest line (R162). FAULT CLEAR clears the flags whose
bits are one and FAULT MASK writes the masks (R161). None of them changes a session. -/
def Obligations.SupervisionRecords : Prop :=
  (∀ (line field bits : Byte) (cls : Word32) (n : LineNo) (s : State), line.toNat = n.val → listens s .acct →
    (3 < cls.toNat → ∃ t, exec (.lineClass .acct line cls) s = .next t ∧ onlyAnswers .acct ⟨.badArgument, 0⟩ s t) ∧
    (∀ c : Fin 4, cls.toNat = c.val → ∃ t, exec (.lineClass .acct line cls) s = .next t ∧
      t.sup n = { s.sup n with configured := c } ∧ carriedOut .acct (framePort s .acct ⟨.ok, 0⟩) [.sup n] s t) ∧
    (3 < field.toNat → ∃ t, exec (.lineStats .acct line field) s = .next t ∧ onlyAnswers .acct ⟨.badArgument, 0⟩ s t) ∧
    (∀ v, [(s.unit n).callsAnswered, (s.unit n).falseRings, (s.unit n).charErrors, (s.unit n).overruns][field.toNat]? =
        some v → ∃ t, exec (.lineStats .acct line field) s = .next t ∧
      t.unit n = { s.unit n with
        callsAnswered := if field = 0 then 0 else (s.unit n).callsAnswered
        falseRings := if field = 1 then 0 else (s.unit n).falseRings
        charErrors := if field = 2 then 0 else (s.unit n).charErrors
        overruns := if field = 3 then 0 else (s.unit n).overruns } ∧
      carriedOut .acct (framePort s .acct ⟨.ok, BitVec.ofNat 32 v⟩) [.unit n] s t) ∧
    (∃ t f, exec (.faultClear .acct line bits) s = .next t ∧ t.sup n = { s.sup n with faults := f } ∧
      (∀ i, i < 4 → f.getLsbD i = ((s.sup n).faults.getLsbD i && !bits.getLsbD i)) ∧
      carriedOut .acct (framePort s .acct ⟨.ok, 0⟩) [.sup n] s t) ∧
    ∃ t m, exec (.faultMask .acct line bits) s = .next t ∧ t.sup n = { s.sup n with masks := m } ∧
      (∀ i, i < 4 → m.getLsbD i = bits.getLsbD i) ∧ carriedOut .acct (framePort s .acct ⟨.ok, 0⟩) [.sup n] s t) ∧
  ∀ s : State, listens s .acct →
    ((∀ n i, i < 4 → (s.sup n).faults.getLsbD i = true → (s.sup n).masks.getLsbD i = true) →
      ∃ t, exec (.faultNext .acct) s = .next t ∧ onlyAnswers .acct ⟨.empty, 0⟩ s t) ∧
    ∀ (n : LineNo) (i : Nat), i < 4 → (s.sup n).faults.getLsbD i = true → (s.sup n).masks.getLsbD i = false →
      (∀ m j, j < 4 → (s.sup m).faults.getLsbD j = true → (s.sup m).masks.getLsbD j = false →
        i < j ∨ i = j ∧ n ≤ m) →
      ∃ t, exec (.faultNext .acct) s = .next t ∧
        onlyAnswers .acct ⟨.ok, BitVec.ofNat 8 n.val ++ BitVec.ofNat 8 i ++ (0 : Byte) ++ (0 : Byte)⟩ s t

/-- LINE ENABLE by the line's state: the settle timer of 250 ms and TRDY start only on an OUT_OF_SERVICE line without a
modem fault that is not settling. At settle expiry the line makes its IDLE entry with the modem-ready watch begun, or,
without MRDY, stays OUT_OF_SERVICE with MODEM_ABSENT raised (R163, R159). The judged level of MRDY is the command's own
(log 13), and becomes the latest sample (log 6). The ring detector starts by the latest judgement of RNG (log 18). -/
def Obligations.LineEnableAndSettle : Prop :=
  (∀ (line : Byte) (n : LineNo) (s : State), line.toNat = n.val → listens s .acct →
    ((s.ses n).state ≠ .outOfService →
      ∃ t, exec (.lineEnable .acct line) s = .next t ∧ onlyAnswers .acct ⟨.ok, 0⟩ s t) ∧
    ((s.ses n).state = .outOfService →
      (s.sup n).faults.getLsbD 0 = true ∨ (s.sup n).faults.getLsbD 1 = true →
      ∃ t, exec (.lineEnable .acct line) s = .next t ∧ onlyAnswers .acct ⟨.faultPending, 0⟩ s t) ∧
    ((s.ses n).state = .outOfService → (s.sup n).faults.getLsbD 0 = false → (s.sup n).faults.getLsbD 1 = false →
      ((s.ses n).stateTimer ≠ .stopped →
        ∃ t, exec (.lineEnable .acct line) s = .next t ∧ onlyAnswers .acct ⟨.ok, 0⟩ s t) ∧
      ((s.ses n).stateTimer = .stopped → ∃ t, exec (.lineEnable .acct line) s = .next t ∧
        t.ses n = { s.ses n with stateTimer := .running 250 } ∧ t.unit n = { s.unit n with trdy := true } ∧
        carriedOut .acct (framePort s .acct ⟨.ok, 0⟩) [.session n, .unit n] s t))) ∧
  ∀ (n : LineNo) (ms : Nat) (s : State), (s.ses n).state = .outOfService → (s.ses n).stateTimer = .running ms →
    (∃ t, exec (.settleTimerExpiry n true) s = .next t ∧ t.ses n = idleRecord (s.ses n) ∧ (t.unit n).trdy = true ∧
      (t.unit n).modem = .watching 0 ∧ (t.unit n).ring.cond = ringStart s n ∧ drainJudged n s t ∧
      unchangedBut [.session n, .unit n, .service, .port .acct] s t) ∧
    ∃ t, exec (.settleTimerExpiry n false) s = .next t ∧ t.ses n = { s.ses n with stateTimer := .stopped } ∧
      t.unit n = { s.unit n with mrdy := false, mrdySeen := false, trdy := false } ∧
      t.sup n = { s.sup n with faults := (s.sup n).faults ||| 2 } ∧
      t.portAcct = (if (s.sup n).faults.getLsbD 1 = false ∧ (s.sup n).masks.getLsbD 1 = false then
        (s.postNotice .acct (.fault n .modemAbsent)).portAcct else s.portAcct) ∧
      unchangedBut [.session n, .unit n, .sup n, .port .acct] s t

/-- LINE DISABLE and LINE CLEAR on a line with no call to end: an IDLE or RINGING line disabled goes OUT_OF_SERVICE, a
CLEARING one takes disable-pending, a settling one stops settling (R164, R163); a RINGING line cleared returns to IDLE
with its detector in REARM, and an OUT_OF_SERVICE one answers BAD_STATE (R165, R46). -/
def Obligations.LineOrdersOnQuietLines : Prop :=
  ∀ (line : Byte) (n : LineNo) (s : State), line.toNat = n.val → listens s .acct →
    ((s.ses n).state = .idle ∨ (s.ses n).state = .ringing → ∃ t, exec (.lineDisable .acct line) s = .next t ∧
      t.ses n = outRecord (s.ses n) ∧ (t.unit n).ans = false ∧ (t.unit n).trdy = false ∧
      (t.unit n).ring = .reset ∧ (t.unit n).modem = .stopped ∧ (t.port .acct).reply = ⟨.ok, 0⟩ ∧
      unchangedBut [.session n, .unit n, .service, .port .acct] s t) ∧
    ((s.ses n).state = .clearing → ∃ t, exec (.lineDisable .acct line) s = .next t ∧
      t.ses n = { s.ses n with disablePending := true } ∧
      carriedOut .acct (framePort s .acct ⟨.ok, 0⟩) [.session n] s t) ∧
    ((s.ses n).state = .outOfService → (s.ses n).stateTimer ≠ .stopped →
      ∃ t, exec (.lineDisable .acct line) s = .next t ∧ t.ses n = { s.ses n with stateTimer := .stopped } ∧
        t.unit n = { s.unit n with trdy := false } ∧
        carriedOut .acct (framePort s .acct ⟨.ok, 0⟩) [.session n, .unit n] s t) ∧
    ((s.ses n).state = .outOfService → (s.ses n).stateTimer = .stopped →
      ∃ t, exec (.lineDisable .acct line) s = .next t ∧ onlyAnswers .acct ⟨.ok, 0⟩ s t) ∧
    ((s.ses n).state = .idle ∨ (s.ses n).state = .clearing →
      ∃ t, exec (.lineClear .acct line) s = .next t ∧ onlyAnswers .acct ⟨.ok, 0⟩ s t) ∧
    ((s.ses n).state = .outOfService →
      ∃ t, exec (.lineClear .acct line) s = .next t ∧ onlyAnswers .acct ⟨.badState, 0⟩ s t) ∧
    ((s.ses n).state = .ringing → ∃ t, exec (.lineClear .acct line) s = .next t ∧
      t.ses n = { s.ses n with state := .idle, ringCount := 0, stateTimer := .stopped } ∧
      (t.unit n).ring.cond = .rearm ∧ (t.unit n).ring.stores = false ∧
      carriedOut .acct (framePort s .acct ⟨.ok, 0⟩) [.session n, .unit n] s t)

/-- SERVICE by the service state (R168): OPEN starts the ring detectors of IDLE lines; DRAIN and CLOSE return RINGING
lines to IDLE and stop every ring detector; CLOSE clears every active line with SERVICE_CLOSED, and each CONNECTED or
HELD one leaves a record; a drain with every line at rest is complete at once (R169). Any other selector is refused, its
frame carried by the OPEN row (log 8). A ring detector starts by the latest judgement of RNG (log 18). -/
def Obligations.ServiceOrders : Prop :=
  ∀ s : State, listens s .acct →
    (∀ sel : Byte, 2 < sel.toNat →
      ∃ t, exec (.serviceOpen .acct sel) s = .next t ∧ onlyAnswers .acct ⟨.badArgument, 0⟩ s t) ∧
    (s.service = .opened → ∃ t, exec (.serviceOpen .acct 0) s = .next t ∧ onlyAnswers .acct ⟨.ok, 0⟩ s t) ∧
    (s.service ≠ .opened → ∃ t, exec (.serviceOpen .acct 0) s = .next t ∧ t.service = .opened ∧
      (∀ n, (s.ses n).state ≠ .idle → t.unit n = s.unit n) ∧
      (∀ n, (s.ses n).state = .idle → t.unit n = { s.unit n with ring := (t.unit n).ring } ∧
        (t.unit n).ring.cond = if (s.unit n).rngSeen then .qualifying else .armed) ∧
      carriedOut .acct (framePort s .acct ⟨.ok, 0⟩) (.service :: allLines.map Part.unit) s t) ∧
    (s.service = .closed → ∃ t, exec (.serviceDrain .acct) s = .next t ∧ onlyAnswers .acct ⟨.badState, 0⟩ s t) ∧
    (s.service = .draining → ∃ t, exec (.serviceDrain .acct) s = .next t ∧ onlyAnswers .acct ⟨.ok, 0⟩ s t) ∧
    (s.service = .opened → ∃ t, exec (.serviceDrain .acct) s = .next t ∧
      (∀ n, (s.ses n).state = .ringing →
        t.ses n = { s.ses n with state := .idle, ringCount := 0, stateTimer := .stopped }) ∧
      (∀ n, (s.ses n).state ≠ .ringing → t.ses n = s.ses n) ∧
      (∀ n, (s.ses n).state = .idle ∨ (s.ses n).state = .ringing → t.unit n = { s.unit n with ring := .reset }) ∧
      (∀ n, (s.ses n).state ≠ .idle → (s.ses n).state ≠ .ringing → t.unit n = s.unit n) ∧
      ((∀ n, (s.ses n).state = .idle ∨ (s.ses n).state = .ringing ∨ (s.ses n).state = .outOfService) →
        t.service = .closed ∧ t.portAcct.notices = (s.postNotice .acct .drained).portAcct.notices) ∧
      (∀ n, (s.ses n).state ≠ .idle → (s.ses n).state ≠ .ringing → (s.ses n).state ≠ .outOfService →
        t.service = .draining ∧ t.portAcct = framePort s .acct ⟨.ok, 0⟩) ∧
      (t.port .acct).reply = ⟨.ok, 0⟩ ∧ unchangedBut (.service :: .port .acct :: allUnits) s t) ∧
    (s.service = .closed → ∃ t, exec (.serviceClose .acct) s = .next t ∧ onlyAnswers .acct ⟨.ok, 0⟩ s t) ∧
    (s.service ≠ .closed → ∃ t, exec (.serviceClose .acct) s = .next t ∧ t.service = .closed ∧
      (t.port .acct).reply = ⟨.ok, 0⟩ ∧
      (∀ n, (s.ses n).state = .ringing →
        t.ses n = { s.ses n with state := .idle, ringCount := 0, stateTimer := .stopped }) ∧
      (∀ n, (s.ses n).state = .idle ∨ (s.ses n).state = .clearing ∨ (s.ses n).state = .outOfService →
        t.ses n = s.ses n) ∧
      (∀ n, (s.ses n).state = .clearing ∨ (s.ses n).state = .outOfService → t.unit n = s.unit n) ∧
      (∀ n, (s.ses n).state = .idle ∨ (s.ses n).state = .ringing → t.unit n = { s.unit n with ring := .reset }) ∧
      (∀ n, (s.ses n).state.active = true → (t.ses n).state.active = false ∧ (t.ses n).state ≠ .ringing ∧
        ((t.ses n).state = .clearing → (t.ses n).cause = some .serviceClosed)) ∧
      t.records.length = s.records.length +
        s.countLines (fun _ l => l.ses.state == .connected || l.ses.state == .held) ∧
      (∀ r, r ∈ t.records → r ∈ s.records ∨ r.cause = .serviceClosed) ∧
      t.clock = s.clock ∧ t.tariff = s.tariff ∧ t.messages = s.messages ∧ t.params = s.params)

/-! ### Clearing -/

/-- A clear request taken on a CONNECTED or HELD line closes its session (R8): end rounding (R145), a charge record at
the back of the queue with the next serial, its reservation consumed (R149, R151), the account's active count lowered
(R123), a CLEARED notice to the owner of a CONNECTED line, and the billing fields back at their reset values. -/
def Obligations.ClearingClosesSession : Prop :=
  ∀ (i : Instr) (n : LineNo) (c : Cause) (e : Account) (s : State), sendsClear s n i c →
    (s.ses n).state = .connected ∨ (s.ses n).state = .held → s.accountOf n = some e →
    ∃ t, exec i s = .next t ∧
      t.records = s.records ++ [closingRecord s n e.balance c] ∧ t.serial = (s.serial + 1) % 65536 ∧
      t.reservations = s.reservations - 1 ∧
      t.accounts = s.accounts.map (fun x => if x.number = e.number then
        { x with balance := if roundsUp (s.ses n) ∧ 0 < e.balance then x.balance - 1 else x.balance
                 active := x.active - 1 } else x) ∧
      (∀ h, (s.ses n).state = .connected → (s.ses n).offer = none → (s.ses n).owner = some h →
        (t.port (Computer.link h)).notices = ((s.postNotice (Computer.link h) (.cleared n c)).port (Computer.link h)).notices ∧
        (t.port (Computer.link h)).lost = ((s.postNotice (Computer.link h) (.cleared n c)).port (Computer.link h)).lost) ∧
      (t.ses n).f = 0 ∧ (t.ses n).bandSecs = Vector.replicate 4 0 ∧ (t.ses n).heldSecs = 0 ∧
      (t.ses n).debited = 0 ∧ (t.ses n).overdraft = 0 ∧ (t.ses n).fee = 0 ∧ (t.ses n).start = none ∧
      (t.ses n).warned = false ∧ unchangedBut (lineParts n ++ clearFrame i) s t

/-- A clear request taken on an active line enters CLEARING in one event. RELEASE, LINE CLEAR, LINE DISABLE, carrier
lost, MODEM_LOST and the expiries of the hold, idle, grace, sign-on and carrier limit timers send one, each with its
cause (R6, sendsClear). An offer pending is withdrawn, with a WITHDRAWN notice to its target, and a line that was OFFERED
gives back its reservation and its active count (R9). A line that was in none of OFFERED, CONNECTED and HELD changes no
account, record or count. -/
def Obligations.ClearingWithdrawsOffer : Prop :=
  ∀ (i : Instr) (n : LineNo) (c : Cause) (s : State), sendsClear s n i c → (s.ses n).state.active = true →
    ∃ t, exec i s = .next t ∧ (t.ses n).state.active = false ∧ (t.ses n).offer = none ∧ (t.ses n).rx = [] ∧
      (t.ses n).idleTimer = .stopped ∧ (t.ses n).graceTimer = .stopped ∧
      (∀ o, (s.ses n).offer = some o → (t.ses n).offerTimer = .stopped ∧
        ∀ why, (c, why) ∈ [(.callerDropped, .callerGone), (.hostLost, .holdExpired), (.forced, .forced),
            (.lineFault, .lineFault), (.creditExhausted, .forced)] → (s.ses n).state ≠ .connected →
          (t.port (Computer.link o.target)).notices =
            ((s.postNotice (Computer.link o.target) (.withdrawn n (s.ses n).toggle why)).port (Computer.link o.target)).notices) ∧
      (∀ o e, (s.ses n).offer = some o → (s.ses n).state = .offered → s.accountOf n = some e →
        t.reservations = s.reservations - 1 ∧ t.records = s.records ∧ t.serial = s.serial ∧
        t.accounts = s.accounts.map (fun x => if x.number = e.number then { x with active := x.active - 1 } else x)) ∧
      ((s.ses n).state.hasSession = false → (s.ses n).offer = none →
        t.accounts = s.accounts ∧ t.records = s.records ∧ t.reservations = s.reservations ∧ t.serial = s.serial) ∧
      unchangedBut (lineParts n ++ clearFrame i) s t

/-- What an active line has left to send when a clear request is taken (R10 to R12, R51): nothing after LINE_FAULT and
NO_CARRIER or with no rate, no message text after CALLER_DROPPED; else all it holds and the cause's message, requested
only while CAR is asserted. With something left it stays in phase DRAIN under the drain limit; else it hangs up. -/
def Obligations.ClearingDrainsOrHangsUp : Prop :=
  ∀ (i : Instr) (n : LineNo) (c : Cause) (feed : List (Fin 16)) (tx : List Byte) (s : State), sendsClear s n i c →
    (s.ses n).state.active = true →
    tx = (if c = .lineFault ∨ c = .noCarrier ∨ (s.ses n).rate = none then [] else (s.ses n).tx) →
    feed = (if c = .lineFault ∨ c = .noCarrier ∨ c = .callerDropped ∨ (s.ses n).rate = none then []
      else match goodbyeSlot c with
        | some slot => if (s.unit n).car = true then requested (s.ses n).feed slot else (s.ses n).feed
        | none => (s.ses n).feed) →
    ∃ t, exec i s = .next t ∧
      (tx ≠ [] ∨ feed ≠ [] → (t.ses n).state = .clearing ∧ (t.ses n).phase = .drain ∧ (t.ses n).cause = some c ∧
        (t.ses n).stateTimer = .running (s.params.drainLimit * 1000) ∧ (t.ses n).tx = tx ∧ (t.ses n).feed = feed ∧
        (t.unit n).ans = (s.unit n).ans ∧ (t.unit n).trdy = (s.unit n).trdy ∧
        (t.unit n).transmitter = (s.unit n).transmitter ∧ (t.unit n).receiver = (s.unit n).receiver) ∧
      (tx = [] → feed = [] → s.params.guardTime ≠ 0 → (t.ses n).state = .clearing ∧ (t.ses n).phase = .guard ∧
        (t.ses n).cause = some c ∧ (t.ses n).stateTimer = .running (s.params.guardTime * 1000) ∧ (t.ses n).tx = [] ∧
        (t.ses n).feed = [] ∧ (t.unit n).ans = false ∧ (t.unit n).trdy = false ∧ (t.unit n).receiver = .stopped ∧
        (t.unit n).transmitter = .idle) ∧
      (tx = [] → feed = [] → s.params.guardTime = 0 →
        t.ses n = if (s.ses n).disablePending || disables i then outRecord (s.ses n) else idleRecord (s.ses n)) ∧
      ((t.ses n).state = .clearing → (t.ses n).disablePending = ((s.ses n).disablePending || disables i))

/-- In phase DRAIN a carrier-lost event empties the feed queue (R51). The phase ends with nothing left to send (log 15),
or at the drain limit with what remains discarded: the line hangs up (R12, R14). At guard expiry it comes to rest, IDLE
or OUT_OF_SERVICE, judged for the drain (R15, R4, R19, R169); on an IDLE line the ring detector starts by the latest
judgement of RNG (R40, log 18). -/
def Obligations.DrainAndGuardEnd : Prop :=
  ∀ (n : LineNo) (s : State), (s.ses n).state = .clearing →
    (∀ ms reached, (s.ses n).phase = .drain → (s.unit n).carrier = .watching ms reached false →
      ∃ t, exec (.carrierLost n) s = .next t ∧ t.ses n = { s.ses n with feed := [], cursor := 0 } ∧
        unchangedBut [.session n, .unit n] s t) ∧
    ((s.ses n).phase = .drain → (s.ses n).feed = [] → (s.ses n).tx = [] →
      ∃ t, exec (.drainComplete n) s = .next t ∧ hungUp n s t) ∧
    (∀ ms, (s.ses n).phase = .drain → (s.ses n).stateTimer = .running ms → ∃ t, exec (.drainLimitExpiry n) s = .next t ∧
      hungUp n (s.modSes n fun r => { r with tx := [], feed := [], cursor := 0 }) t) ∧
    (∀ ms, (s.ses n).phase = .guard → (s.ses n).stateTimer = .running ms →
      ∃ t, exec (.guardTimerExpiry n) s = .next t ∧ retired n s t)

/-- MODEM_LOST by the line's state (R160): an IDLE or RINGING line goes OUT_OF_SERVICE at once; in phase DRAIN the line
hangs up with nothing sent (R13); in phase GUARD it takes disable-pending (R15); an active one is cleared with LINE_FAULT
and takes disable-pending (R20). Its flag, and NO_CARRIER at the carrier limit's expiry (R49), is raised, with a FAULT
notice where it was clear and unmasked (R159). A watch that has raised, or does not run, raises no more. The pin takes
the level that the event implies (log 6). -/
def Obligations.ModemLossAndFaultsRaised : Prop :=
  ∀ (n : LineNo) (s : State),
    (∀ c, (s.unit n).modem = .watching c → (s.ses n).state ≠ .outOfService →
      ∃ t, exec (.modemLost n) s = .next t ∧ t.sup n = { s.sup n with faults := (s.sup n).faults ||| 1 } ∧
        (s.service ≠ .draining → t.portAcct = faultReported s n .modemLost 0) ∧
        ((s.ses n).state = .idle ∨ (s.ses n).state = .ringing →
          t.ses n = outRecord (s.ses n) ∧ (t.unit n).ans = false ∧ (t.unit n).trdy = false ∧
          (t.unit n).ring.cond = .stopped ∧ (t.unit n).modem = .stopped ∧
          (s.service ≠ .draining → t.service = s.service) ∧
          (s.service = .draining → (∀ m, m ≠ n → (s.ses m).state = .idle ∨ (s.ses m).state = .outOfService) →
            t.service = .closed) ∧
          unchangedBut [.session n, .unit n, .sup n, .service, .port .acct] s t) ∧
        ((s.ses n).state = .clearing → (s.ses n).phase = .drain → s.params.guardTime ≠ 0 →
          t.ses n = { s.ses n with
            disablePending := true, tx := [], feed := [], cursor := 0, phase := .guard
            stateTimer := .running (s.params.guardTime * 1000) } ∧
          t.unit n = { s.unit n with
            ans := false, trdy := false, carrier := .stopped, speed := .stopped, receiver := .stopped
            transmitter := .idle, flow := none, mrdy := false, mrdySeen := false, modem := .raised } ∧
          unchangedBut [.session n, .unit n, .sup n, .port .acct] s t) ∧
        ((s.ses n).state = .clearing → (s.ses n).phase = .drain → s.params.guardTime = 0 →
          t.ses n = outRecord (s.ses n) ∧ (t.unit n).ans = false ∧ (t.unit n).trdy = false ∧
          (t.unit n).transmitter = .idle ∧ (t.unit n).modem = .stopped ∧
          unchangedBut [.session n, .unit n, .sup n, .service, .port .acct] s t) ∧
        ((s.ses n).state = .clearing → (s.ses n).phase = .guard →
          t.ses n = { s.ses n with disablePending := true } ∧
          t.unit n = { s.unit n with mrdy := false, mrdySeen := false, modem := .raised } ∧
          unchangedBut [.session n, .unit n, .sup n, .port .acct] s t) ∧
        ((s.ses n).state.active = true → (t.ses n).state.active = false ∧ (t.unit n).ans = false ∧
          ((t.ses n).state = .clearing → (t.ses n).cause = some .lineFault ∧ (t.ses n).disablePending = true ∧
            (t.unit n).modem = .raised))) ∧
    ((s.unit n).modem = .raised ∨ (s.unit n).modem = .stopped → exec (.modemLost n) s = .next s) ∧
    ∀ ms, (s.ses n).state = .answering → (s.ses n).stateTimer = .running ms →
      ∃ t, exec (.carrierLimitExpiry n) s = .next t ∧ (t.ses n).state.active = false ∧ (t.unit n).ans = false ∧
        ((t.ses n).state = .clearing → (t.ses n).cause = some .noCarrier) ∧
        t.sup n = { s.sup n with faults := (s.sup n).faults ||| 4 } ∧
        (s.service ≠ .draining → t.portAcct = faultReported s n .noCarrier 2)

/-! ### Offers and ownership -/

/-- ANSWER (R81): an unnamed toggle or verdict is refused BAD_ARGUMENT, then a line with no offer pending at this link
NO_OFFER, then another toggle STALE. ACCEPT of a SIGN_ON offer connects the line and charges the fee, what the balance
does not cover as overdraft, with the warning and grace of its units (R82, R139, R140, R144); with grace minutes 0 the
line is then cleared with CREDIT_EXHAUSTED (R142). ACCEPT of an ADOPT offer connects it with no fee (R83). -/
def Obligations.AnswerAccepts : Prop :=
  ∀ (k : Link) (h : Computer) (line toggle verdict : Byte) (n : LineNo) (s : State), k.host? = some h → listens s k →
    line.toNat = n.val →
    (1 < toggle.toNat ∨ verdict ≠ 1 ∧ verdict ≠ 2 →
      ∃ t, exec (.answer k line toggle verdict) s = .next t ∧ onlyAnswers k ⟨.badArgument, 0⟩ s t) ∧
    (toggle.toNat ≤ 1 → verdict = 1 ∨ verdict = 2 → (∀ kind, (s.ses n).offer ≠ some ⟨h, kind⟩) →
      ∃ t, exec (.answer k line toggle verdict) s = .next t ∧ onlyAnswers k ⟨.noOffer, 0⟩ s t) ∧
    (∀ kind, toggle.toNat ≤ 1 → verdict = 1 ∨ verdict = 2 → (s.ses n).offer = some ⟨h, kind⟩ →
      toggle ≠ (if (s.ses n).toggle then 1 else 0) →
      ∃ t, exec (.answer k line toggle verdict) s = .next t ∧ onlyAnswers k ⟨.stale, 0⟩ s t) ∧
    (∀ (e : Account) (fee paid : Nat) (warns graced : Bool), verdict = 1 →
      toggle = (if (s.ses n).toggle then 1 else 0) → (s.ses n).offer = some ⟨h, .signOn⟩ → s.accountOf n = some e →
      fee = s.tariff.classes[(s.ses n).cls.val].fee → paid = min fee e.balance →
      warns = (decide (0 < fee) && decide (e.balance - fee < e.warn) && !(s.ses n).warned) →
      graced = (decide (e.balance < fee) && decide ((s.ses n).graceTimer = .stopped)) →
      (s.ses n).debited + paid ≤ 16777215 → (s.ses n).overdraft + (fee - paid) ≤ 16777215 →
      (graced = false ∨ 0 < e.grace → ∃ t, exec (.answer k line toggle verdict) s = .next t ∧
        t.ses n = { s.ses n with
          state := .connected, owner := some h, firstHost := some h, offer := none, offerTimer := .stopped
          stateTimer := .stopped, idleTimer := idleStart s.params, fee := fee, debited := (s.ses n).debited + paid
          overdraft := (s.ses n).overdraft + (fee - paid), warned := (s.ses n).warned || warns
          graceTimer := if graced then .running (e.grace * 60000) else (s.ses n).graceTimer, start := stampNow s
          feed := requested (chargeFeed (s.ses n).feed warns graced) 9, cursor := cursorRequested (s.ses n) } ∧
        t.accounts = s.accounts.map (fun x =>
          if x.number = e.number then { x with balance := x.balance - paid } else x) ∧
        carriedOut k { framePort s k ⟨.ok, 0⟩ with
          notices := (feePort s k n e warns graced).notices
          lost := (feePort s k n e warns graced).lost } [.session n, .accounts] s t) ∧
      (graced = true → e.grace = 0 → (s.ses n).f < 30000 → ∃ t, exec (.answer k line toggle verdict) s = .next t ∧
        (t.port k).reply = ⟨.ok, 0⟩ ∧ (t.ses n).state.active = false ∧
        ((t.ses n).state = .clearing → (t.ses n).cause = some .creditExhausted) ∧
        t.records = s.records ++ [
          { serial := s.serial, line := n, account := (s.ses n).account, cls := (s.ses n).cls, rate := (s.ses n).rate
            firstHost := some h, lastHost := some h, adoptions := (s.ses n).adoptions, start := stampNow s
            stop := stampNow s, bandSecs := (s.ses n).bandSecs, heldSecs := (s.ses n).heldSecs, fee := fee
            debited := (s.ses n).debited + paid, overdraft := (s.ses n).overdraft + (fee - paid)
            cause := .creditExhausted }] ∧
        t.reservations = s.reservations - 1 ∧
        t.accounts = s.accounts.map (fun x => if x.number = e.number then
          { x with balance := x.balance - paid, active := x.active - 1 } else x) ∧
        (t.port k).notices =
          (((feeWarned s k n e warns).postNotice k (.cleared n .creditExhausted)).port k).notices ∧
        unchangedBut (lineParts n ++ frameParts k) s t)) ∧
    (verdict = 1 → toggle = (if (s.ses n).toggle then 1 else 0) → (s.ses n).offer = some ⟨h, .adopt⟩ →
      ∃ t, exec (.answer k line toggle verdict) s = .next t ∧
        t.ses n = { s.ses n with
          state := .connected, owner := some h, offer := none, offerTimer := .stopped, stateTimer := .stopped
          idleTimer := idleStart s.params, adoptions := min ((s.ses n).adoptions + 1) 255, declined := ⟨false, false⟩
          feed := requested (s.ses n).feed 10, cursor := cursorRequested (s.ses n) } ∧
        carriedOut k (framePort s k ⟨.ok, 0⟩) [.session n] s t)

/-- The decline of an offer, by DECLINE or by the offer timer's expiry, which posts WITHDRAWN with TIMEOUT (R85). A
SIGN_ON offer is re-routed to a host not yet tried, or, with no candidate, two attempts made, or a full queue there
(R79), the line returns to SIGN_ON, refused HOST_DECLINED, its reservation and active count released (R84, R74). An
ADOPT offer's decline adds the host to the declined-by set, and the other host is offered the line if it can take it; a
full queue there is its decline too (R94, R93). A DECLINE's frame may stand for its whole exchange (log 7). -/
def Obligations.DeclineReroutesOrReturns : Prop :=
  ∀ (i : Instr) (n : LineNo) (h g : Computer) (kind : OfferKind) (e : Account) (s : State),
    declines s n ⟨h, kind⟩ i → (s.ses n).offer = some ⟨h, kind⟩ → s.accountOf n = some e → g = otherHost h →
    (kind = .adopt ∨ (s.ses n).tried.has h = true →
      ∃ t, exec i s = .next t ∧
        (∀ m, i = .offerTimerExpiry m →
          t.port (Computer.link h) =
            (s.postNotice (Computer.link h) (.withdrawn n (s.ses n).toggle .timeout)).port (Computer.link h)) ∧
        (∀ b x v, i = .answer (Computer.link h) b x v →
          t.port (Computer.link h) = framePort s (Computer.link h) ⟨.ok, 0⟩)) ∧
    (kind = .signOn → (s.ses n).requested = none ∨ (s.ses n).requested = some g → (s.ses n).offerAttempts ≤ 1 →
      (s.ses n).tried.has h = true → (s.ses n).tried.has g = false → canTake s e g →
      ∃ t, exec i s = .next t ∧
        t.ses n = { s.ses n with
          offer := some ⟨g, .signOn⟩, toggle := !(s.ses n).toggle, tried := ⟨true, true⟩
          offerAttempts := (s.ses n).offerAttempts + 1, offerTimer := .running (s.params.offerLimit * 1000) } ∧
        (t.port (Computer.link g)).notices = (s.port (Computer.link g)).notices ++
          [.offer n (!(s.ses n).toggle) ((s.ses n).account.getD 0)] ∧
        unchangedBut ([.session n, .port .hostA, .port .hostB] ++ declineFrame i) s t) ∧
    (kind = .signOn → 2 ≤ (s.ses n).offerAttempts ∨ (s.ses n).tried.has h = true ∧
        ((∃ x, (s.ses n).requested = some x ∧ (s.ses n).tried.has x = true) ∨ (s.ses n).tried.has g = true ∨
          e.hosts.has g = false ∨ (s.host g).up = false ∨ 32 ≤ (s.port (Computer.link g)).notices.length) →
      ∃ t, exec i s = .next t ∧ refusedWith 8 n s t ∧ t.reservations = s.reservations - 1 ∧
        t.accounts = s.accounts.map (fun x => if x.number = e.number then { x with active := x.active - 1 } else x) ∧
        t.records = s.records ∧ (t.ses n).offer = none ∧ (t.ses n).toggle = (s.ses n).toggle ∧
        ((t.ses n).state = .signOn → (t.ses n).account = none ∧ (t.ses n).requested = none) ∧
        t.port (Computer.link g) = s.port (Computer.link g) ∧
        unchangedBut (lineParts n ++ declineFrame i) s t) ∧
    (kind = .adopt → (s.ses n).declined.has g = false → canTake s e g →
      ∃ t, exec i s = .next t ∧
        t.ses n = { s.ses n with
          offer := some ⟨g, .adopt⟩, toggle := !(s.ses n).toggle
          declined := (s.ses n).declined.add h, offerTimer := .running (s.params.offerLimit * 1000) } ∧
        (t.port (Computer.link g)).notices = (s.port (Computer.link g)).notices ++
          [.adopt n (!(s.ses n).toggle) ((s.ses n).account.getD 0)] ∧
        unchangedBut ([.session n, .port .hostA, .port .hostB] ++ declineFrame i) s t) ∧
    (kind = .adopt → (s.ses n).declined.has g = false → e.hosts.has g = true → (s.host g).up = true →
      32 ≤ (s.port (Computer.link g)).notices.length →
      ∃ t, exec i s = .next t ∧
        t.ses n = { s.ses n with offer := none, offerTimer := .stopped, declined := ⟨true, true⟩ } ∧
        unchangedBut ([.session n, .port (Computer.link h)] ++ declineFrame i) s t) ∧
    (kind = .adopt → (s.ses n).declined.has g = true ∨ e.hosts.has g = false ∨ (s.host g).up = false →
      ∃ t, exec i s = .next t ∧
        t.ses n = { s.ses n with
          offer := none, offerTimer := .stopped, declined := (s.ses n).declined.add h } ∧
        unchangedBut ([.session n, .port (Computer.link h)] ++ declineFrame i) s t)

/-- A host link goes DOWN, by DETACH or at its silence timer's expiry (R90): its notices, LOST and account cursor go, its
mask stays; its CONNECTED lines are HELD (R91), offers to it end, HOST_DOWN is posted, and every other line that is not
HELD and has no offer there stays as it was. DETACH's reply OK waits as the pending reply (R89). -/
def Obligations.HostGoesDown : Prop :=
  ∀ (i : Instr) (h : Computer) (s : State), takesDown s h i → ∃ t, exec i s = .next t ∧
    t.host h = ⟨false, .stopped⟩ ∧ (t.port (Computer.link h)).notices = [] ∧ (t.port (Computer.link h)).lost = false ∧
    (t.port (Computer.link h)).cursor = none ∧ (t.port (Computer.link h)).mask = (s.port (Computer.link h)).mask ∧
    (t.port (Computer.link h)).reply = (if i = .silenceTimerExpiry h then (s.port (Computer.link h)).reply else ⟨.ok, 0⟩) ∧
    (∀ n, (t.ses n).state = .connected → (t.ses n).owner ≠ some h) ∧
    (∀ n o, (t.ses n).offer = some o → o.target ≠ h) ∧
    (∀ n, (s.ses n).state = .connected → (s.ses n).owner = some h → s.params.holdLimit ≠ 0 →
      (t.ses n).state = .held ∧ (t.ses n).owner = none ∧ (t.ses n).prevOwner = some h ∧
      (t.ses n).idleTimer = .stopped ∧ (t.ses n).stateTimer = .running (s.params.holdLimit * 60000) ∧
      (t.ses n).feed = requested (s.ses n).feed 13 ∧ (t.ses n).rx = (s.ses n).rx ∧ (t.ses n).tx = (s.ses n).tx ∧
      (t.ses n).account = (s.ses n).account ∧ (t.ses n).firstHost = (s.ses n).firstHost ∧
      (t.ses n).f = (s.ses n).f ∧ (t.ses n).debited = (s.ses n).debited ∧ (t.ses n).start = (s.ses n).start) ∧
    (∀ n, (s.ses n).state ≠ .held → ¬((s.ses n).state = .connected ∧ (s.ses n).owner = some h) →
      (∀ kind, (s.ses n).offer ≠ some ⟨h, kind⟩) → t.ses n = s.ses n ∧ t.unit n = s.unit n) ∧
    (s.service ≠ .draining → t.portAcct.notices = (s.postNotice .acct (.hostDown h)).portAcct.notices) ∧
    t.clock = s.clock ∧ t.tariff = s.tariff ∧ t.messages = s.messages ∧ t.params = s.params

/-- The sessions of a host whose link goes DOWN (R90). OFFERED lines with their offer there are re-routed to the other
host, or return to SIGN_ON refused HOST_DECLINED (step 3, R84); then the HELD lines with no offer are offered to the
other host if it qualifies (step 5, R93); their notices join its queue in this order, each in ascending line number, as
far as it has room, and a full queue is a decline with nothing else changed (R79). With hold limit 0 the lost CONNECTED
lines are cleared with HOST_LOST instead, each leaving a record and GOODBYE behind HOLDING (R91). -/
def Obligations.HostLossMovesSessions : Prop :=
  ∀ (i : Instr) (h g : Computer) (s : State), takesDown s h i → g = otherHost h → offerLaw s →
    ∃ t, exec i s = .next t ∧
      (t.port (Computer.link g)).lost = (s.port (Computer.link g)).lost ∧
      (t.port (Computer.link g)).notices = (s.port (Computer.link g)).notices ++
        (((allLines.filter fun n => rerouted s h n).map fun n =>
            Notice.offer n (!(s.ses n).toggle) ((s.ses n).account.getD 0)) ++
          (allLines.filter fun n => sought s h n).map fun n =>
            Notice.adopt n (!(s.ses n).toggle) ((s.ses n).account.getD 0)).take
          (32 - (s.port (Computer.link g)).notices.length) ∧
      ((s.port (Computer.link g)).notices.length ≤ 16 →
        (∀ n, rerouted s h n = true → t.unit n = s.unit n ∧ t.ses n = { s.ses n with
          offer := some ⟨g, .signOn⟩, toggle := !(s.ses n).toggle, tried := (s.ses n).tried.add g
          offerAttempts := (s.ses n).offerAttempts + 1, offerTimer := .running (s.params.offerLimit * 1000) }) ∧
        ∀ n, sought s h n = true → (t.ses n).state = .held ∧ (t.ses n).offer = some ⟨g, .adopt⟩ ∧
          (t.ses n).toggle = !(s.ses n).toggle ∧ (t.ses n).offerTimer = .running (s.params.offerLimit * 1000) ∧
          (t.ses n).declined = (s.ses n).declined ∧ (t.ses n).account = (s.ses n).account) ∧
      (32 ≤ (s.port (Computer.link g)).notices.length →
        ∀ n, sought s h n = true → (t.ses n).state = .held ∧ (t.ses n).offer = none ∧
          (t.ses n).toggle = (s.ses n).toggle ∧ (t.ses n).declined = (s.ses n).declined.add g) ∧
      (∀ n, offeredTo s h n = true →
        rerouted s h n = false ∨ 32 ≤ (s.port (Computer.link g)).notices.length →
        refusedWith 8 n s t ∧ (t.ses n).offer = none ∧ (t.ses n).toggle = (s.ses n).toggle ∧
        ((t.ses n).state = .signOn → (t.ses n).account = none ∧ (t.ses n).requested = none) ∧
        ∀ e, s.accountOf n = some e → (∀ m, m ≠ n → offeredTo s h m = false ∧ (s.ses m).ownedBy h = false) →
          t.reservations = s.reservations - 1 ∧ t.accounts = s.accounts.map (fun x =>
            if x.number = e.number then { x with active := x.active - 1 } else x)) ∧
      (∀ n, (s.ses n).state = .held → sought s h n = false →
        t.ses n = if (s.ses n).offer.map (·.target) = some h then
          { s.ses n with offer := none, offerTimer := .stopped } else s.ses n) ∧
      (s.params.holdLimit ≠ 0 → t.records = s.records ∧ t.serial = s.serial) ∧
      (s.params.holdLimit = 0 →
        t.records.length = s.records.length + s.countLines (fun _ l => l.ses.ownedBy h) ∧
        ∀ n e, (s.ses n).ownedBy h = true → s.accountOf n = some e →
          (t.ses n).state.active = false ∧
          (∃ x ∈ t.records, x.line = n ∧ x.cause = .hostLost ∧ x.lastHost = some h ∧
            x.account = (s.ses n).account ∧ x.bandSecs = (s.ses n).bandSecs ∧ x.fee = (s.ses n).fee) ∧
          ((t.ses n).state = .clearing → (t.ses n).cause = some .hostLost ∧ (t.ses n).prevOwner = some h ∧
            (t.ses n).owner = none ∧ ((t.ses n).phase = .drain → (t.ses n).feed =
              if (s.unit n).car then requested (requested (s.ses n).feed 13) 14 else requested (s.ses n).feed 13)))

/-- The first good frame on a host link that is DOWN brings it UP before its order is carried out (R92): the silence
timer starts, the host leaves every declined-by set, HOST_UP is posted, and the HELD lines that permit the host and have
no offer are offered to it, in ascending line number. Then the order is carried out as on an UP link. -/
def Obligations.HostComesUp : Prop :=
  (∀ (k : Link) (h : Computer) (s : State), k.host? = some h → accepts s k → (s.host h).up = false →
    (s.port k).notices = [] → ∃ t, exec (.nop k) s = .next t ∧
      t.host h = ⟨true, .running (s.params.hostSilence * 1000)⟩ ∧
      (∀ n, awaits s h n = false → t.ses n = { s.ses n with declined := (s.ses n).declined.remove h }) ∧
      (∀ n, awaits s h n = true → t.ses n = { s.ses n with
        declined := (s.ses n).declined.remove h, toggle := !(s.ses n).toggle, offer := some ⟨h, .adopt⟩
        offerTimer := .running (s.params.offerLimit * 1000) }) ∧
      t.port k = { framePort s k ⟨.ok, 0⟩ with
        notices := (allLines.filter fun n => awaits s h n).map fun n =>
          .adopt n (!(s.ses n).toggle) ((s.ses n).account.getD 0) } ∧
      t.portAcct = (s.postNotice .acct (.hostUp h)).portAcct ∧
      unchangedBut (.host h :: .port k :: .port .acct :: allSessions) s t) ∧
  ∀ (i : Instr) (k : Link) (h : Computer) (f : Frame) (s : State), Frame.encode i = some (k, f) → k.host? = some h →
    accepts s k → (s.host h).up = false → exec i s = exec i ((s.inExchange k).linkUp h)

/-! ### Relay -/

/-- RX SCAN gives the asking host's receive-ready lines in bits 31 to 16 and its transmit-empty lines in bits 15 to 0,
and changes nothing (R104). RECEIVE on an owned line removes up to three characters and returns them; the low-water mark
is then judged; EMPTY and NOT_OWNER change nothing (R103, R105, R101). -/
def Obligations.ReceiveOrders : Prop :=
  ∀ (k : Link) (h : Computer) (s : State), k.host? = some h → listens s k →
    (∃ t d, exec (.rxScan k) s = .next t ∧ onlyAnswers k ⟨.ok, d⟩ s t ∧
      ∀ n : LineNo,
        (d.getLsbD (16 + n.val) = true ↔
          (s.ses n).state = .connected ∧ (s.ses n).owner = some h ∧ (s.ses n).rx ≠ []) ∧
        (d.getLsbD n.val = true ↔ (s.ses n).state = .connected ∧ (s.ses n).owner = some h ∧ (s.ses n).tx = [])) ∧
    ∀ (line : Byte) (n : LineNo), line.toNat = n.val →
      (¬((s.ses n).state = .connected ∧ (s.ses n).owner = some h) →
        ∃ t, exec (.receive k line) s = .next t ∧ onlyAnswers k ⟨.notOwner, 0⟩ s t) ∧
      ((s.ses n).state = .connected → (s.ses n).owner = some h → (s.ses n).rx = [] →
        ∃ t, exec (.receive k line) s = .next t ∧ onlyAnswers k ⟨.empty, 0⟩ s t) ∧
      ((s.ses n).state = .connected → (s.ses n).owner = some h → (s.ses n).rx ≠ [] →
        ∃ t, exec (.receive k line) s = .next t ∧
          (16 < ((s.ses n).rx.drop 3).length ∨ (s.ses n).xoffSent = false →
            t.ses n = { s.ses n with rx := (s.ses n).rx.drop 3 } ∧ t.unit n = s.unit n) ∧
          (((s.ses n).rx.drop 3).length ≤ 16 → (s.ses n).xoffSent = true →
            t.ses n = { s.ses n with rx := (s.ses n).rx.drop 3, xoffSent := false } ∧
            ((s.unit n).transmitter ≠ .idle → t.unit n = { s.unit n with flow := some 17 }) ∧
            ((s.unit n).transmitter = .idle → (s.ses n).rate ≠ none →
              t.unit n = { s.unit n with flow := none, transmitter := .sending 17 (s.formatOf n) 0 })) ∧
          carriedOut k (framePort s k ⟨.ok, BitVec.ofNat 8 (min 3 (s.ses n).rx.length) ++
            (s.ses n).rx.getD 0 0 ++ (s.ses n).rx.getD 1 0 ++ (s.ses n).rx.getD 2 0⟩) [.session n, .unit n] s t)

/-- SEND on an owned line places as many of its characters as the transmit FIFO has room for, none while a message is
being fed, and returns how many, OK when all and PARTIAL when fewer; the idle timer restarts when any is placed. A count
outside 1 to 3 is refused BAD_ARGUMENT, and a line not owned NOT_OWNER (R106, R107, R103, R17). -/
def Obligations.SendPlaces : Prop :=
  ∀ (k : Link) (h : Computer) (line count c1 c2 c3 : Byte) (n : LineNo) (s : State), k.host? = some h → listens s k →
    line.toNat = n.val →
    (count.toNat = 0 ∨ 3 < count.toNat →
      ∃ t, exec (.send k line count c1 c2 c3) s = .next t ∧ onlyAnswers k ⟨.badArgument, 0⟩ s t) ∧
    (1 ≤ count.toNat → count.toNat ≤ 3 → ¬((s.ses n).state = .connected ∧ (s.ses n).owner = some h) →
      ∃ t, exec (.send k line count c1 c2 c3) s = .next t ∧ onlyAnswers k ⟨.notOwner, 0⟩ s t) ∧
    ∀ room : Nat, 1 ≤ count.toNat → count.toNat ≤ 3 → (s.ses n).state = .connected → (s.ses n).owner = some h →
      room = (if (s.ses n).feed = [] then min count.toNat (64 - (s.ses n).tx.length) else 0) →
      ∃ t, exec (.send k line count c1 c2 c3) s = .next t ∧
        ((s.unit n).transmitter ≠ .idle → t.unit n = s.unit n ∧ t.ses n = { s.ses n with
          tx := (s.ses n).tx ++ [c1, c2, c3].take room
          idleTimer := if room = 0 then (s.ses n).idleTimer else idleStart s.params }) ∧
        ((s.unit n).transmitter = .idle → (s.unit n).flow = none → (s.ses n).tx = [] → (s.ses n).rate ≠ none →
          (s.ses n).feed = [] → (t.unit n).transmitter = .sending c1 (s.formatOf n) 0 ∧
          t.ses n = { s.ses n with
            tx := ([c1, c2, c3].take count.toNat).drop 1, idleTimer := idleStart s.params }) ∧
        carriedOut k (framePort s k ⟨if room = count.toNat then .ok else .partialDone,
          BitVec.ofNat 8 room ++ (0 : Byte) ++ (0 : Byte) ++ (0 : Byte)⟩) [.session n, .unit n] s t

/-! ### Ringing, speed detection and characters -/

/-- The ring detector's events on a line whose detector runs (R40 to R45): a burst's start takes its gap and stops the
gap timer; a valid ring is counted, and the line answers at the answer-after count, else starts its gap timer with 20 ms
run (R42); a false burst, a gap that ends the ringing and a glitch that held that end return the line to IDLE. A burst is
false at once where it starts, or comes back from RELEASING, more than ring-max-on after its first assertion (R43: the
judgements before this one, the assertion's the first, are the milliseconds since that assertion, log 11). The pin takes the level that the event implies (log 6), the gap and on-times are the command's
own, and a burst that starts early counts as one of ring-min-on (log 13). -/
def Obligations.RingEvents : Prop :=
  ∀ (n : LineNo) (d : Ring) (s : State), hears s n → d = (s.unit n).ring →
    (d.cond = .armed → ∃ t, exec (.rngAsserted n) s = .next t ∧ (t.unit n).ring.cond = .qualifying ∧
      (t.unit n).rng = true ∧ (t.unit n).rngSeen = true ∧ unchangedBut [.unit n] s t) ∧
    (d.cond = .releasing → d.since ≤ s.params.ringMaxOn → ∃ t, exec (.rngAsserted n) s = .next t ∧
      (t.unit n).ring.cond = .burst ∧ (t.unit n).rng = true ∧ unchangedBut [.unit n] s t) ∧
    (d.cond = .releasing → s.params.ringMaxOn < d.since → ∃ t, exec (.rngAsserted n) s = .next t ∧
      foundFalse n s t ∧ (t.unit n).rng = true) ∧
    (d.cond = .burst → ∃ t, exec (.rngDeasserted n) s = .next t ∧ (t.unit n).ring.cond = .releasing ∧
      (t.unit n).rng = false ∧ (t.unit n).rngSeen = false ∧ unchangedBut [.unit n] s t) ∧
    (d.cond = .qualifying → d.gapHeld = false → ∃ t, exec (.rngDeasserted n) s = .next t ∧
      (t.unit n).ring.cond = .armed ∧ unchangedBut [.unit n] s t) ∧
    (d.cond = .qualifying → d.gapHeld = true → (s.ses n).state = .ringing → ∃ t, exec (.rngDeasserted n) s = .next t ∧
      t.ses n = { s.ses n with state := .idle, ringCount := 0, stateTimer := .stopped } ∧
      (t.unit n).ring.cond = .armed ∧ unchangedBut [.session n, .unit n] s t) ∧
    (∀ gap, d.cond = .qualifying → (if d.reached then d.since else max d.since s.params.ringMinOn) ≤ s.params.ringMaxOn →
      ∃ t, exec (.burstStart n gap) s = .next t ∧ (t.unit n).ring.cond = .burst ∧
        ((s.ses n).state = .idle → t.ses n = s.ses n) ∧
        ((s.ses n).state = .ringing → t.ses n = { s.ses n with lastGap := min gap 65535, stateTimer := .stopped }) ∧
        unchangedBut [.session n, .unit n] s t) ∧
    (∀ gap, d.cond = .qualifying → s.params.ringMaxOn < (if d.reached then d.since else max d.since s.params.ringMinOn) →
      ∃ t, exec (.burstStart n gap) s = .next t ∧ foundFalse n s t) ∧
    (∀ onTime rings, d.cond = .releasing → rings = (if (s.ses n).state = .ringing then (s.ses n).ringCount + 1 else 1) →
      (rings < s.params.answerAfter → ∃ t, exec (.burstEnd n onTime) s = .next t ∧
        t.ses n = { s.ses n with
          state := .ringing, ringCount := rings, lastOn := min onTime 65535
          stateTimer := .running (s.params.ringMaxOff - 19) } ∧
        (t.unit n).ring.cond = .armed ∧ (t.unit n).ans = (s.unit n).ans ∧
        unchangedBut [.session n, .unit n] s t) ∧
      (s.params.answerAfter ≤ rings → ∃ t, exec (.burstEnd n onTime) s = .next t ∧
        t.ses n = { s.ses n with
          state := .answering, ringCount := rings, lastOn := min onTime 65535, cls := (s.sup n).configured
          stateTimer := .running (s.params.carrierLimit * 1000) } ∧
        t.unit n = { s.unit n with
          ans := true, callsAnswered := min ((s.unit n).callsAnswered + 1) 65535, ring := .reset
          carrier := .qualifying 0 false } ∧
        unchangedBut [.session n, .unit n] s t)) ∧
    (d.cond = .burst → ∃ t, exec (.falseRing n) s = .next t ∧ foundFalse n s t) ∧
    (∀ onTime, d.cond = .rearm → ∃ t, exec (.rearmComplete n onTime) s = .next t ∧ (t.unit n).ring.cond = .armed ∧
      t.ses n = (if d.stores then { s.ses n with lastOn := min onTime 65535 } else s.ses n) ∧
      unchangedBut [.session n, .unit n] s t) ∧
    (∀ ms, (s.ses n).state = .ringing → (s.ses n).stateTimer = .running ms →
      (d.cond = .armed → ∃ t, exec (.gapTimerExpiry n) s = .next t ∧
        t.ses n = { s.ses n with state := .idle, ringCount := 0, stateTimer := .stopped } ∧
        unchangedBut [.session n] s t) ∧
      (d.cond = .qualifying → ∃ t, exec (.gapTimerExpiry n) s = .next t ∧
        t.ses n = { s.ses n with stateTimer := .stopped } ∧ (t.unit n).ring = { d with gapHeld := true } ∧
        unchangedBut [.session n, .unit n] s t))

/-- Carrier and speed detection (R48, R52 to R58): qualified carrier begins the first attempt; the detector arms, and the
start-bit edge stops speed-wait; a width in the window of a permitted rate is received on, any other fails the attempt; a
good CR sets the rate and brings SIGN_ON with BANNER and PROMPT; anything else, and speed-wait's expiry, fail it. The
pins take the levels that the events imply (log 6), and the widths and samples are the command's own (log 13). -/
def Obligations.SpeedDetection : Prop :=
  (∀ (n : LineNo) (ms : Nat) (reached : Bool) (s : State), (s.ses n).state = .answering →
    (s.unit n).carrier = .qualifying ms reached → ∃ t, exec (.carrierQualified n) s = .next t ∧
      t.ses n = { s.ses n with state := .speedHunt, stateTimer := .running (s.params.speedWait * 1000) } ∧
      t.unit n = { s.unit n with
        car := true, carrier := .watching 0 false false
        speed := if (s.unit n).rxd then .armed else .waitMark } ∧
      unchangedBut [.session n, .unit n] s t) ∧
  ∀ (n : LineNo) (s : State), (s.ses n).state = .speedHunt →
    ((s.unit n).speed = .waitMark ∨ (∃ q, (s.unit n).speed = .waitQuiet q) →
      ∃ t, exec (.speedDetectorArm n) s = .next t ∧ t.unit n = { s.unit n with rxd := true, speed := .armed } ∧
        unchangedBut [.unit n] s t) ∧
    ((s.unit n).speed = .armed → ∃ t, exec (.autobaudStartBit n) s = .next t ∧
      t.unit n = { s.unit n with rxd := false, speed := .measuring 1 } ∧
      t.ses n = { s.ses n with stateTimer := .stopped } ∧ unchangedBut [.session n, .unit n] s t) ∧
    (∀ m w, (s.unit n).speed = .measuring m →
      (∀ r lo hi, (r, lo, hi) ∈ rateWindows → lo ≤ w → w ≤ hi →
        s.tariff.classes[(s.ses n).cls.val].rates.getLsbD r.bit = true →
        ∃ t, exec (.wFinal n w) s = .next t ∧ (t.unit n).speed = .receiving r w 0 none ∧ unchangedBut [.unit n] s t) ∧
      ((∀ r lo hi, (r, lo, hi) ∈ rateWindows → lo ≤ w → w ≤ hi →
          s.tariff.classes[(s.ses n).cls.val].rates.getLsbD r.bit = false) →
        ∃ t, exec (.wFinal n w) s = .next t ∧ attemptFailed n s t)) ∧
    (∀ r q b st (bits : Byte), (s.unit n).speed = .receiving r q b st →
      ((s.formatOf n).parityOk bits = true → bits &&& 127 = 13 →
        ∃ t, exec (.autobaudStopBit n bits true) s = .next t ∧
          t.ses n = { s.ses n with
            state := .signOn, rate := some r, stateTimer := .running (s.params.signOnLimit * 1000)
            feed := requested (requested (s.ses n).feed 0) 1, cursor := cursorRequested (s.ses n) } ∧
          t.unit n = { s.unit n with rxd := true, receiver := .hunting, speed := .stopped } ∧
          (t.sup n).traffic = .running 50 ∧ unchangedBut [.session n, .unit n, .sup n] s t) ∧
      (∀ stop, stop = false ∨ (s.formatOf n).parityOk bits = false ∨ bits &&& 127 ≠ 13 →
        ∃ t, exec (.autobaudStopBit n bits stop) s = .next t ∧ attemptFailed n s t)) ∧
    (∀ ms, (s.ses n).stateTimer = .running ms →
      ∃ t, exec (.speedWaitExpiry n) s = .next t ∧ attemptFailed n s t)

/-- The receiver (R27 to R29): half a bit after a space edge, space begins a character and mark was noise. A bad
character is counted once and discarded; a good one in CONNECTED or HELD joins the receive FIFO, with XOFF at the
high-water mark (R97, R100) and the idle timer restarted in CONNECTED (R17), or is an overrun (R98); in OFFERED it is
discarded. A receiver waiting for mark hunts again at mark. The pin takes the level that the event implies (log 6), and
the samples are the command's own (log 13). -/
def Obligations.ReceiverEvents : Prop :=
  ∀ (n : LineNo) (s : State),
    (∀ r q f, (s.ses n).rate = some r → (s.unit n).receiver = .edge q f →
      (∃ t, exec (.startBitSample n false) s = .next t ∧
        t.unit n = { s.unit n with rxd := false, receiver := .assembling (r.ticks / 2) f 0 none } ∧
        unchangedBut [.unit n] s t) ∧
      ∃ t, exec (.startBitSample n true) s = .next t ∧ t.unit n = { s.unit n with rxd := true, receiver := .hunting } ∧
        unchangedBut [.unit n] s t) ∧
    ((s.unit n).receiver = .waitingForMark → ∃ t, exec (.returnToHunting n) s = .next t ∧
      t.unit n = { s.unit n with rxd := true, receiver := .hunting } ∧ unchangedBut [.unit n] s t) ∧
    ∀ q f b st (bits : Byte) (stop : Bool) (next : Receiver), (s.unit n).receiver = .assembling q f b st →
      next = (if stop then .hunting else .waitingForMark) →
      ((stop = false ∨ f.parityOk bits = false) →
        (s.ses n).state ∈ [.signOn, .offered, .connected, .held] ∨
          (s.ses n).state = .clearing ∧ (s.ses n).phase = .drain →
        ∃ t, exec (.characterReceived n bits stop) s = .next t ∧
          t.unit n = { s.unit n with
            rxd := stop, receiver := next, charErrors := min ((s.unit n).charErrors + 1) 255 } ∧
          t.sup n = { s.sup n with traffic := .running 50 } ∧ unchangedBut [.unit n, .sup n] s t) ∧
      (stop = true → f.parityOk bits = true → (s.ses n).state = .offered ∨ (s.ses n).state = .clearing →
        ∃ t, exec (.characterReceived n bits stop) s = .next t ∧
          t.unit n = { s.unit n with rxd := true, receiver := .hunting } ∧
          t.sup n = { s.sup n with traffic := .running 50 } ∧ unchangedBut [.unit n, .sup n] s t) ∧
      (stop = true → f.parityOk bits = true → (s.ses n).state = .connected ∨ (s.ses n).state = .held →
        ∃ t, exec (.characterReceived n bits stop) s = .next t ∧ (t.unit n).receiver = .hunting ∧
          t.sup n = { s.sup n with traffic := .running 50 } ∧ unchangedBut [.session n, .unit n, .sup n] s t ∧
          (64 ≤ (s.ses n).rx.length → (t.ses n).rx = (s.ses n).rx ∧
            (t.unit n).overruns = min ((s.unit n).overruns + 1) 255) ∧
          ((s.ses n).rx.length < 64 → (t.ses n).rx = (s.ses n).rx ++ [f.value bits] ∧
            (t.unit n).overruns = (s.unit n).overruns ∧
            (t.ses n).xoffSent = ((s.ses n).xoffSent ||
              (decide (47 ≤ (s.ses n).rx.length) && s.tariff.classes[(s.ses n).cls.val].flowControl)) ∧
            (47 ≤ (s.ses n).rx.length → (s.ses n).xoffSent = false →
              s.tariff.classes[(s.ses n).cls.val].flowControl = true → (s.unit n).transmitter ≠ .idle →
              (t.unit n).flow = some 19)) ∧
          (t.ses n).idleTimer =
            (if (s.ses n).state = .connected then idleStart s.params else (s.ses n).idleTimer))

/-- A character typed in SIGN_ON, but for CR, edits the buffer and is echoed as its group says (R62, R63): each echo
joins the transmit FIFO or is dropped; a kill also requests PROMPT (R64); no timer and no attempt count changes. -/
def Obligations.SignOnEditing : Prop :=
  ∀ (n : LineNo) (bits c : Byte) (s : State), typed s n bits c → c ≠ 13 → (s.ses n).tx.length ≤ 64 →
    ∃ t, exec (.characterReceived n bits true) s = .next t ∧
      t.ses n = { s.ses n with
        buffer := (edited (s.ses n).buffer c).1
        tx := echoed (s.ses n).tx (edited (s.ses n).buffer c).2
        feed := if c = 21 then requested (s.ses n).feed 1 else (s.ses n).feed
        cursor := if c = 21 then cursorRequested (s.ses n) else (s.ses n).cursor } ∧
      t.unit n = { s.unit n with rxd := true, receiver := .hunting } ∧
      unchangedBut [.session n, .unit n, .sup n] s t

/-- CR in SIGN_ON evaluates the buffer by the seven checks in their order (R66 to R72): the first that fails is the
refusal's message (R74), changing no account, record or count. A caller whom all pass is admitted (R73): a reservation,
the active count, and an offer to a candidate with room in its queue (R79). A full queue is a decline: the other host is
offered the session, or the line stays in SIGN_ON, refused HOST_DECLINED, with nothing reserved (R79, R84). -/
def Obligations.SignOnEvaluation : Prop :=
  ∀ (n : LineNo) (bits : Byte) (s : State), typed s n bits 13 → (s.ses n).tx.length ≤ 64 →
    ((∀ number req, ¬spells (s.ses n).buffer number req) →
      ∃ t, exec (.characterReceived n bits true) s = .next t ∧ refusedWith 2 n s t ∧
        unchangedBut [.session n, .unit n, .sup n, .service, .port .acct] s t) ∧
    ∀ number req, spells (s.ses n).buffer number req →
      (∀ slot, (s.account? number = none ∧ slot = 3 ∨
          ∃ e, s.account? number = some e ∧
            ((e.state = .suspended ∨ e.classes.getLsbD (s.ses n).cls.val = false) ∧ slot = 3 ∨
             e.state = .opened ∧ e.classes.getLsbD (s.ses n).cls.val = true ∧
              ((e.balance < s.tariff.classes[(s.ses n).cls.val].fee ∨ e.balance = 0) ∧ slot = 4 ∨
               s.tariff.classes[(s.ses n).cls.val].fee ≤ e.balance ∧ 0 < e.balance ∧
                (e.limit ≤ e.active ∧ slot = 5 ∨
                 e.active < e.limit ∧
                  ((∀ h, e.hosts.has h = true → (s.host h).up = true → ∃ g, req = some g ∧ g ≠ h) ∧ slot = 6 ∨
                   (∃ h, e.hosts.has h = true ∧ (s.host h).up = true ∧ (req = none ∨ req = some h)) ∧
                    32 ≤ s.records.length + s.reservations ∧ slot = 7))))) →
        ∃ t, exec (.characterReceived n bits true) s = .next t ∧ refusedWith slot n s t ∧
          unchangedBut [.session n, .unit n, .sup n, .service, .port .acct] s t) ∧
      (∀ (e : Account) (h : Computer), s.account? number = some e → e.state = .opened →
        e.classes.getLsbD (s.ses n).cls.val = true → s.tariff.classes[(s.ses n).cls.val].fee ≤ e.balance →
        0 < e.balance → e.active < e.limit → canTake s e h → s.records.length + s.reservations < 32 →
        req = some h ∨ req = none ∧ (e.hosts.has (otherHost h) = false ∨ (s.host (otherHost h)).up = false ∨
          (h = .a ∧ s.load n .a ≤ s.load n .b) ∨ h = .b ∧ s.load n .b < s.load n .a) →
        ∃ t, exec (.characterReceived n bits true) s = .next t ∧
          t.ses n = { s.ses n with
            tx := echoed (s.ses n).tx [13, 10], account := some number, requested := req, buffer := []
            state := .offered, stateTimer := .stopped, offerAttempts := 1, tried := ⟨h == .a, h == .b⟩
            offer := some ⟨h, .signOn⟩, toggle := !(s.ses n).toggle
            offerTimer := .running (s.params.offerLimit * 1000) } ∧
          t.reservations = s.reservations + 1 ∧
          t.accounts = s.accounts.map (fun x => if x.number = number then { x with active := x.active + 1 } else x) ∧
          (t.port (Computer.link h)).notices =
            (s.port (Computer.link h)).notices ++ [.offer n (!(s.ses n).toggle) number] ∧
          unchangedBut [.session n, .unit n, .sup n, .accounts, .reservations, .port (Computer.link h)] s t) ∧
      ∀ e : Account, s.account? number = some e → e.state = .opened →
        e.classes.getLsbD (s.ses n).cls.val = true → s.tariff.classes[(s.ses n).cls.val].fee ≤ e.balance →
        0 < e.balance → e.active < e.limit → s.records.length + s.reservations < 32 →
        (∃ h, e.hosts.has h = true ∧ (s.host h).up = true ∧ (req = none ∨ req = some h)) →
        ((∀ h, e.hosts.has h = true → (s.host h).up = true → req = none ∨ req = some h →
            32 ≤ (s.port (Computer.link h)).notices.length) →
          ∃ t, exec (.characterReceived n bits true) s = .next t ∧ refusedWith 8 n s t ∧
            ((s.ses n).offer = none → (t.ses n).offer = none) ∧ (t.ses n).toggle = (s.ses n).toggle ∧
            unchangedBut [.session n, .unit n, .sup n, .service, .port .acct] s t) ∧
        ∀ h, req = none → canTake s e (otherHost h) → e.hosts.has h = true → (s.host h).up = true →
          32 ≤ (s.port (Computer.link h)).notices.length →
          (h = .a ∧ s.load n .a ≤ s.load n .b) ∨ h = .b ∧ s.load n .b < s.load n .a →
          ∃ t, exec (.characterReceived n bits true) s = .next t ∧
            t.ses n = { s.ses n with
              tx := echoed (s.ses n).tx [13, 10], account := some number, requested := none, buffer := []
              state := .offered, stateTimer := .stopped, offerAttempts := 2, tried := ⟨true, true⟩
              offer := some ⟨otherHost h, .signOn⟩, toggle := !(s.ses n).toggle
              offerTimer := .running (s.params.offerLimit * 1000) } ∧
            (t.port (Computer.link (otherHost h))).notices =
              (s.port (Computer.link (otherHost h))).notices ++ [.offer n (!(s.ses n).toggle) number] ∧
            unchangedBut [.session n, .unit n, .sup n, .accounts, .reservations,
              .port (Computer.link (otherHost h))] s t

/-- The transmitter's end of character takes the flow insertion, or the oldest character of the transmit FIFO, or goes
idle (R30, R32). A feed step moves one character of the head message into the FIFO, or removes a message that is
exhausted (R36). Each character restarts the traffic timer, which stops at its expiry (R24, R170). -/
def Obligations.TransmitterAndFeed : Prop :=
  ∀ (n : LineNo) (s : State),
    (∀ c f q, (s.unit n).transmitter = .sending c f q → (s.ses n).rate ≠ none →
      (s.ses n).state ∈ [.signOn, .offered, .connected, .held] ∨
        (s.ses n).state = .clearing ∧ (s.ses n).phase = .drain →
      ∃ t, exec (.transmitCharacterDone n) s = .next t ∧ t.sup n = { s.sup n with traffic := .running 50 } ∧
        (∀ x, (s.unit n).flow = some x → t.ses n = s.ses n ∧
          t.unit n = { s.unit n with flow := none, transmitter := .sending x (s.formatOf n) 0 }) ∧
        (∀ x rest, (s.unit n).flow = none → (s.ses n).tx = x :: rest → t.ses n = { s.ses n with tx := rest } ∧
          t.unit n = { s.unit n with transmitter := .sending x (s.formatOf n) 0 }) ∧
        ((s.unit n).flow = none → (s.ses n).tx = [] → t.ses n = s.ses n ∧
          t.unit n = { s.unit n with transmitter := .idle }) ∧
        unchangedBut [.session n, .unit n, .sup n] s t) ∧
    (∀ slot rest (m : Slot), (s.ses n).feed = slot :: rest → m = s.messages[slot.val] →
      (m.length ≤ (s.ses n).cursor → ∃ t, exec (.messageFeedStep n) s = .next t ∧
        t.ses n = { s.ses n with feed := rest, cursor := 0 } ∧ unchangedBut [.session n] s t) ∧
      (∀ hc : (s.ses n).cursor < 64, (s.ses n).cursor < m.length → (s.ses n).tx.length < 64 →
        (s.ses n).rate ≠ none → (s.unit n).transmitter ≠ .idle →
        (s.ses n).state ∈ [.signOn, .offered, .connected, .held] ∨
          (s.ses n).state = .clearing ∧ (s.ses n).phase = .drain →
        ∃ t, exec (.messageFeedStep n) s = .next t ∧
          t.ses n = { s.ses n with
            tx := (s.ses n).tx ++ [m.text[(s.ses n).cursor]]
            feed := if m.length ≤ (s.ses n).cursor + 1 then rest else slot :: rest
            cursor := if m.length ≤ (s.ses n).cursor + 1 then 0 else (s.ses n).cursor + 1 } ∧
          unchangedBut [.session n] s t)) ∧
    (∀ ms, (s.sup n).traffic = .running ms → ∃ t, exec (.trafficTimerExpiry n) s = .next t ∧
      t.sup n = { s.sup n with traffic := .stopped } ∧ unchangedBut [.sup n] s t)

/-! ### Charging -/

/-- A unit charged on a line (R139, R140, R142): one CU of balance and of debited, or one of overdraft at balance 0; then
a warning where the balance left is below the threshold and the session was not warned; then grace, started by an
overdraft unit while its timer is stopped, or, with grace minutes 0, a clear to follow. -/
def Obligations.UnitCharged : Prop :=
  ∀ (n : LineNo) (h : Computer) (e : Account) (warns : Bool) (s u : State) (clear : Bool), s.chargeUnit n = (u, clear) →
    tableLaw s → s.accountOf n = some e → (s.ses n).owner = some h →
    warns = (decide (e.balance - 1 < e.warn) && !(s.ses n).warned) →
    (u.accounts = s.accounts.map fun x => if x.number = e.number then { x with balance := x.balance - 1 } else x) ∧
    (u.ses n).warned = ((s.ses n).warned || warns) ∧
    (0 < e.balance → clear = false ∧ (u.ses n).debited = min ((s.ses n).debited + 1) 16777215 ∧
      (u.ses n).overdraft = (s.ses n).overdraft ∧ (u.ses n).graceTimer = (s.ses n).graceTimer ∧
      (u.ses n).feed = (if warns then requested (s.ses n).feed 11 else (s.ses n).feed) ∧
      (u.port (Computer.link h)).notices = (if warns then
        ((s.postNotice (Computer.link h) (.lowBalance n (e.balance - 1))).port (Computer.link h)).notices
        else (s.port (Computer.link h)).notices)) ∧
    (e.balance = 0 → (u.ses n).debited = (s.ses n).debited ∧
      (u.ses n).overdraft = min ((s.ses n).overdraft + 1) 16777215 ∧
      ((s.ses n).graceTimer ≠ .stopped → clear = false ∧ (u.ses n).graceTimer = (s.ses n).graceTimer) ∧
      ((s.ses n).graceTimer = .stopped → e.grace = 0 → clear = true ∧ (u.ses n).graceTimer = .stopped) ∧
      ((s.ses n).graceTimer = .stopped → 0 < e.grace → clear = false ∧
        (u.ses n).graceTimer = .running (e.grace * 60000) ∧
        (u.ses n).feed = requested (if warns then requested (s.ses n).feed 11 else (s.ses n).feed) 12)) ∧
    (u.ses n).state = (s.ses n).state ∧ (u.ses n).f = (s.ses n).f ∧
    unchangedBut [.session n, .accounts, .port (Computer.link h)] s u

/-- A second boundary (R125, R131, R132, R135, R136): the clock goes on one second, wrapping at the minute and the week;
each CONNECTED line counts a second of the band of the hour just before it, adds the installed rate to F and is charged
a unit for each 60,000, the lines of one account in ascending order; what the balance left does not cover is overdraft,
which starts grace, or, with grace minutes 0, clears the line with CREDIT_EXHAUSTED (R139, R140, R142, R145); each HELD
line counts a held second; every other line is passed over; and every pending tariff value is installed. -/
def Obligations.SecondBoundary : Prop :=
  ∀ (s : State) (band : Nat), s.inReset = false → clockLaw s →
    band = (if s.clock.set then (s.tariff.bands[s.clock.minute / 60]?.map (·.val)).getD 0 else 0) →
    ∃ t, exec .secondBoundary s = .next t ∧ t.clock.set = s.clock.set ∧ t.clock.phase = 0 ∧
      60 * t.clock.minute + t.clock.second = (60 * s.clock.minute + s.clock.second + 1) % 604800 ∧
      t.clock.second < 60 ∧
      (∀ i, (hi : i < 168) → t.tariff.bands[i] = (s.tariff.pendingBands[i]).getD s.tariff.bands[i] ∧
        t.tariff.pendingBands[i] = none) ∧
      (∀ i, (hi : i < 16) → t.tariff.rates[i] = (s.tariff.pendingRates[i]).getD s.tariff.rates[i] ∧
        t.tariff.pendingRates[i] = none) ∧
      (∀ i, (hi : i < 4) → t.tariff.classes[i] =
        { rates := s.tariff.pendingClasses[i].rates.getD s.tariff.classes[i].rates
          format := s.tariff.pendingClasses[i].format.getD s.tariff.classes[i].format
          flowControl := s.tariff.pendingClasses[i].flowControl.getD s.tariff.classes[i].flowControl
          fee := s.tariff.pendingClasses[i].fee.getD s.tariff.classes[i].fee } ∧
        t.tariff.pendingClasses[i] = ⟨none, none, none, none⟩) ∧
      (∀ n, (s.ses n).state ≠ .connected → (s.ses n).state ≠ .held → t.ses n = s.ses n ∧ t.unit n = s.unit n) ∧
      (∀ n, (s.ses n).state = .held → t.unit n = s.unit n ∧
        t.ses n = { s.ses n with heldSecs := min ((s.ses n).heldSecs + 1) 16777215 }) ∧
      (∀ number e, s.account? number = some e → 0 < e.grace ∨ unitsBelow s band number 16 ≤ e.balance →
        t.account? number = some { e with balance := e.balance - unitsBelow s band number 16 }) ∧
      (∀ (n : LineNo) (rate units left : Nat) (e : Account) (warns graced : Bool), (s.ses n).state = .connected →
        s.tariff.rates[4 * band + (s.ses n).cls.val]? = some rate → units = ((s.ses n).f + rate) / 60000 →
        s.accountOf n = some e → left = e.balance - unitsBelow s band e.number n.val →
        warns = (decide (0 < units) && decide (left - units < e.warn) && !(s.ses n).warned) →
        graced = (decide (left < units) && decide ((s.ses n).graceTimer = .stopped)) →
        (s.ses n).debited + units ≤ 16777215 → (s.ses n).overdraft + units + 1 ≤ 16777215 →
        (graced = false ∨ 0 < e.grace → t.unit n = s.unit n ∧
          t.ses n = { s.ses n with
            bandSecs := (t.ses n).bandSecs, f := (s.ses n).f + rate - 60000 * units
            debited := (s.ses n).debited + min units left
            overdraft := (s.ses n).overdraft + (units - left), warned := (s.ses n).warned || warns
            graceTimer := if graced then .running (e.grace * 60000) else (s.ses n).graceTimer
            feed := chargeFeed (s.ses n).feed warns graced
            cursor := if warns || graced then cursorRequested (s.ses n) else (s.ses n).cursor } ∧
          ∀ b, (hb : b < 4) → (t.ses n).bandSecs[b] =
            if b = band then min ((s.ses n).bandSecs[b] + 1) 16777215 else (s.ses n).bandSecs[b]) ∧
        (graced = true → e.grace = 0 → (t.ses n).state.active = false ∧
          ((t.ses n).state = .clearing → (t.ses n).cause = some .creditExhausted) ∧
          ∃ x ∈ t.records, x.line = n ∧ x.cause = .creditExhausted ∧ x.account = (s.ses n).account ∧
            x.debited = (s.ses n).debited + left ∧ x.overdraft = (s.ses n).overdraft + (units - left) +
              (if 30000 ≤ (s.ses n).f + rate - 60000 * units then 1 else 0))) ∧
      ((∀ e ∈ s.accounts, 0 < e.grace) → t.records = s.records ∧ t.reservations = s.reservations ∧
        t.serial = s.serial ∧ t.service = s.service) ∧
      t.params = s.params
end

