-- ==== Sys2Proof/Laws/Accounts.lean ====
section
/-! SUPPORT. Looking an account up: what is found, and that under the law of the table a number names one entry. -/

namespace Sys2Proof.Machine

theorem account?_isSome_iff (s : State) (a : Nat) : (s.account? a).isSome = true ↔ ∃ e ∈ s.accounts, e.number = a := by
  simp [State.account?, List.find?_isSome]

theorem account?_eq_none_of (s : State) (a : Nat) (h : ∀ e ∈ s.accounts, e.number ≠ a) : s.account? a = none := by
  simp only [State.account?, List.find?_eq_none, beq_iff_eq]; exact h

/-- An entry that is found stands in the table under the number looked up. -/
theorem account?_eq_some {s : State} {a : Nat} {e : Account} (h : s.account? a = some e) :
    e ∈ s.accounts ∧ e.number = a :=
  ⟨List.mem_of_find?_eq_some h, by simpa using List.find?_some h⟩

/-- Under the law of the table a number names one entry. -/
theorem tableLaw_unique {s : State} (h : tableLaw s) {e x : Account} (he : e ∈ s.accounts) (hx : x ∈ s.accounts)
    (hn : e.number = x.number) : e = x := by
  have hp := h.2.1
  rw [List.pairwise_iff_getElem] at hp
  obtain ⟨i, hi, rfl⟩ := List.getElem_of_mem he
  obtain ⟨j, hj, rfl⟩ := List.getElem_of_mem hx
  rcases Nat.lt_trichotomy i j with h1 | h1 | h1
  · have := hp i j hi hj h1; omega
  · subst h1; rfl
  · have := hp j i hj hi h1; omega

/-- Under the law of the table an entry is found by its number. -/
theorem tableLaw_find {s : State} (h : tableLaw s) {e : Account} (he : e ∈ s.accounts) :
    s.account? e.number = some e := by
  obtain ⟨x, hx⟩ := Option.isSome_iff_exists.1 ((account?_isSome_iff s _).2 ⟨e, he, rfl⟩)
  obtain ⟨hm, hn⟩ := account?_eq_some hx
  rw [hx, tableLaw_unique h hm he hn]

/-- A change of the entry that a line's session names (R110). -/
theorem accounts_modAccountOf {s : State} {n : LineNo} {a : Nat} (h : (s.ses n).account = some a)
    (f : Account → Account) :
    (s.modAccountOf n f).accounts = s.accounts.map fun e => if e.number = a then f e else e := by
  simp [State.modAccountOf, h, State.modAccount]

end Sys2Proof.Machine
end

