-- ==== Sys2Proof/Laws/State.lean ====
section
/-! SUPPORT. What each update of the state leaves in each field: one lemma per field per update, so that no later proof
unfolds a record update. -/

namespace Sys2Proof.Machine.State

variable (s : State) (n m : LineNo) (k j : Link) (h g : Computer)

/-! ### One line -/

@[simp] theorem line_modLine_self (f : Line → Line) : (s.modLine n f).line n = f (s.line n) := by
  simp [modLine, line]

theorem line_modLine_ne (f : Line → Line) (hne : m ≠ n) : (s.modLine n f).line m = s.line m := by
  have : (n : Nat) ≠ (m : Nat) := fun e => hne (Fin.ext e.symm)
  simp [modLine, line, this]

@[simp] theorem ses_modSes_self (f : Session → Session) : (s.modSes n f).ses n = f (s.ses n) := by
  simp [modSes, ses]

theorem ses_modSes_ne (f : Session → Session) (hne : m ≠ n) : (s.modSes n f).ses m = s.ses m := by
  simp [modSes, ses, line_modLine_ne, hne]

@[simp] theorem unit_modUnit_self (f : LineUnit → LineUnit) : (s.modUnit n f).unit n = f (s.unit n) := by
  simp [modUnit, unit]

theorem unit_modUnit_ne (f : LineUnit → LineUnit) (hne : m ≠ n) : (s.modUnit n f).unit m = s.unit m := by
  simp [modUnit, unit, line_modLine_ne, hne]

@[simp] theorem sup_modSup_self (f : Supervised → Supervised) : (s.modSup n f).sup n = f (s.sup n) := by
  simp [modSup, sup]

theorem sup_modSup_ne (f : Supervised → Supervised) (hne : m ≠ n) : (s.modSup n f).sup m = s.sup m := by
  simp [modSup, sup, line_modLine_ne, hne]

@[simp] theorem ses_modUnit (f : LineUnit → LineUnit) : (s.modUnit n f).ses m = s.ses m := by
  by_cases hm : m = n
  · subst hm; simp [modUnit, ses]
  · simp [modUnit, ses, line_modLine_ne, hm]

@[simp] theorem ses_modSup (f : Supervised → Supervised) : (s.modSup n f).ses m = s.ses m := by
  by_cases hm : m = n
  · subst hm; simp [modSup, ses]
  · simp [modSup, ses, line_modLine_ne, hm]

@[simp] theorem unit_modSes (f : Session → Session) : (s.modSes n f).unit m = s.unit m := by
  by_cases hm : m = n
  · subst hm; simp [modSes, unit]
  · simp [modSes, unit, line_modLine_ne, hm]

@[simp] theorem unit_modSup (f : Supervised → Supervised) : (s.modSup n f).unit m = s.unit m := by
  by_cases hm : m = n
  · subst hm; simp [modSup, unit]
  · simp [modSup, unit, line_modLine_ne, hm]

@[simp] theorem sup_modSes (f : Session → Session) : (s.modSes n f).sup m = s.sup m := by
  by_cases hm : m = n
  · subst hm; simp [modSes, sup]
  · simp [modSes, sup, line_modLine_ne, hm]

@[simp] theorem sup_modUnit (f : LineUnit → LineUnit) : (s.modUnit n f).sup m = s.sup m := by
  by_cases hm : m = n
  · subst hm; simp [modUnit, sup]
  · simp [modUnit, sup, line_modLine_ne, hm]

/-! ### A line's update and the rest of the part -/

@[simp] theorem portA_modLine (f : Line → Line) : (s.modLine n f).portA = s.portA := rfl
@[simp] theorem portB_modLine (f : Line → Line) : (s.modLine n f).portB = s.portB := rfl
@[simp] theorem portAcct_modLine (f : Line → Line) : (s.modLine n f).portAcct = s.portAcct := rfl
@[simp] theorem hostA_modLine (f : Line → Line) : (s.modLine n f).hostA = s.hostA := rfl
@[simp] theorem hostB_modLine (f : Line → Line) : (s.modLine n f).hostB = s.hostB := rfl
@[simp] theorem accounts_modLine (f : Line → Line) : (s.modLine n f).accounts = s.accounts := rfl
@[simp] theorem records_modLine (f : Line → Line) : (s.modLine n f).records = s.records := rfl
@[simp] theorem reservations_modLine (f : Line → Line) : (s.modLine n f).reservations = s.reservations := rfl
@[simp] theorem serial_modLine (f : Line → Line) : (s.modLine n f).serial = s.serial := rfl
@[simp] theorem clock_modLine (f : Line → Line) : (s.modLine n f).clock = s.clock := rfl
@[simp] theorem tariff_modLine (f : Line → Line) : (s.modLine n f).tariff = s.tariff := rfl
@[simp] theorem messages_modLine (f : Line → Line) : (s.modLine n f).messages = s.messages := rfl
@[simp] theorem service_modLine (f : Line → Line) : (s.modLine n f).service = s.service := rfl
@[simp] theorem params_modLine (f : Line → Line) : (s.modLine n f).params = s.params := rfl
@[simp] theorem inReset_modLine (f : Line → Line) : (s.modLine n f).inReset = s.inReset := rfl
@[simp] theorem msPhase_modLine (f : Line → Line) : (s.modLine n f).msPhase = s.msPhase := rfl
@[simp] theorem ticks_modLine (f : Line → Line) : (s.modLine n f).ticks = s.ticks := rfl
@[simp] theorem picks_modLine (f : Line → Line) : (s.modLine n f).picks = s.picks := rfl
@[simp] theorem pending_modLine (f : Line → Line) : (s.modLine n f).pending = s.pending := rfl
@[simp] theorem port_modLine (f : Line → Line) : (s.modLine n f).port k = s.port k := by cases k <;> rfl
@[simp] theorem host_modLine (f : Line → Line) : (s.modLine n f).host h = s.host h := by cases h <;> rfl

@[simp] theorem portA_modSes (f : Session → Session) : (s.modSes n f).portA = s.portA := rfl
@[simp] theorem portB_modSes (f : Session → Session) : (s.modSes n f).portB = s.portB := rfl
@[simp] theorem portAcct_modSes (f : Session → Session) : (s.modSes n f).portAcct = s.portAcct := rfl
@[simp] theorem hostA_modSes (f : Session → Session) : (s.modSes n f).hostA = s.hostA := rfl
@[simp] theorem hostB_modSes (f : Session → Session) : (s.modSes n f).hostB = s.hostB := rfl
@[simp] theorem accounts_modSes (f : Session → Session) : (s.modSes n f).accounts = s.accounts := rfl
@[simp] theorem records_modSes (f : Session → Session) : (s.modSes n f).records = s.records := rfl
@[simp] theorem reservations_modSes (f : Session → Session) : (s.modSes n f).reservations = s.reservations := rfl
@[simp] theorem serial_modSes (f : Session → Session) : (s.modSes n f).serial = s.serial := rfl
@[simp] theorem clock_modSes (f : Session → Session) : (s.modSes n f).clock = s.clock := rfl
@[simp] theorem tariff_modSes (f : Session → Session) : (s.modSes n f).tariff = s.tariff := rfl
@[simp] theorem messages_modSes (f : Session → Session) : (s.modSes n f).messages = s.messages := rfl
@[simp] theorem service_modSes (f : Session → Session) : (s.modSes n f).service = s.service := rfl
@[simp] theorem params_modSes (f : Session → Session) : (s.modSes n f).params = s.params := rfl
@[simp] theorem inReset_modSes (f : Session → Session) : (s.modSes n f).inReset = s.inReset := rfl
@[simp] theorem msPhase_modSes (f : Session → Session) : (s.modSes n f).msPhase = s.msPhase := rfl
@[simp] theorem ticks_modSes (f : Session → Session) : (s.modSes n f).ticks = s.ticks := rfl
@[simp] theorem picks_modSes (f : Session → Session) : (s.modSes n f).picks = s.picks := rfl
@[simp] theorem pending_modSes (f : Session → Session) : (s.modSes n f).pending = s.pending := rfl
@[simp] theorem port_modSes (f : Session → Session) : (s.modSes n f).port k = s.port k := by cases k <;> rfl
@[simp] theorem host_modSes (f : Session → Session) : (s.modSes n f).host h = s.host h := by cases h <;> rfl

@[simp] theorem portA_modUnit (f : LineUnit → LineUnit) : (s.modUnit n f).portA = s.portA := rfl
@[simp] theorem portB_modUnit (f : LineUnit → LineUnit) : (s.modUnit n f).portB = s.portB := rfl
@[simp] theorem portAcct_modUnit (f : LineUnit → LineUnit) : (s.modUnit n f).portAcct = s.portAcct := rfl
@[simp] theorem hostA_modUnit (f : LineUnit → LineUnit) : (s.modUnit n f).hostA = s.hostA := rfl
@[simp] theorem hostB_modUnit (f : LineUnit → LineUnit) : (s.modUnit n f).hostB = s.hostB := rfl
@[simp] theorem accounts_modUnit (f : LineUnit → LineUnit) : (s.modUnit n f).accounts = s.accounts := rfl
@[simp] theorem records_modUnit (f : LineUnit → LineUnit) : (s.modUnit n f).records = s.records := rfl
@[simp] theorem reservations_modUnit (f : LineUnit → LineUnit) : (s.modUnit n f).reservations = s.reservations := rfl
@[simp] theorem serial_modUnit (f : LineUnit → LineUnit) : (s.modUnit n f).serial = s.serial := rfl
@[simp] theorem clock_modUnit (f : LineUnit → LineUnit) : (s.modUnit n f).clock = s.clock := rfl
@[simp] theorem tariff_modUnit (f : LineUnit → LineUnit) : (s.modUnit n f).tariff = s.tariff := rfl
@[simp] theorem messages_modUnit (f : LineUnit → LineUnit) : (s.modUnit n f).messages = s.messages := rfl
@[simp] theorem service_modUnit (f : LineUnit → LineUnit) : (s.modUnit n f).service = s.service := rfl
@[simp] theorem params_modUnit (f : LineUnit → LineUnit) : (s.modUnit n f).params = s.params := rfl
@[simp] theorem inReset_modUnit (f : LineUnit → LineUnit) : (s.modUnit n f).inReset = s.inReset := rfl
@[simp] theorem msPhase_modUnit (f : LineUnit → LineUnit) : (s.modUnit n f).msPhase = s.msPhase := rfl
@[simp] theorem ticks_modUnit (f : LineUnit → LineUnit) : (s.modUnit n f).ticks = s.ticks := rfl
@[simp] theorem picks_modUnit (f : LineUnit → LineUnit) : (s.modUnit n f).picks = s.picks := rfl
@[simp] theorem pending_modUnit (f : LineUnit → LineUnit) : (s.modUnit n f).pending = s.pending := rfl
@[simp] theorem port_modUnit (f : LineUnit → LineUnit) : (s.modUnit n f).port k = s.port k := by cases k <;> rfl
@[simp] theorem host_modUnit (f : LineUnit → LineUnit) : (s.modUnit n f).host h = s.host h := by cases h <;> rfl

@[simp] theorem portA_modSup (f : Supervised → Supervised) : (s.modSup n f).portA = s.portA := rfl
@[simp] theorem portB_modSup (f : Supervised → Supervised) : (s.modSup n f).portB = s.portB := rfl
@[simp] theorem portAcct_modSup (f : Supervised → Supervised) : (s.modSup n f).portAcct = s.portAcct := rfl
@[simp] theorem hostA_modSup (f : Supervised → Supervised) : (s.modSup n f).hostA = s.hostA := rfl
@[simp] theorem hostB_modSup (f : Supervised → Supervised) : (s.modSup n f).hostB = s.hostB := rfl
@[simp] theorem accounts_modSup (f : Supervised → Supervised) : (s.modSup n f).accounts = s.accounts := rfl
@[simp] theorem records_modSup (f : Supervised → Supervised) : (s.modSup n f).records = s.records := rfl
@[simp] theorem reservations_modSup (f : Supervised → Supervised) : (s.modSup n f).reservations = s.reservations := rfl
@[simp] theorem serial_modSup (f : Supervised → Supervised) : (s.modSup n f).serial = s.serial := rfl
@[simp] theorem clock_modSup (f : Supervised → Supervised) : (s.modSup n f).clock = s.clock := rfl
@[simp] theorem tariff_modSup (f : Supervised → Supervised) : (s.modSup n f).tariff = s.tariff := rfl
@[simp] theorem messages_modSup (f : Supervised → Supervised) : (s.modSup n f).messages = s.messages := rfl
@[simp] theorem service_modSup (f : Supervised → Supervised) : (s.modSup n f).service = s.service := rfl
@[simp] theorem params_modSup (f : Supervised → Supervised) : (s.modSup n f).params = s.params := rfl
@[simp] theorem inReset_modSup (f : Supervised → Supervised) : (s.modSup n f).inReset = s.inReset := rfl
@[simp] theorem msPhase_modSup (f : Supervised → Supervised) : (s.modSup n f).msPhase = s.msPhase := rfl
@[simp] theorem ticks_modSup (f : Supervised → Supervised) : (s.modSup n f).ticks = s.ticks := rfl
@[simp] theorem picks_modSup (f : Supervised → Supervised) : (s.modSup n f).picks = s.picks := rfl
@[simp] theorem pending_modSup (f : Supervised → Supervised) : (s.modSup n f).pending = s.pending := rfl
@[simp] theorem port_modSup (f : Supervised → Supervised) : (s.modSup n f).port k = s.port k := by cases k <;> rfl
@[simp] theorem host_modSup (f : Supervised → Supervised) : (s.modSup n f).host h = s.host h := by cases h <;> rfl

/-! ### A port's update -/

@[simp] theorem port_modPort_self (f : LinkPort → LinkPort) : (s.modPort k f).port k = f (s.port k) := by cases k <;> rfl

theorem port_modPort_ne (f : LinkPort → LinkPort) (hne : j ≠ k) : (s.modPort k f).port j = s.port j := by
  cases k <;> cases j <;> first | rfl | exact absurd rfl hne

@[simp] theorem hostA_modPort (f : LinkPort → LinkPort) : (s.modPort k f).hostA = s.hostA := by cases k <;> rfl
@[simp] theorem hostB_modPort (f : LinkPort → LinkPort) : (s.modPort k f).hostB = s.hostB := by cases k <;> rfl
@[simp] theorem accounts_modPort (f : LinkPort → LinkPort) : (s.modPort k f).accounts = s.accounts := by cases k <;> rfl
@[simp] theorem records_modPort (f : LinkPort → LinkPort) : (s.modPort k f).records = s.records := by cases k <;> rfl
@[simp] theorem reservations_modPort (f : LinkPort → LinkPort) : (s.modPort k f).reservations = s.reservations := by cases k <;> rfl
@[simp] theorem serial_modPort (f : LinkPort → LinkPort) : (s.modPort k f).serial = s.serial := by cases k <;> rfl
@[simp] theorem clock_modPort (f : LinkPort → LinkPort) : (s.modPort k f).clock = s.clock := by cases k <;> rfl
@[simp] theorem tariff_modPort (f : LinkPort → LinkPort) : (s.modPort k f).tariff = s.tariff := by cases k <;> rfl
@[simp] theorem messages_modPort (f : LinkPort → LinkPort) : (s.modPort k f).messages = s.messages := by cases k <;> rfl
@[simp] theorem service_modPort (f : LinkPort → LinkPort) : (s.modPort k f).service = s.service := by cases k <;> rfl
@[simp] theorem params_modPort (f : LinkPort → LinkPort) : (s.modPort k f).params = s.params := by cases k <;> rfl
@[simp] theorem inReset_modPort (f : LinkPort → LinkPort) : (s.modPort k f).inReset = s.inReset := by cases k <;> rfl
@[simp] theorem msPhase_modPort (f : LinkPort → LinkPort) : (s.modPort k f).msPhase = s.msPhase := by cases k <;> rfl
@[simp] theorem ticks_modPort (f : LinkPort → LinkPort) : (s.modPort k f).ticks = s.ticks := by cases k <;> rfl
@[simp] theorem picks_modPort (f : LinkPort → LinkPort) : (s.modPort k f).picks = s.picks := by cases k <;> rfl
@[simp] theorem pending_modPort (f : LinkPort → LinkPort) : (s.modPort k f).pending = s.pending := by cases k <;> rfl
@[simp] theorem lines_modPort (f : LinkPort → LinkPort) : (s.modPort k f).lines = s.lines := by cases k <;> rfl
@[simp] theorem host_modPort (f : LinkPort → LinkPort) : (s.modPort k f).host h = s.host h := by cases h <;> cases k <;> rfl
@[simp] theorem line_modPort (f : LinkPort → LinkPort) : (s.modPort k f).line m = s.line m := by cases k <;> rfl
@[simp] theorem ses_modPort (f : LinkPort → LinkPort) : (s.modPort k f).ses m = s.ses m := by cases k <;> rfl
@[simp] theorem unit_modPort (f : LinkPort → LinkPort) : (s.modPort k f).unit m = s.unit m := by cases k <;> rfl
@[simp] theorem sup_modPort (f : LinkPort → LinkPort) : (s.modPort k f).sup m = s.sup m := by cases k <;> rfl

/-! ### A host link's update -/

@[simp] theorem host_modHost_self (f : HostLink → HostLink) : (s.modHost h f).host h = f (s.host h) := by cases h <;> rfl

theorem host_modHost_ne (f : HostLink → HostLink) (hne : g ≠ h) : (s.modHost h f).host g = s.host g := by
  cases h <;> cases g <;> first | rfl | exact absurd rfl hne

@[simp] theorem portA_modHost (f : HostLink → HostLink) : (s.modHost h f).portA = s.portA := by cases h <;> rfl
@[simp] theorem portB_modHost (f : HostLink → HostLink) : (s.modHost h f).portB = s.portB := by cases h <;> rfl
@[simp] theorem portAcct_modHost (f : HostLink → HostLink) : (s.modHost h f).portAcct = s.portAcct := by cases h <;> rfl
@[simp] theorem accounts_modHost (f : HostLink → HostLink) : (s.modHost h f).accounts = s.accounts := by cases h <;> rfl
@[simp] theorem records_modHost (f : HostLink → HostLink) : (s.modHost h f).records = s.records := by cases h <;> rfl
@[simp] theorem reservations_modHost (f : HostLink → HostLink) : (s.modHost h f).reservations = s.reservations := by cases h <;> rfl
@[simp] theorem serial_modHost (f : HostLink → HostLink) : (s.modHost h f).serial = s.serial := by cases h <;> rfl
@[simp] theorem clock_modHost (f : HostLink → HostLink) : (s.modHost h f).clock = s.clock := by cases h <;> rfl
@[simp] theorem tariff_modHost (f : HostLink → HostLink) : (s.modHost h f).tariff = s.tariff := by cases h <;> rfl
@[simp] theorem messages_modHost (f : HostLink → HostLink) : (s.modHost h f).messages = s.messages := by cases h <;> rfl
@[simp] theorem service_modHost (f : HostLink → HostLink) : (s.modHost h f).service = s.service := by cases h <;> rfl
@[simp] theorem params_modHost (f : HostLink → HostLink) : (s.modHost h f).params = s.params := by cases h <;> rfl
@[simp] theorem inReset_modHost (f : HostLink → HostLink) : (s.modHost h f).inReset = s.inReset := by cases h <;> rfl
@[simp] theorem msPhase_modHost (f : HostLink → HostLink) : (s.modHost h f).msPhase = s.msPhase := by cases h <;> rfl
@[simp] theorem ticks_modHost (f : HostLink → HostLink) : (s.modHost h f).ticks = s.ticks := by cases h <;> rfl
@[simp] theorem picks_modHost (f : HostLink → HostLink) : (s.modHost h f).picks = s.picks := by cases h <;> rfl
@[simp] theorem pending_modHost (f : HostLink → HostLink) : (s.modHost h f).pending = s.pending := by cases h <;> rfl
@[simp] theorem lines_modHost (f : HostLink → HostLink) : (s.modHost h f).lines = s.lines := by cases h <;> rfl
@[simp] theorem port_modHost (f : HostLink → HostLink) : (s.modHost h f).port k = s.port k := by cases h <;> cases k <;> rfl
@[simp] theorem line_modHost (f : HostLink → HostLink) : (s.modHost h f).line m = s.line m := by cases h <;> rfl
@[simp] theorem ses_modHost (f : HostLink → HostLink) : (s.modHost h f).ses m = s.ses m := by cases h <;> rfl
@[simp] theorem unit_modHost (f : HostLink → HostLink) : (s.modHost h f).unit m = s.unit m := by cases h <;> rfl
@[simp] theorem sup_modHost (f : HostLink → HostLink) : (s.modHost h f).sup m = s.sup m := by cases h <;> rfl

/-! ### An account's update -/

@[simp] theorem portA_modAccount (a : Nat) (f : Account → Account) : (s.modAccount a f).portA = s.portA := rfl
@[simp] theorem portB_modAccount (a : Nat) (f : Account → Account) : (s.modAccount a f).portB = s.portB := rfl
@[simp] theorem portAcct_modAccount (a : Nat) (f : Account → Account) : (s.modAccount a f).portAcct = s.portAcct := rfl
@[simp] theorem hostA_modAccount (a : Nat) (f : Account → Account) : (s.modAccount a f).hostA = s.hostA := rfl
@[simp] theorem hostB_modAccount (a : Nat) (f : Account → Account) : (s.modAccount a f).hostB = s.hostB := rfl
@[simp] theorem records_modAccount (a : Nat) (f : Account → Account) : (s.modAccount a f).records = s.records := rfl
@[simp] theorem reservations_modAccount (a : Nat) (f : Account → Account) : (s.modAccount a f).reservations = s.reservations := rfl
@[simp] theorem serial_modAccount (a : Nat) (f : Account → Account) : (s.modAccount a f).serial = s.serial := rfl
@[simp] theorem clock_modAccount (a : Nat) (f : Account → Account) : (s.modAccount a f).clock = s.clock := rfl
@[simp] theorem tariff_modAccount (a : Nat) (f : Account → Account) : (s.modAccount a f).tariff = s.tariff := rfl
@[simp] theorem messages_modAccount (a : Nat) (f : Account → Account) : (s.modAccount a f).messages = s.messages := rfl
@[simp] theorem service_modAccount (a : Nat) (f : Account → Account) : (s.modAccount a f).service = s.service := rfl
@[simp] theorem params_modAccount (a : Nat) (f : Account → Account) : (s.modAccount a f).params = s.params := rfl
@[simp] theorem inReset_modAccount (a : Nat) (f : Account → Account) : (s.modAccount a f).inReset = s.inReset := rfl
@[simp] theorem msPhase_modAccount (a : Nat) (f : Account → Account) : (s.modAccount a f).msPhase = s.msPhase := rfl
@[simp] theorem ticks_modAccount (a : Nat) (f : Account → Account) : (s.modAccount a f).ticks = s.ticks := rfl
@[simp] theorem picks_modAccount (a : Nat) (f : Account → Account) : (s.modAccount a f).picks = s.picks := rfl
@[simp] theorem pending_modAccount (a : Nat) (f : Account → Account) : (s.modAccount a f).pending = s.pending := rfl
@[simp] theorem lines_modAccount (a : Nat) (f : Account → Account) : (s.modAccount a f).lines = s.lines := rfl
@[simp] theorem port_modAccount (a : Nat) (f : Account → Account) : (s.modAccount a f).port k = s.port k := by cases k <;> rfl
@[simp] theorem host_modAccount (a : Nat) (f : Account → Account) : (s.modAccount a f).host h = s.host h := by cases h <;> rfl
@[simp] theorem line_modAccount (a : Nat) (f : Account → Account) : (s.modAccount a f).line m = s.line m := rfl
@[simp] theorem ses_modAccount (a : Nat) (f : Account → Account) : (s.modAccount a f).ses m = s.ses m := rfl
@[simp] theorem unit_modAccount (a : Nat) (f : Account → Account) : (s.modAccount a f).unit m = s.unit m := rfl
@[simp] theorem sup_modAccount (a : Nat) (f : Account → Account) : (s.modAccount a f).sup m = s.sup m := rfl

@[simp] theorem portA_modAccountOf (f : Account → Account) : (s.modAccountOf n f).portA = s.portA := by
  unfold modAccountOf; split <;> rfl
@[simp] theorem portB_modAccountOf (f : Account → Account) : (s.modAccountOf n f).portB = s.portB := by
  unfold modAccountOf; split <;> rfl
@[simp] theorem portAcct_modAccountOf (f : Account → Account) : (s.modAccountOf n f).portAcct = s.portAcct := by
  unfold modAccountOf; split <;> rfl
@[simp] theorem hostA_modAccountOf (f : Account → Account) : (s.modAccountOf n f).hostA = s.hostA := by
  unfold modAccountOf; split <;> rfl
@[simp] theorem hostB_modAccountOf (f : Account → Account) : (s.modAccountOf n f).hostB = s.hostB := by
  unfold modAccountOf; split <;> rfl
@[simp] theorem records_modAccountOf (f : Account → Account) : (s.modAccountOf n f).records = s.records := by
  unfold modAccountOf; split <;> rfl
@[simp] theorem reservations_modAccountOf (f : Account → Account) : (s.modAccountOf n f).reservations = s.reservations := by
  unfold modAccountOf; split <;> rfl
@[simp] theorem serial_modAccountOf (f : Account → Account) : (s.modAccountOf n f).serial = s.serial := by
  unfold modAccountOf; split <;> rfl
@[simp] theorem clock_modAccountOf (f : Account → Account) : (s.modAccountOf n f).clock = s.clock := by
  unfold modAccountOf; split <;> rfl
@[simp] theorem tariff_modAccountOf (f : Account → Account) : (s.modAccountOf n f).tariff = s.tariff := by
  unfold modAccountOf; split <;> rfl
@[simp] theorem messages_modAccountOf (f : Account → Account) : (s.modAccountOf n f).messages = s.messages := by
  unfold modAccountOf; split <;> rfl
@[simp] theorem service_modAccountOf (f : Account → Account) : (s.modAccountOf n f).service = s.service := by
  unfold modAccountOf; split <;> rfl
@[simp] theorem params_modAccountOf (f : Account → Account) : (s.modAccountOf n f).params = s.params := by
  unfold modAccountOf; split <;> rfl
@[simp] theorem inReset_modAccountOf (f : Account → Account) : (s.modAccountOf n f).inReset = s.inReset := by
  unfold modAccountOf; split <;> rfl
@[simp] theorem msPhase_modAccountOf (f : Account → Account) : (s.modAccountOf n f).msPhase = s.msPhase := by
  unfold modAccountOf; split <;> rfl
@[simp] theorem ticks_modAccountOf (f : Account → Account) : (s.modAccountOf n f).ticks = s.ticks := by
  unfold modAccountOf; split <;> rfl
@[simp] theorem picks_modAccountOf (f : Account → Account) : (s.modAccountOf n f).picks = s.picks := by
  unfold modAccountOf; split <;> rfl
@[simp] theorem pending_modAccountOf (f : Account → Account) : (s.modAccountOf n f).pending = s.pending := by
  unfold modAccountOf; split <;> rfl
@[simp] theorem lines_modAccountOf (f : Account → Account) : (s.modAccountOf n f).lines = s.lines := by
  unfold modAccountOf; split <;> rfl
@[simp] theorem port_modAccountOf (f : Account → Account) : (s.modAccountOf n f).port k = s.port k := by
  unfold modAccountOf; split <;> simp
@[simp] theorem host_modAccountOf (f : Account → Account) : (s.modAccountOf n f).host h = s.host h := by
  unfold modAccountOf; split <;> simp
@[simp] theorem line_modAccountOf (f : Account → Account) : (s.modAccountOf n f).line m = s.line m := by
  unfold modAccountOf; split <;> simp
@[simp] theorem ses_modAccountOf (f : Account → Account) : (s.modAccountOf n f).ses m = s.ses m := by
  unfold modAccountOf; split <;> simp
@[simp] theorem unit_modAccountOf (f : Account → Account) : (s.modAccountOf n f).unit m = s.unit m := by
  unfold modAccountOf; split <;> simp
@[simp] theorem sup_modAccountOf (f : Account → Account) : (s.modAccountOf n f).sup m = s.sup m := by
  unfold modAccountOf; split <;> simp

end Sys2Proof.Machine.State
end

