-- ==== Sys2Proof/Laws/Frames.lean ====
section
/-! SUPPORT. What the taking of a frame does, once: an order on a link that listens is carried out on the state as
heard, and its reply becomes the pending reply. -/

namespace Sys2Proof.Machine

namespace State

variable (s : State) (n : LineNo) (k j : Link) (h g : Computer)

@[simp] theorem line_heard : (s.heard k).line n = s.line n := by cases k <;> rfl
@[simp] theorem ses_heard : (s.heard k).ses n = s.ses n := by cases k <;> rfl
@[simp] theorem unit_heard : (s.heard k).unit n = s.unit n := by cases k <;> rfl
@[simp] theorem sup_heard : (s.heard k).sup n = s.sup n := by cases k <;> rfl
@[simp] theorem accounts_heard : (s.heard k).accounts = s.accounts := by cases k <;> rfl
@[simp] theorem records_heard : (s.heard k).records = s.records := by cases k <;> rfl
@[simp] theorem reservations_heard : (s.heard k).reservations = s.reservations := by cases k <;> rfl
@[simp] theorem serial_heard : (s.heard k).serial = s.serial := by cases k <;> rfl
@[simp] theorem clock_heard : (s.heard k).clock = s.clock := by cases k <;> rfl
@[simp] theorem tariff_heard : (s.heard k).tariff = s.tariff := by cases k <;> rfl
@[simp] theorem messages_heard : (s.heard k).messages = s.messages := by cases k <;> rfl
@[simp] theorem service_heard : (s.heard k).service = s.service := by cases k <;> rfl
@[simp] theorem params_heard : (s.heard k).params = s.params := by cases k <;> rfl
@[simp] theorem inReset_heard : (s.heard k).inReset = s.inReset := by cases k <;> rfl
@[simp] theorem msPhase_heard : (s.heard k).msPhase = s.msPhase := by cases k <;> rfl
@[simp] theorem ticks_heard : (s.heard k).ticks = s.ticks := by cases k <;> rfl
@[simp] theorem picks_heard : (s.heard k).picks = s.picks := by cases k <;> rfl
@[simp] theorem pending_heard : (s.heard k).pending = s.pending := by cases k <;> rfl
@[simp] theorem lines_heard : (s.heard k).lines = s.lines := by cases k <;> rfl

@[simp] theorem port_heard_self : (s.heard k).port k = framePort s k (s.port k).reply := by cases k <;> rfl

theorem port_heard_ne (hne : j ≠ k) : (s.heard k).port j = s.port j := by
  cases k <;> cases j <;> first | rfl | exact absurd rfl hne

theorem host_heard_own (hk : k.host? = some h) :
    (s.heard k).host h = ⟨true, .running (s.params.hostSilence * 1000)⟩ := by
  cases k <;> cases h <;> first | rfl | cases hk

theorem host_heard_other (hk : k.host? ≠ some h) : (s.heard k).host h = s.host h := by
  cases k <;> cases h <;> first | rfl | exact absurd rfl hk

/-- A reply replaces the pending reply and changes nothing else. -/
@[simp] theorem port_setReply_self (r : Reply) : (s.setReply k r).port k = { s.port k with reply := r } := by
  simp [setReply]

theorem port_setReply_ne (r : Reply) (hne : j ≠ k) : (s.setReply k r).port j = s.port j := by
  simp [setReply, port_modPort_ne, hne]

theorem takeFrame_accepts {f : State → State} (ha : accepts s k) :
    s.takeFrame k f = f (s.modPort k fun p => framePort s k p.reply) := by
  unfold takeFrame inExchange
  rcases ha with ha | ⟨hn, hr⟩
  · have : (s.port k).exchange ≠ .none := by simp [ha]
    simp only [ha]
    simp only [endExchange, framePort, ha]
    cases k <;> simp_all [modPort, port]
  · simp only [hn, beginExchange, hr, if_true, port_modPort_self]
    simp only [endExchange, framePort, hn]
    cases k <;> simp_all [modPort, port]

/-- An order on a link that listens: carried out on the state as heard, its reply then pending (R88, R171, R173). -/
theorem takeOrder_listens {order : State → State × Reply} (hl : listens s k) :
    s.takeOrder k order = (order (s.heard k)).1.setReply k (order (s.heard k)).2 := by
  unfold takeOrder
  rw [takeFrame_accepts s k hl.1]
  have : linkActivity (s.modPort k fun p => framePort s k p.reply) k = s.heard k := by
    unfold linkActivity heard
    cases hk : k.host? with
    | none => rfl
    | some h =>
      have := hl.2 h hk
      simp only [host_modPort, this, if_true, params_modPort]
      cases k <;> cases h <;> simp_all [Link.host?, modHost, modPort, host]
  simp only [this]

theorem hostOrder_listens {order : Computer → State → State × Reply} (hl : listens s k) (hk : k.host? = some h) :
    s.hostOrder k order = (order h (s.heard k)).1.setReply k (order h (s.heard k)).2 := by
  unfold hostOrder; rw [takeOrder_listens s k hl]; simp [hk]

theorem acctOrder_listens {order : State → State × Reply} (hl : listens s .acct) :
    s.acctOrder .acct order = (order (s.heard .acct)).1.setReply .acct (order (s.heard .acct)).2 := by
  unfold acctOrder; rw [takeOrder_listens s .acct hl]; simp [Link.host?]

end State

end Sys2Proof.Machine
end

