-- ==== Sys2Proof/Laws/Notices.lean ====
section
/-! SUPPORT. What posting a notice, raising a fault and judging the drain leave unchanged, field by field; and what the
operations on a line's output leave of its record. -/

namespace Sys2Proof.Machine.State

variable (s : State) (n m : LineNo) (k j : Link) (h : Computer)

@[simp] theorem ses_postNotice (x : Notice) : (s.postNotice k x).ses m = s.ses m := by
  unfold postNotice pushNotice; repeat' split
  all_goals simp
@[simp] theorem unit_postNotice (x : Notice) : (s.postNotice k x).unit m = s.unit m := by
  unfold postNotice pushNotice; repeat' split
  all_goals simp
@[simp] theorem sup_postNotice (x : Notice) : (s.postNotice k x).sup m = s.sup m := by
  unfold postNotice pushNotice; repeat' split
  all_goals simp
@[simp] theorem host_postNotice (x : Notice) : (s.postNotice k x).host h = s.host h := by
  unfold postNotice pushNotice; repeat' split
  all_goals simp
@[simp] theorem accounts_postNotice (x : Notice) : (s.postNotice k x).accounts = s.accounts := by
  unfold postNotice pushNotice; repeat' split
  all_goals simp
@[simp] theorem records_postNotice (x : Notice) : (s.postNotice k x).records = s.records := by
  unfold postNotice pushNotice; repeat' split
  all_goals simp
@[simp] theorem reservations_postNotice (x : Notice) : (s.postNotice k x).reservations = s.reservations := by
  unfold postNotice pushNotice; repeat' split
  all_goals simp
@[simp] theorem serial_postNotice (x : Notice) : (s.postNotice k x).serial = s.serial := by
  unfold postNotice pushNotice; repeat' split
  all_goals simp
@[simp] theorem clock_postNotice (x : Notice) : (s.postNotice k x).clock = s.clock := by
  unfold postNotice pushNotice; repeat' split
  all_goals simp
@[simp] theorem tariff_postNotice (x : Notice) : (s.postNotice k x).tariff = s.tariff := by
  unfold postNotice pushNotice; repeat' split
  all_goals simp
@[simp] theorem messages_postNotice (x : Notice) : (s.postNotice k x).messages = s.messages := by
  unfold postNotice pushNotice; repeat' split
  all_goals simp
@[simp] theorem service_postNotice (x : Notice) : (s.postNotice k x).service = s.service := by
  unfold postNotice pushNotice; repeat' split
  all_goals simp
@[simp] theorem params_postNotice (x : Notice) : (s.postNotice k x).params = s.params := by
  unfold postNotice pushNotice; repeat' split
  all_goals simp
@[simp] theorem inReset_postNotice (x : Notice) : (s.postNotice k x).inReset = s.inReset := by
  unfold postNotice pushNotice; repeat' split
  all_goals simp
@[simp] theorem msPhase_postNotice (x : Notice) : (s.postNotice k x).msPhase = s.msPhase := by
  unfold postNotice pushNotice; repeat' split
  all_goals simp
@[simp] theorem ticks_postNotice (x : Notice) : (s.postNotice k x).ticks = s.ticks := by
  unfold postNotice pushNotice; repeat' split
  all_goals simp
@[simp] theorem picks_postNotice (x : Notice) : (s.postNotice k x).picks = s.picks := by
  unfold postNotice pushNotice; repeat' split
  all_goals simp
@[simp] theorem pending_postNotice (x : Notice) : (s.postNotice k x).pending = s.pending := by
  unfold postNotice pushNotice; repeat' split
  all_goals simp
@[simp] theorem ses_notifyOwner (x : Notice) : (s.notifyOwner n x).ses m = s.ses m := by
  unfold notifyOwner; repeat' split
  all_goals simp
@[simp] theorem unit_notifyOwner (x : Notice) : (s.notifyOwner n x).unit m = s.unit m := by
  unfold notifyOwner; repeat' split
  all_goals simp
@[simp] theorem sup_notifyOwner (x : Notice) : (s.notifyOwner n x).sup m = s.sup m := by
  unfold notifyOwner; repeat' split
  all_goals simp
@[simp] theorem host_notifyOwner (x : Notice) : (s.notifyOwner n x).host h = s.host h := by
  unfold notifyOwner; repeat' split
  all_goals simp
@[simp] theorem accounts_notifyOwner (x : Notice) : (s.notifyOwner n x).accounts = s.accounts := by
  unfold notifyOwner; repeat' split
  all_goals simp
@[simp] theorem records_notifyOwner (x : Notice) : (s.notifyOwner n x).records = s.records := by
  unfold notifyOwner; repeat' split
  all_goals simp
@[simp] theorem reservations_notifyOwner (x : Notice) : (s.notifyOwner n x).reservations = s.reservations := by
  unfold notifyOwner; repeat' split
  all_goals simp
@[simp] theorem serial_notifyOwner (x : Notice) : (s.notifyOwner n x).serial = s.serial := by
  unfold notifyOwner; repeat' split
  all_goals simp
@[simp] theorem clock_notifyOwner (x : Notice) : (s.notifyOwner n x).clock = s.clock := by
  unfold notifyOwner; repeat' split
  all_goals simp
@[simp] theorem tariff_notifyOwner (x : Notice) : (s.notifyOwner n x).tariff = s.tariff := by
  unfold notifyOwner; repeat' split
  all_goals simp
@[simp] theorem messages_notifyOwner (x : Notice) : (s.notifyOwner n x).messages = s.messages := by
  unfold notifyOwner; repeat' split
  all_goals simp
@[simp] theorem service_notifyOwner (x : Notice) : (s.notifyOwner n x).service = s.service := by
  unfold notifyOwner; repeat' split
  all_goals simp
@[simp] theorem params_notifyOwner (x : Notice) : (s.notifyOwner n x).params = s.params := by
  unfold notifyOwner; repeat' split
  all_goals simp
@[simp] theorem inReset_notifyOwner (x : Notice) : (s.notifyOwner n x).inReset = s.inReset := by
  unfold notifyOwner; repeat' split
  all_goals simp
@[simp] theorem msPhase_notifyOwner (x : Notice) : (s.notifyOwner n x).msPhase = s.msPhase := by
  unfold notifyOwner; repeat' split
  all_goals simp
@[simp] theorem ticks_notifyOwner (x : Notice) : (s.notifyOwner n x).ticks = s.ticks := by
  unfold notifyOwner; repeat' split
  all_goals simp
@[simp] theorem picks_notifyOwner (x : Notice) : (s.notifyOwner n x).picks = s.picks := by
  unfold notifyOwner; repeat' split
  all_goals simp
@[simp] theorem pending_notifyOwner (x : Notice) : (s.notifyOwner n x).pending = s.pending := by
  unfold notifyOwner; repeat' split
  all_goals simp
@[simp] theorem ses_raiseFault (x : FaultKind) : (raiseFault s n x).ses m = s.ses m := by
  unfold raiseFault; repeat' split
  all_goals simp
@[simp] theorem unit_raiseFault (x : FaultKind) : (raiseFault s n x).unit m = s.unit m := by
  unfold raiseFault; repeat' split
  all_goals simp
@[simp] theorem host_raiseFault (x : FaultKind) : (raiseFault s n x).host h = s.host h := by
  unfold raiseFault; repeat' split
  all_goals simp
@[simp] theorem accounts_raiseFault (x : FaultKind) : (raiseFault s n x).accounts = s.accounts := by
  unfold raiseFault; repeat' split
  all_goals simp
@[simp] theorem records_raiseFault (x : FaultKind) : (raiseFault s n x).records = s.records := by
  unfold raiseFault; repeat' split
  all_goals simp
@[simp] theorem reservations_raiseFault (x : FaultKind) : (raiseFault s n x).reservations = s.reservations := by
  unfold raiseFault; repeat' split
  all_goals simp
@[simp] theorem serial_raiseFault (x : FaultKind) : (raiseFault s n x).serial = s.serial := by
  unfold raiseFault; repeat' split
  all_goals simp
@[simp] theorem clock_raiseFault (x : FaultKind) : (raiseFault s n x).clock = s.clock := by
  unfold raiseFault; repeat' split
  all_goals simp
@[simp] theorem tariff_raiseFault (x : FaultKind) : (raiseFault s n x).tariff = s.tariff := by
  unfold raiseFault; repeat' split
  all_goals simp
@[simp] theorem messages_raiseFault (x : FaultKind) : (raiseFault s n x).messages = s.messages := by
  unfold raiseFault; repeat' split
  all_goals simp
@[simp] theorem service_raiseFault (x : FaultKind) : (raiseFault s n x).service = s.service := by
  unfold raiseFault; repeat' split
  all_goals simp
@[simp] theorem params_raiseFault (x : FaultKind) : (raiseFault s n x).params = s.params := by
  unfold raiseFault; repeat' split
  all_goals simp
@[simp] theorem inReset_raiseFault (x : FaultKind) : (raiseFault s n x).inReset = s.inReset := by
  unfold raiseFault; repeat' split
  all_goals simp
@[simp] theorem msPhase_raiseFault (x : FaultKind) : (raiseFault s n x).msPhase = s.msPhase := by
  unfold raiseFault; repeat' split
  all_goals simp
@[simp] theorem ticks_raiseFault (x : FaultKind) : (raiseFault s n x).ticks = s.ticks := by
  unfold raiseFault; repeat' split
  all_goals simp
@[simp] theorem picks_raiseFault (x : FaultKind) : (raiseFault s n x).picks = s.picks := by
  unfold raiseFault; repeat' split
  all_goals simp
@[simp] theorem pending_raiseFault (x : FaultKind) : (raiseFault s n x).pending = s.pending := by
  unfold raiseFault; repeat' split
  all_goals simp
@[simp] theorem ses_judgeDrained : (s.judgeDrained).ses m = s.ses m := by
  unfold judgeDrained; repeat' split
  · simp; rfl
  · rfl
@[simp] theorem unit_judgeDrained : (s.judgeDrained).unit m = s.unit m := by
  unfold judgeDrained; repeat' split
  · simp; rfl
  · rfl
@[simp] theorem sup_judgeDrained : (s.judgeDrained).sup m = s.sup m := by
  unfold judgeDrained; repeat' split
  · simp; rfl
  · rfl
@[simp] theorem host_judgeDrained : (s.judgeDrained).host h = s.host h := by
  unfold judgeDrained; repeat' split
  · simp; cases h <;> rfl
  · rfl
@[simp] theorem accounts_judgeDrained : (s.judgeDrained).accounts = s.accounts := by
  unfold judgeDrained; repeat' split
  all_goals simp
@[simp] theorem records_judgeDrained : (s.judgeDrained).records = s.records := by
  unfold judgeDrained; repeat' split
  all_goals simp
@[simp] theorem reservations_judgeDrained : (s.judgeDrained).reservations = s.reservations := by
  unfold judgeDrained; repeat' split
  all_goals simp
@[simp] theorem serial_judgeDrained : (s.judgeDrained).serial = s.serial := by
  unfold judgeDrained; repeat' split
  all_goals simp
@[simp] theorem clock_judgeDrained : (s.judgeDrained).clock = s.clock := by
  unfold judgeDrained; repeat' split
  all_goals simp
@[simp] theorem tariff_judgeDrained : (s.judgeDrained).tariff = s.tariff := by
  unfold judgeDrained; repeat' split
  all_goals simp
@[simp] theorem messages_judgeDrained : (s.judgeDrained).messages = s.messages := by
  unfold judgeDrained; repeat' split
  all_goals simp
@[simp] theorem params_judgeDrained : (s.judgeDrained).params = s.params := by
  unfold judgeDrained; repeat' split
  all_goals simp
@[simp] theorem inReset_judgeDrained : (s.judgeDrained).inReset = s.inReset := by
  unfold judgeDrained; repeat' split
  all_goals simp
@[simp] theorem msPhase_judgeDrained : (s.judgeDrained).msPhase = s.msPhase := by
  unfold judgeDrained; repeat' split
  all_goals simp
@[simp] theorem ticks_judgeDrained : (s.judgeDrained).ticks = s.ticks := by
  unfold judgeDrained; repeat' split
  all_goals simp
@[simp] theorem picks_judgeDrained : (s.judgeDrained).picks = s.picks := by
  unfold judgeDrained; repeat' split
  all_goals simp
@[simp] theorem pending_judgeDrained : (s.judgeDrained).pending = s.pending := by
  unfold judgeDrained; repeat' split
  all_goals simp

/-- A notice reaches only its own link's port. -/
theorem port_postNotice_ne (x : Notice) (hne : j ≠ k) : (s.postNotice k x).port j = s.port j := by
  unfold postNotice pushNotice; repeat' split
  all_goals simp [port_modPort_ne, hne]

end Sys2Proof.Machine.State
end

