-- ==== Sys2Proof/Laws/Unchanged.lean ====
section
/-! SUPPORT. What a command leaves alone, composed from what its updates leave alone. -/

namespace Sys2Proof.Machine

@[simp] theorem port_mem_frameParts (j k : Link) : Part.port j ∈ frameParts k ↔ j = k := by
  cases j <;> cases k <;> decide

@[simp] theorem host_mem_frameParts (h : Computer) (k : Link) : Part.host h ∈ frameParts k ↔ k.host? = some h := by
  cases h <;> cases k <;> decide

/-- A part that a frame never changes of itself. -/
theorem mem_frameParts {p : Part} {k : Link} (hp : p ∈ frameParts k) : (∃ j, p = .port j) ∨ ∃ h, p = .host h := by
  cases k <;> simp [frameParts, Link.host?] at hp <;> rcases hp with rfl | rfl <;> simp

@[simp] theorem session_mem_frameParts (n : LineNo) (k : Link) : Part.session n ∉ frameParts k := by
  cases k <;> simp [frameParts, Link.host?]
@[simp] theorem unit_mem_frameParts (n : LineNo) (k : Link) : Part.unit n ∉ frameParts k := by
  cases k <;> simp [frameParts, Link.host?]
@[simp] theorem sup_mem_frameParts (n : LineNo) (k : Link) : Part.sup n ∉ frameParts k := by
  cases k <;> simp [frameParts, Link.host?]

theorem Part.same_refl (p : Part) (s : State) : p.same s s := by cases p <;> simp [Part.same]

theorem Part.same_trans {p : Part} {s t u : State} (h1 : p.same s t) (h2 : p.same t u) : p.same s u := by
  cases p <;> simp_all [Part.same]

theorem unchangedBut_refl (ps : List Part) (s : State) : unchangedBut ps s s := fun p _ => p.same_refl s

theorem unchangedBut.trans {ps : List Part} {s t u : State} (h1 : unchangedBut ps s t) (h2 : unchangedBut ps t u) :
    unchangedBut ps s u := fun p hp => Part.same_trans (h1 p hp) (h2 p hp)

theorem unchangedBut.mono {ps qs : List Part} {s t : State} (h : unchangedBut ps s t) (hsub : ∀ p ∈ ps, p ∈ qs) :
    unchangedBut qs s t := fun p hp => h p fun hm => hp (hsub p hm)

theorem unchangedBut_modSes {ps : List Part} {n : LineNo} (f : Session → Session) (s : State)
    (hn : .session n ∈ ps) : unchangedBut ps s (s.modSes n f) := by
  intro p hp
  cases p with
  | session m =>
    have : m ≠ n := fun e => hp (e ▸ hn)
    simp [Part.same, State.ses_modSes_ne, this]
  | _ => simp [Part.same]

theorem unchangedBut_modUnit {ps : List Part} {n : LineNo} (f : LineUnit → LineUnit) (s : State)
    (hn : .unit n ∈ ps) : unchangedBut ps s (s.modUnit n f) := by
  intro p hp
  cases p with
  | unit m =>
    have : m ≠ n := fun e => hp (e ▸ hn)
    simp [Part.same, State.unit_modUnit_ne, this]
  | _ => simp [Part.same]

theorem unchangedBut_modSup {ps : List Part} {n : LineNo} (f : Supervised → Supervised) (s : State)
    (hn : .sup n ∈ ps) : unchangedBut ps s (s.modSup n f) := by
  intro p hp
  cases p with
  | sup m =>
    have : m ≠ n := fun e => hp (e ▸ hn)
    simp [Part.same, State.sup_modSup_ne, this]
  | _ => simp [Part.same]

theorem unchangedBut_modPort {ps : List Part} {k : Link} (f : LinkPort → LinkPort) (s : State)
    (hk : .port k ∈ ps) : unchangedBut ps s (s.modPort k f) := by
  intro p hp
  cases p with
  | port j =>
    have : j ≠ k := fun e => hp (e ▸ hk)
    simp [Part.same, State.port_modPort_ne, this]
  | _ => simp [Part.same]

theorem unchangedBut_modHost {ps : List Part} {h : Computer} (f : HostLink → HostLink) (s : State)
    (hh : .host h ∈ ps) : unchangedBut ps s (s.modHost h f) := by
  intro p hp
  cases p with
  | host g =>
    have : g ≠ h := fun e => hp (e ▸ hh)
    simp [Part.same, State.host_modHost_ne, this]
  | _ => simp [Part.same]

theorem unchangedBut_modAccount {ps : List Part} (a : Nat) (f : Account → Account) (s : State)
    (ha : .accounts ∈ ps) : unchangedBut ps s (s.modAccount a f) := by
  intro p hp
  cases p with
  | accounts => exact absurd ha hp
  | _ => simp [Part.same]

theorem unchangedBut_modAccountOf {ps : List Part} (n : LineNo) (f : Account → Account) (s : State)
    (ha : .accounts ∈ ps) : unchangedBut ps s (s.modAccountOf n f) := by
  intro p hp
  cases p with
  | accounts => exact absurd ha hp
  | _ => simp [Part.same]

theorem unchangedBut_heard {ps : List Part} (k : Link) (s : State) (hk : ∀ p ∈ frameParts k, p ∈ ps) :
    unchangedBut ps s (s.heard k) := by
  intro p hp
  cases p with
  | port j =>
    have : j ≠ k := fun e => hp (hk _ (by simp [e]))
    simp [Part.same, State.port_heard_ne, this]
  | host g =>
    have : k.host? ≠ some g := fun e => hp (hk _ (by simp [e]))
    simp [Part.same, State.host_heard_other, this]
  | _ => simp [Part.same]

theorem unchangedBut_setReply {ps : List Part} (k : Link) (r : Reply) (s : State) (hk : .port k ∈ ps) :
    unchangedBut ps s (s.setReply k r) := unchangedBut_modPort _ s hk

/-- An order that only answers, on a link that listens: the state as heard with the reply pending. -/
theorem onlyAnswers_heard (k : Link) (s : State) (r : Reply) : onlyAnswers k r s ((s.heard k).setReply k r) := by
  refine ⟨⟨?_, ?_⟩, ?_⟩
  · simp [framePort]
  · intro h hk; simp [State.setReply, State.host_heard_own _ _ _ hk]
  · exact (unchangedBut_heard k s (fun p hp => hp)).trans (unchangedBut_setReply _ _ _ (by simp))

/-- An order carried out on a link that listens: its own changes, then its reply pending. -/
theorem carriedOut_heard {k : Link} {s u : State} {r : Reply} {p : LinkPort} {ps : List Part}
    (hp : { u.port k with reply := r } = p) (hh : ∀ h, k.host? = some h → u.host h = (s.heard k).host h)
    (hu : unchangedBut (ps ++ frameParts k) (s.heard k) u) : carriedOut k p ps s (u.setReply k r) := by
  refine ⟨?_, ?_, ?_⟩
  · simp [← hp]
  · intro h hk; simp [State.setReply, hh h hk, State.host_heard_own _ _ _ hk]
  · exact ((unchangedBut_heard k s (by simp +contextual)).trans hu).trans (unchangedBut_setReply _ _ _ (by simp))

end Sys2Proof.Machine
end

