-- ==== Sys2Proof/Laws/Reach.lean ====
section
/-! SUPPORT. How far the shared operations on a line reach: its own record, its Line Unit and its Supervision Unit
fields, the notice queues, the Account Table, the Charge Record Queue and the service state; never another line, a host
link's state, the clock, the tariff, the messages, the parameters or the command queue. -/

namespace Sys2Proof.Machine

/-- A state that differs only in what the operations on a line reach. -/
abbrev reaches (n : LineNo) (s t : State) : Prop := unchangedBut (lineParts n) s t

theorem port_mem_lineParts (n : LineNo) (k : Link) : Part.port k ∈ lineParts n := by cases k <;> simp [lineParts]

namespace reaches

variable {n : LineNo} {s t : State}

theorem refl (n : LineNo) (s : State) : reaches n s s := unchangedBut_refl _ s

theorem ite {c : Prop} [Decidable c] {a b : State} (ha : c → reaches n s a) (hb : ¬c → reaches n s b) :
    reaches n s (if c then a else b) := by
  split
  · exact ha ‹_›
  · exact hb ‹_›

theorem ses (h : reaches n s t) (f : Session → Session) : reaches n s (t.modSes n f) :=
  h.trans (unchangedBut_modSes f t (by simp [lineParts]))
theorem unit (h : reaches n s t) (f : LineUnit → LineUnit) : reaches n s (t.modUnit n f) :=
  h.trans (unchangedBut_modUnit f t (by simp [lineParts]))
theorem sup (h : reaches n s t) (f : Supervised → Supervised) : reaches n s (t.modSup n f) :=
  h.trans (unchangedBut_modSup f t (by simp [lineParts]))
theorem port (h : reaches n s t) (k : Link) (f : LinkPort → LinkPort) : reaches n s (t.modPort k f) :=
  h.trans (unchangedBut_modPort f t (port_mem_lineParts n k))
theorem accountOf (h : reaches n s t) (f : Account → Account) : reaches n s (t.modAccountOf n f) :=
  h.trans (unchangedBut_modAccountOf n f t (by simp [lineParts]))
theorem account (h : reaches n s t) (a : Nat) (f : Account → Account) : reaches n s (t.modAccount a f) :=
  h.trans (unchangedBut_modAccount a f t (by simp [lineParts]))

theorem queueCounts (h : reaches n s t) (recs : List ChargeRecord) (c ser : Nat) :
    reaches n s { t with records := recs, reservations := c, serial := ser } :=
  h.trans fun p hp => by
    cases p with
    | port k => cases k <;> rfl
    | host g => cases g <;> rfl
    | time => exact ⟨rfl, rfl, rfl⟩
    | _ => first | rfl | simp [lineParts] at hp

theorem reservations (h : reaches n s t) (c : Nat) : reaches n s { t with reservations := c } :=
  h.trans fun p hp => by
    cases p with
    | port k => cases k <;> rfl
    | host g => cases g <;> rfl
    | time => exact ⟨rfl, rfl, rfl⟩
    | _ => first | rfl | simp [lineParts] at hp

theorem service (h : reaches n s t) (v : Service) : reaches n s { t with service := v } :=
  h.trans fun p hp => by
    cases p with
    | port k => cases k <;> rfl
    | host g => cases g <;> rfl
    | time => exact ⟨rfl, rfl, rfl⟩
    | _ => first | rfl | simp [lineParts] at hp

/-! ### Notices, faults and messages -/

theorem pushNotice (h : reaches n s t) (k : Link) (m : Notice) : reaches n s (t.pushNotice k m) := h.port k _

theorem postNotice (h : reaches n s t) (k : Link) (m : Notice) : reaches n s (t.postNotice k m) := by
  unfold State.postNotice
  exact ite (fun _ => h) fun _ => ite (fun _ => h) fun _ => ite (fun _ => h.port k _) fun _ => h.pushNotice k m

theorem raiseFault (h : reaches n s t) (k : FaultKind) : reaches n s (raiseFault t n k) := by
  unfold Machine.raiseFault
  exact ite (fun _ => h) fun _ => ite (fun _ => h.sup _) fun _ => (h.sup _).postNotice _ _

theorem requestMessage (h : reaches n s t) (slot : Fin 16) : reaches n s (t.requestMessage n slot) := h.ses _
theorem emptyFeed (h : reaches n s t) : reaches n s (t.emptyFeed n) := h.ses _
theorem emptyOut (h : reaches n s t) : reaches n s (t.emptyOut n) := h.ses _
theorem restartIdle (h : reaches n s t) : reaches n s (t.restartIdle n) := h.ses _
theorem reportTraffic (h : reaches n s t) : reaches n s (t.reportTraffic n) := h.sup _

/-! ### Relay Buffers and transmitter -/

theorem takeNext (h : reaches n s t) : reaches n s (t.takeNext n) := by
  unfold State.takeNext
  refine ite (fun _ => ?_) fun _ => h
  split
  · exact h.unit _
  · exact (h.ses _).unit _
  · exact h

theorem placeTx (h : reaches n s t) (c : Byte) : reaches n s (t.placeTx n c) := (h.ses _).takeNext

theorem placeAll (h : reaches n s t) (cs : List Byte) : reaches n s (t.placeAll n cs) := by
  induction cs generalizing t with
  | nil => exact h
  | cons c cs ih => exact ih (h.placeTx c)

theorem echo (h : reaches n s t) (c : Byte) : reaches n s (t.echo n c) :=
  ite (fun _ => h.placeTx c) fun _ => h

theorem echoAll (h : reaches n s t) (cs : List Byte) : reaches n s (t.echoAll n cs) := by
  induction cs generalizing t with
  | nil => exact h
  | cons c cs ih => exact ih (h.echo c)

theorem placeFlow (h : reaches n s t) (c : Byte) : reaches n s (t.placeFlow n c) := (h.unit _).takeNext

theorem feedStep (h : reaches n s t) : reaches n s (t.feedStep n) := by
  unfold State.feedStep
  split
  · exact h
  · exact ite (fun _ => h.ses _) fun _ => ite (fun _ => (h.ses _).placeTx _) fun _ => h

theorem relayActivity (h : reaches n s t) : reaches n s (t.relayActivity n) := ite (fun _ => h.restartIdle) fun _ => h

theorem judgeHighWater (h : reaches n s t) : reaches n s (t.judgeHighWater n) :=
  ite (fun _ => (h.ses _).placeFlow _) fun _ => h

theorem judgeLowWater (h : reaches n s t) : reaches n s (t.judgeLowWater n) :=
  ite (fun _ => (h.ses _).placeFlow _) fun _ => h

theorem receivePlace (h : reaches n s t) (c : Byte) : reaches n s (t.receivePlace n c) :=
  ite (fun _ => (h.ses _).relayActivity.judgeHighWater) fun _ => (h.unit _).relayActivity

/-! ### Charging and records -/

theorem notifyOwner (h : reaches n s t) (m : Notice) : reaches n s (t.notifyOwner n m) := by
  unfold State.notifyOwner
  split
  · exact h.postNotice _ _
  · exact h

theorem unitDebit (h : reaches n s t) : reaches n s (t.unitDebit n).1 := by
  unfold State.unitDebit
  split
  · split
    · dsimp only; exact (h.accountOf _).ses _
    · dsimp only; exact h.ses _
  · exact h

theorem judgeWarning (h : reaches n s t) : reaches n s (t.judgeWarning n) := by
  unfold State.judgeWarning
  split
  · exact ite (fun _ => ((h.ses _).requestMessage _).notifyOwner _) fun _ => h
  · exact h

theorem judgeGrace (h : reaches n s t) (o : Bool) : reaches n s (t.judgeGrace n o).1 := by
  unfold State.judgeGrace
  split
  · split
    · split
      · exact h
      · exact ((h.ses _).requestMessage _).notifyOwner _
    · exact h
  · exact h

theorem chargeUnit (h : reaches n s t) : reaches n s (t.chargeUnit n).1 := h.unitDebit.judgeWarning.judgeGrace _

theorem chargeUnits (h : reaches n s t) (k : Nat) : reaches n s (t.chargeUnits n k).1 := by
  induction k generalizing t with
  | zero => exact h
  | succ k ih => exact ih h.chargeUnit

theorem endRounding (h : reaches n s t) : reaches n s (t.endRounding n) := by
  unfold State.endRounding
  exact (ite (fun _ => h.unitDebit) fun _ => h).ses _

theorem queueRecord (h : reaches n s t) (r : ChargeRecord) : reaches n s (t.queueRecord r) := h.queueCounts _ _ _

theorem releaseAdmission (h : reaches n s t) : reaches n s (t.releaseAdmission n) :=
  (h.reservations _).accountOf _

theorem resetBilling (h : reaches n s t) : reaches n s (t.resetBilling n) := h.ses _

theorem notifyCleared (h : reaches n s t) (was : LineState) (c : Cause) : reaches n s (t.notifyCleared n was c) :=
  ite (fun _ => h.notifyOwner _) fun _ => h

theorem closeSession (h : reaches n s t) (was : LineState) (c : Cause) : reaches n s (t.closeSession n was c) :=
  (((h.endRounding.queueRecord _).accountOf _).notifyCleared was c).resetBilling

/-! ### Clearing -/

theorem judgeDrained (h : reaches n s t) : reaches n s t.judgeDrained := by
  unfold State.judgeDrained
  exact ite (fun _ => (h.service _).postNotice _ _) fun _ => h

theorem startRing (h : reaches n s t) : reaches n s (t.startRing n) := h.unit _
theorem idleEntry (h : reaches n s t) : reaches n s (t.idleEntry n) := ((h.ses _).unit _).startRing.judgeDrained
theorem outEntry (h : reaches n s t) : reaches n s (t.outEntry n) := ((h.ses _).unit _).judgeDrained
theorem guardEnd (h : reaches n s t) : reaches n s (t.guardEnd n) := ite (fun _ => h.outEntry) fun _ => h.idleEntry
theorem hangUp (h : reaches n s t) : reaches n s (t.hangUp n) :=
  ite (fun _ => ((h.unit _).ses _).guardEnd) fun _ => (h.unit _).ses _
theorem takeClear (h : reaches n s t) (c : Cause) : reaches n s (t.takeClear n c) := by
  unfold State.takeClear; exact (h.ses _).unit _
theorem dropOffer (h : reaches n s t) : reaches n s (t.dropOffer n) := h.ses _

theorem withdrawOffer (h : reaches n s t) (was : LineState) (c : Cause) : reaches n s (t.withdrawOffer n was c) := by
  unfold State.withdrawOffer
  split
  · dsimp only
    have : ∀ u, reaches n s u → reaches n s (if was = .offered then u.releaseAdmission n else u) := fun u hu =>
      ite (fun _ => hu.releaseAdmission) fun _ => hu
    apply this
    split
    · exact h.dropOffer.postNotice _ _
    · exact h.dropOffer
  · exact h

theorem finalMessage (h : reaches n s t) (c : Cause) : reaches n s (t.finalMessage n c) := by
  unfold State.finalMessage
  split
  · exact ite (fun _ => h.requestMessage _) fun _ => h
  · exact h

theorem drainContents (h : reaches n s t) (c : Cause) : reaches n s (t.drainContents n c) :=
  ite (fun _ => h.emptyOut) fun _ => ite (fun _ => h.emptyFeed) fun _ => h

theorem startDrain (h : reaches n s t) (c : Cause) : reaches n s (t.startDrain n c) :=
  ite (fun _ => h.emptyOut.hangUp) fun _ =>
    ite (fun _ => ((h.drainContents c).ses _).hangUp) fun _ => (h.drainContents c).ses _

theorem enterClearing (h : reaches n s t) (c : Cause) : reaches n s (t.enterClearing n c) := by
  have closed : reaches n s (if (t.ses n).state = .connected ∨ (t.ses n).state = .held then
      (t.takeClear n c).closeSession n (t.ses n).state c else t.takeClear n c) :=
    ite (fun _ => (h.takeClear c).closeSession _ c) fun _ => h.takeClear c
  exact ((closed.withdrawOffer _ c).finalMessage c).startDrain c

/-- A clear request reaches only its line, the notice queues, the accounts, the records and the service state. -/
theorem clearRequest (h : reaches n s t) (c : Cause) : reaches n s (t.clearRequest n c) :=
  ite (fun _ => h.enterClearing c) fun _ => h

theorem ringingToIdle (h : reaches n s t) : reaches n s (t.ringingToIdle n) := ite (fun _ => h.ses _) fun _ => h

/-! ### Offers -/

theorem refuse (h : reaches n s t) (slot : Fin 16) : reaches n s (t.refuse n slot) := by
  unfold State.refuse
  exact ite (fun _ => ((h.ses _).requestMessage _).clearRequest _) fun _ =>
    (((h.ses _).requestMessage _).requestMessage _).ses _

theorem returnToSignOn (h : reaches n s t) : reaches n s (t.returnToSignOn n) := (h.releaseAdmission.ses _).refuse _

theorem postOffer (h : reaches n s t) (g : Computer) (kind : OfferKind) : reaches n s (t.postOffer n g kind) := by
  unfold State.postOffer; exact (h.pushNotice _ _).ses _

theorem signOnAttempt (h : reaches n s t) (g : Computer) (fuel : Nat) : reaches n s (t.signOnAttempt n g fuel) := by
  induction fuel generalizing t g with
  | zero => exact h
  | succ k ih =>
    unfold State.signOnAttempt
    refine ite (fun _ => (h.ses _).postOffer g _) fun _ => ?_
    split
    · exact ih (h.ses _) _
    · exact (h.ses _).returnToSignOn

theorem declineSignOn (h : reaches n s t) : reaches n s (t.declineSignOn n) := by
  unfold State.declineSignOn
  dsimp only
  split
  · exact h.dropOffer.signOnAttempt _ _
  · exact h.dropOffer.returnToSignOn

theorem addDeclined (h : reaches n s t) (g : Computer) : reaches n s (t.addDeclined n g) := h.ses _

theorem adoptionSearch (h : reaches n s t) (fuel : Nat) : reaches n s (t.adoptionSearch n fuel) := by
  induction fuel generalizing t with
  | zero => exact h
  | succ k ih =>
    unfold State.adoptionSearch
    split
    · exact ite (fun _ => h.postOffer _ _) fun _ => ih (h.addDeclined _)
    · exact h

theorem adoptAttempt (h : reaches n s t) (g : Computer) : reaches n s (t.adoptAttempt n g) :=
  ite (fun _ => h.postOffer g _) fun _ => (h.addDeclined g).adoptionSearch 2

theorem declineAdopt (h : reaches n s t) (g : Computer) : reaches n s (t.declineAdopt n g) :=
  (h.dropOffer.addDeclined g).adoptionSearch 2

theorem declineOffer (h : reaches n s t) (o : Offer) : reaches n s (t.declineOffer n o) := by
  unfold State.declineOffer
  split
  · exact h.declineSignOn
  · exact h.declineAdopt _

theorem heldEntry (h : reaches n s t) (g : Computer) : reaches n s (t.heldEntry n g) :=
  ite (fun _ => (((h.ses _).requestMessage _).ses _).clearRequest _) fun _ => ((h.ses _).requestMessage _).ses _

theorem withdrawLost (h : reaches n s t) (g : Computer) : reaches n s (t.withdrawLost n g) := by
  unfold State.withdrawLost
  split
  · exact ite (fun _ => ite (fun _ => h.declineSignOn) fun _ => h.dropOffer) fun _ => h
  · exact h

/-! ### Sign-on -/

theorem admitCaller (h : reaches n s t) (number : Nat) (req : Option Computer) (g : Computer) :
    reaches n s (t.admitCaller n number req g) := (((h.reservations _).account _ _).ses _).signOnAttempt g 2

theorem endOfLine (h : reaches n s t) : reaches n s (t.endOfLine n) := by
  unfold State.endOfLine
  dsimp only
  split
  · exact (h.echoAll _).refuse _
  · exact (h.echoAll _).admitCaller _ _ _

theorem storeChar (h : reaches n s t) (c : Byte) : reaches n s (t.storeChar n c) :=
  ite (fun _ => (h.ses _).echo c) fun _ => h.echo _

theorem eraseChar (h : reaches n s t) : reaches n s (t.eraseChar n) :=
  ite (fun _ => h.echo _) fun _ => (h.ses _).echoAll _

theorem killLine (h : reaches n s t) : reaches n s (t.killLine n) := ((h.ses _).echoAll _).requestMessage _

theorem signOnChar (h : reaches n s t) (c : Byte) : reaches n s (t.signOnChar n c) :=
  ite (fun _ => h.storeChar c) fun _ => ite (fun _ => h.eraseChar) fun _ => ite (fun _ => h.killLine) fun _ =>
    ite (fun _ => h.endOfLine) fun _ => ite (fun _ => h.echo _) fun _ => h

end reaches

end Sys2Proof.Machine
end

