-- ==== Sys2Proof/Laws/Clearing.lean ====
section
/-! SUPPORT. What the stages of a clear leave in the line's record and in the counts: the session closing, the
withdrawal of an offer, the final message, and the end of the entry event. -/

namespace Sys2Proof.Machine.State

variable (s : State) (n m : LineNo)

variable (h : Computer) (k : Link)

/-! ### Counts -/

@[simp] theorem ses_releaseAdmission : (s.releaseAdmission n).ses m = s.ses m := by
  unfold releaseAdmission; rw [ses_modAccountOf]; rfl
@[simp] theorem unit_releaseAdmission : (s.releaseAdmission n).unit m = s.unit m := by
  unfold releaseAdmission; rw [unit_modAccountOf]; rfl
@[simp] theorem sup_releaseAdmission : (s.releaseAdmission n).sup m = s.sup m := by
  unfold releaseAdmission; rw [sup_modAccountOf]; rfl
@[simp] theorem host_releaseAdmission : (s.releaseAdmission n).host h = s.host h := by
  unfold releaseAdmission; rw [host_modAccountOf]; cases h <;> rfl
@[simp] theorem port_releaseAdmission : (s.releaseAdmission n).port k = s.port k := by
  unfold releaseAdmission; rw [port_modAccountOf]; cases k <;> rfl
@[simp] theorem serial_releaseAdmission : (s.releaseAdmission n).serial = s.serial := by
  unfold releaseAdmission; rw [serial_modAccountOf]
@[simp] theorem records_releaseAdmission : (s.releaseAdmission n).records = s.records := by
  unfold releaseAdmission; rw [records_modAccountOf]
@[simp] theorem clock_releaseAdmission : (s.releaseAdmission n).clock = s.clock := by
  unfold releaseAdmission; rw [clock_modAccountOf]
@[simp] theorem tariff_releaseAdmission : (s.releaseAdmission n).tariff = s.tariff := by
  unfold releaseAdmission; rw [tariff_modAccountOf]
@[simp] theorem messages_releaseAdmission : (s.releaseAdmission n).messages = s.messages := by
  unfold releaseAdmission; rw [messages_modAccountOf]
@[simp] theorem service_releaseAdmission : (s.releaseAdmission n).service = s.service := by
  unfold releaseAdmission; rw [service_modAccountOf]
@[simp] theorem params_releaseAdmission : (s.releaseAdmission n).params = s.params := by
  unfold releaseAdmission; rw [params_modAccountOf]
@[simp] theorem reservations_releaseAdmission : (s.releaseAdmission n).reservations = s.reservations - 1 := by
  unfold releaseAdmission; rw [reservations_modAccountOf]
@[simp] theorem ses_queueRecord (r : ChargeRecord) : (s.queueRecord r).ses m = s.ses m := by
  rfl
@[simp] theorem unit_queueRecord (r : ChargeRecord) : (s.queueRecord r).unit m = s.unit m := by
  rfl
@[simp] theorem sup_queueRecord (r : ChargeRecord) : (s.queueRecord r).sup m = s.sup m := by
  rfl
@[simp] theorem host_queueRecord (r : ChargeRecord) : (s.queueRecord r).host h = s.host h := by
  cases h <;> rfl
@[simp] theorem port_queueRecord (r : ChargeRecord) : (s.queueRecord r).port k = s.port k := by
  cases k <;> rfl
@[simp] theorem accounts_queueRecord (r : ChargeRecord) : (s.queueRecord r).accounts = s.accounts := by
  rfl
@[simp] theorem clock_queueRecord (r : ChargeRecord) : (s.queueRecord r).clock = s.clock := by
  rfl
@[simp] theorem tariff_queueRecord (r : ChargeRecord) : (s.queueRecord r).tariff = s.tariff := by
  rfl
@[simp] theorem messages_queueRecord (r : ChargeRecord) : (s.queueRecord r).messages = s.messages := by
  rfl
@[simp] theorem service_queueRecord (r : ChargeRecord) : (s.queueRecord r).service = s.service := by
  rfl
@[simp] theorem params_queueRecord (r : ChargeRecord) : (s.queueRecord r).params = s.params := by
  rfl
@[simp] theorem records_queueRecord (r : ChargeRecord) : (s.queueRecord r).records = s.records ++ [r] := rfl
@[simp] theorem serial_queueRecord (r : ChargeRecord) : (s.queueRecord r).serial = (s.serial + 1) % 65536 := rfl
@[simp] theorem reservations_queueRecord (r : ChargeRecord) :
    (s.queueRecord r).reservations = s.reservations - 1 := rfl
@[simp] theorem account?_queueRecord (r : ChargeRecord) : (s.queueRecord r).account? = s.account? := rfl

/-! ### Accounts and unit debits -/

@[simp] theorem account?_modSes (f : Session → Session) : (s.modSes n f).account? = s.account? := by
  funext a; simp [account?]
@[simp] theorem account?_modUnit (f : LineUnit → LineUnit) : (s.modUnit n f).account? = s.account? := by
  funext a; simp [account?]

@[simp] theorem accountOf_modUnit (f : LineUnit → LineUnit) : (s.modUnit n f).accountOf m = s.accountOf m := by
  simp [accountOf]

/-- A change of a record that keeps the account it names keeps the account found. -/
theorem accountOf_modSes (f : Session → Session) (h : ∀ r, (f r).account = r.account) :
    (s.modSes n f).accountOf m = s.accountOf m := by
  by_cases hm : m = n
  · subst hm; simp [accountOf, h]
  · simp [accountOf, ses_modSes_ne, hm]

/-- The billing fields that a unit debit may change. -/
theorem ses_unitDebit : ∃ d o, ((s.unitDebit n).1).ses n = { s.ses n with debited := d, overdraft := o } := by
  unfold unitDebit
  split
  · split
    · exact ⟨_, _, by dsimp only; simp; exact ⟨rfl, rfl⟩⟩
    · exact ⟨_, _, by dsimp only; simp; exact ⟨rfl, rfl⟩⟩
  · exact ⟨_, _, rfl⟩

@[simp] theorem unit_unitDebit : ((s.unitDebit n).1).unit m = s.unit m := by
  unfold unitDebit; repeat' split
  all_goals simp
@[simp] theorem sup_unitDebit : ((s.unitDebit n).1).sup m = s.sup m := by
  unfold unitDebit; repeat' split
  all_goals simp
@[simp] theorem port_unitDebit : ((s.unitDebit n).1).port k = s.port k := by
  unfold unitDebit; repeat' split
  all_goals simp
@[simp] theorem host_unitDebit : ((s.unitDebit n).1).host h = s.host h := by
  unfold unitDebit; repeat' split
  all_goals simp
@[simp] theorem records_unitDebit : ((s.unitDebit n).1).records = s.records := by
  unfold unitDebit; repeat' split
  all_goals simp
@[simp] theorem reservations_unitDebit : ((s.unitDebit n).1).reservations = s.reservations := by
  unfold unitDebit; repeat' split
  all_goals simp
@[simp] theorem serial_unitDebit : ((s.unitDebit n).1).serial = s.serial := by
  unfold unitDebit; repeat' split
  all_goals simp
@[simp] theorem clock_unitDebit : ((s.unitDebit n).1).clock = s.clock := by
  unfold unitDebit; repeat' split
  all_goals simp
@[simp] theorem params_unitDebit : ((s.unitDebit n).1).params = s.params := by
  unfold unitDebit; repeat' split
  all_goals simp
@[simp] theorem service_unitDebit : ((s.unitDebit n).1).service = s.service := by
  unfold unitDebit; repeat' split
  all_goals simp

/-- A unit debit on an account with a balance (R139). -/
theorem unitDebit_paid {e : Account} (he : s.accountOf n = some e) (hb : 0 < e.balance) :
    s.unitDebit n = ((s.modAccountOf n fun x => { x with balance := x.balance - 1 }).modSes n fun r =>
      { r with debited := satInc maxUnits r.debited }, false) := by
  simp [unitDebit, he, hb]

/-- A unit debit on an account at 0 (R139). -/
theorem unitDebit_overdrawn {e : Account} (he : s.accountOf n = some e) (hb : e.balance = 0) :
    s.unitDebit n = (s.modSes n fun r => { r with overdraft := satInc maxUnits r.overdraft }, true) := by
  simp [unitDebit, he, hb]

/-- The session closing in the line's own record (R8, step 5). -/
theorem ses_closeSession (was : LineState) (c : Cause) :
    (s.closeSession n was c).ses n =
      { s.ses n with
        f := 0, bandSecs := Vector.replicate 4 0, heldSecs := 0, debited := 0, overdraft := 0, fee := 0,
        start := none, warned := false } := by
  obtain ⟨d, o, h⟩ := s.ses_unitDebit n
  unfold closeSession endRounding resetBilling notifyCleared
  dsimp only
  split <;> split <;> simp [h]

@[simp] theorem unit_closeSession (was : LineState) (c : Cause) : (s.closeSession n was c).unit m = s.unit m := by
  unfold closeSession endRounding resetBilling notifyCleared
  dsimp only
  split <;> split <;> simp

@[simp] theorem params_closeSession (was : LineState) (c : Cause) : (s.closeSession n was c).params = s.params :=
  (reaches.refl n s).closeSession was c .params (by simp [lineParts])

/-- The withdrawal in the line's own record (R9). -/
theorem ses_withdrawOffer (was : LineState) (c : Cause) :
    (s.withdrawOffer n was c).ses n =
      { s.ses n with
        offer := none, offerTimer := if (s.ses n).offer.isSome then .stopped else (s.ses n).offerTimer } := by
  unfold withdrawOffer dropOffer
  cases h : (s.ses n).offer with
  | none => cases hr : s.ses n; simp_all
  | some o => dsimp only; split <;> split <;> simp

@[simp] theorem unit_withdrawOffer (was : LineState) (c : Cause) : (s.withdrawOffer n was c).unit m = s.unit m := by
  unfold withdrawOffer dropOffer
  split
  · dsimp only; split <;> split <;> simp
  · rfl

@[simp] theorem params_withdrawOffer (was : LineState) (c : Cause) : (s.withdrawOffer n was c).params = s.params :=
  (reaches.refl n s).withdrawOffer was c .params (by simp [lineParts])

/-- What a clear has done before the line's drain is judged (R7 to R10). -/
def beforeDrain (s : State) (n : LineNo) (c : Cause) : State :=
  let was := (s.ses n).state
  let taken := s.takeClear n c
  let closed := if was = .connected ∨ was = .held then taken.closeSession n was c else taken
  (closed.withdrawOffer n was c).finalMessage n c

theorem enterClearing_eq (c : Cause) : s.enterClearing n c = (s.beforeDrain n c).startDrain n c := rfl

theorem unit_takeClear (c : Cause) : ∃ x, (s.takeClear n c).unit n = { s.unit n with speed := .stopped, carrier := x } := by
  unfold takeClear; exact ⟨_, by simp; rfl⟩

theorem ses_takeClear (c : Cause) : (s.takeClear n c).ses n =
    { s.ses n with
      state := .clearing, cause := some c, stateTimer := .stopped, idleTimer := .stopped, graceTimer := .stopped,
      rx := [], xoffSent := false } := by
  unfold takeClear; simp

theorem ses_closed (c : Cause) (was : LineState) (t : State) :
    ∃ f bs hs d o fe st w, (if was = .connected ∨ was = .held then t.closeSession n was c else t).ses n =
      { t.ses n with f := f, bandSecs := bs, heldSecs := hs, debited := d, overdraft := o, fee := fe, start := st, warned := w } ∧
      ((was = .connected ∨ was = .held) →
        f = 0 ∧ bs = Vector.replicate 4 0 ∧ hs = 0 ∧ d = 0 ∧ o = 0 ∧ fe = 0 ∧ st = none ∧ w = false) := by
  split
  · exact ⟨_, _, _, _, _, _, _, _, by rw [ses_closeSession], by simp⟩
  · exact ⟨_, _, _, _, _, _, _, _, rfl, by intro h; contradiction⟩

theorem beforeDrain_ses (c : Cause) : 
    ∃ f bs hs d o fe st w cur ot, (s.beforeDrain n c).ses n =
      { s.ses n with
          state := .clearing, cause := some c, stateTimer := .stopped, idleTimer := .stopped,
          graceTimer := .stopped, rx := [], xoffSent := false, offer := none, offerTimer := ot,
          f := f, bandSecs := bs, heldSecs := hs, debited := d, overdraft := o, fee := fe, start := st, warned := w, cursor := cur,
          feed := match goodbyeSlot c with
            | some slot => if (s.unit n).car = true then requested (s.ses n).feed slot else (s.ses n).feed
            | none => (s.ses n).feed } ∧
      ot = (if (s.ses n).offer.isSome then .stopped else (s.ses n).offerTimer) ∧
      (((s.ses n).state = .connected ∨ (s.ses n).state = .held) →
        f = 0 ∧ bs = Vector.replicate 4 0 ∧ hs = 0 ∧ d = 0 ∧ o = 0 ∧ fe = 0 ∧ st = none ∧ w = false) := by
  obtain ⟨f, bs, hs, d, o, fe, st, w, h1, h2⟩ := ses_closed n c (s.ses n).state (s.takeClear n c)
  have hcar : ∀ t : State, t.unit n = (s.takeClear n c).unit n → (t.unit n).car = (s.unit n).car := by
    intro t ht; obtain ⟨x, hx⟩ := s.unit_takeClear n c; rw [ht, hx]
  have hu : ((if (s.ses n).state = .connected ∨ (s.ses n).state = .held then
      (s.takeClear n c).closeSession n (s.ses n).state c else s.takeClear n c).withdrawOffer n (s.ses n).state c).unit n =
      (s.takeClear n c).unit n := by
    rw [unit_withdrawOffer]; split <;> simp
  unfold beforeDrain
  dsimp only
  unfold finalMessage
  rw [hcar _ hu]
  refine ⟨f, bs, hs, d, o, fe, st, w, ?_⟩
  cases hcm : clearMessage c with
  | none =>
    have hg : goodbyeSlot c = none := by cases c <;> simp_all [clearMessage, goodbyeSlot]
    refine ⟨(s.ses n).cursor, _, ?_, rfl, h2⟩
    dsimp only
    rw [ses_withdrawOffer, h1, ses_takeClear, hg]
  | some slot =>
    have hg : goodbyeSlot c = some slot := by cases c <;> simp_all [clearMessage, goodbyeSlot, slotGoodbye, slotTimedOut]
    dsimp only
    rw [hg]
    by_cases hc : (s.unit n).car = true
    · simp only [hc, if_true, requestMessage, ses_modSes_self]
      rw [ses_withdrawOffer, h1, ses_takeClear]
      dsimp only
      refine ⟨if (s.ses n).feed.length < 3 then (if (s.ses n).feed.isEmpty then 0 else (s.ses n).cursor)
        else (s.ses n).cursor, _, ?_, rfl, h2⟩
      unfold requested
      split <;> simp
    · simp only [hc]
      refine ⟨(s.ses n).cursor, _, ?_, rfl, h2⟩
      simp only [Bool.false_eq_true, if_false]
      rw [ses_withdrawOffer, h1, ses_takeClear]

theorem beforeDrain_unit (c : Cause) : (s.beforeDrain n c).unit n = (s.takeClear n c).unit n := by
  have hf : ∀ t : State, (t.finalMessage n c).unit n = t.unit n := by
    intro t; unfold finalMessage requestMessage; split
    · split <;> simp
    · rfl
  unfold beforeDrain; dsimp only
  rw [hf, unit_withdrawOffer]
  split <;> simp

theorem beforeDrain_reaches (c : Cause) : reaches n s (s.beforeDrain n c) := by
  unfold beforeDrain; dsimp only
  have h := reaches.refl n s
  have closed : reaches n s (if (s.ses n).state = .connected ∨ (s.ses n).state = .held then
      (s.takeClear n c).closeSession n (s.ses n).state c else s.takeClear n c) :=
    reaches.ite (fun _ => (h.takeClear c).closeSession _ c) fun _ => h.takeClear c
  exact (closed.withdrawOffer _ c).finalMessage c

theorem beforeDrain_params (c : Cause) : (s.beforeDrain n c).params = s.params :=
  (s.beforeDrain_reaches n c) .params (by simp [lineParts])
end Sys2Proof.Machine.State
end

