-- ==== Sys2Proof/Laws/Rest.lean ====
section
/-! SUPPORT. What it leaves that a line hangs up, comes to rest, and is judged for the drain. -/

namespace Sys2Proof.Machine.State
variable (s : State) (n : LineNo)

theorem mem_allLines (n : LineNo) : n ∈ allLines := by fin_cases n <;> decide

theorem countLines_eq_zero (p : LineNo → Line → Bool) : s.countLines p = 0 ↔ ∀ n, p n (s.line n) = false := by
  simp [countLines, List.countP_eq_zero, mem_allLines]

theorem busy_eq_false (st : LineState) : st.busy = false ↔ st = .idle ∨ st = .outOfService := by
  cases st <;> simp [LineState.busy]

/-- The drain judgement when line n has come to rest. -/
theorem drainJudged_judgeDrained {t : State} (hp : t.portAcct = s.portAcct) (hv : t.service = s.service)
    (hn : (t.ses n).state = .idle ∨ (t.ses n).state = .outOfService) (ho : ∀ m, m ≠ n → (t.ses m).state = (s.ses m).state) :
    drainJudged n s t.judgeDrained := by
  unfold drainJudged judgeDrained
  have hc : (t.countLines (fun _ l => l.ses.state.busy) = 0) ↔
      ∀ m, m ≠ n → (s.ses m).state = .idle ∨ (s.ses m).state = .outOfService := by
    rw [countLines_eq_zero]
    constructor
    · intro h m hm; rw [← ho m hm]; exact (busy_eq_false _).1 (h m)
    · intro h m
      by_cases hm : m = n
      · subst hm; exact (busy_eq_false _).2 hn
      · exact (busy_eq_false _).2 (by have h1 : (t.line m).ses.state = (s.ses m).state := ho m hm; rw [h1]; exact h m hm)
  simp only [hc, hv]
  split
  · refine ⟨by simp, ?_⟩
    unfold postNotice pushNotice
    have : ∀ x : State, x.port .acct = x.portAcct := fun _ => rfl
    simp only [this, hp, queueFull, reachable, Link.host?, modPort]
    split <;> (try split) <;> (try split) <;> simp_all
  · exact ⟨hv, hp⟩

theorem judgeDrained_unch {t : State} {ps : List Part} (h : unchangedBut ps s t) (h1 : Part.service ∈ ps)
    (h2 : Part.port .acct ∈ ps) : unchangedBut ps s t.judgeDrained := by
  refine h.trans ?_
  unfold judgeDrained
  split
  · unfold postNotice pushNotice
    have key : ∀ v : Service, unchangedBut ps t { t with service := v } := by
      intro v p hp
      cases p with
      | port k => cases k <;> rfl
      | host g => cases g <;> rfl
      | time => exact ⟨rfl, rfl, rfl⟩
      | service => exact absurd h1 hp
      | _ => rfl
    split
    · exact key _
    · split
      · exact key _
      · split
        · exact (key _).trans (unchangedBut_modPort _ _ h2)
        · exact (key _).trans (unchangedBut_modPort _ _ h2)
  · exact unchangedBut_refl _ _

theorem guardEnd_retired : retired n s (s.guardEnd n) := by
  unfold retired guardEnd
  by_cases hd : (s.ses n).disablePending = true
  · simp only [hd, if_true, outEntry]
    refine ⟨fun _ => ?_, by simp, ?_, ?_, ?_, ?_⟩
    · simp [outRecord]
    · simp
    · simp
    · apply drainJudged_judgeDrained
      · simp [modUnit, modSes, modLine]
      · simp
      · simp [Session.reset]
      · intro m hm; simp [ses_modSes_ne, hm]
    · exact judgeDrained_unch _ ((unchangedBut_modSes _ _ (by simp)).trans (unchangedBut_modUnit _ _ (by simp))) (by simp) (by simp)
  · have hd' : (s.ses n).disablePending = false := by simpa using hd
    simp only [hd', Bool.false_eq_true, if_false, idleEntry, startRing]
    refine ⟨by simp, fun _ => ?_, ?_, ?_, ?_, ?_⟩
    · simp [idleRecord, ringStart, Ring.afresh]
      split
      · split <;> rfl
      · rfl
    · simp
    · simp
    · apply drainJudged_judgeDrained
      · simp [modUnit, modSes, modLine]
      · simp
      · simp
      · intro m hm; simp [ses_modSes_ne, hm]
    · exact judgeDrained_unch _ (((unchangedBut_modSes _ _ (by simp)).trans (unchangedBut_modUnit _ _
        (by simp))).trans (unchangedBut_modUnit _ _ (by simp))) (by simp) (by simp)

/-- The hang-up's record and Line Unit before the guard is judged. -/
theorem hangUp_hungUp : hungUp n s (s.hangUp n) := by
  refine ⟨?_, ?_⟩
  · intro h
    simp only [hangUp, h, if_false]
    refine ⟨by simp [Timer.start, h], by simp, ?_⟩
    exact (unchangedBut_modUnit _ _ (by simp)).trans (unchangedBut_modSes _ _ (by simp))
  · intro h
    simp only [hangUp, h, if_true]
    generalize hu : (s.modUnit n fun u =>
    { u with ans := false, trdy := false, carrier := .stopped, speed := .stopped, receiver := .stopped,
             transmitter := .idle, flow := none }).modSes n (fun r =>
    { r with phase := .guard, stateTimer := .start (0 * 1000) }) = g
    have hses : g.ses n = { s.ses n with phase := .guard, stateTimer := .start (0*1000) } := by rw [← hu]; simp
    have hunit : g.unit n = { s.unit n with
             ans := false, trdy := false, carrier := .stopped, speed := .stopped, receiver := .stopped,
             transmitter := .idle, flow := none } := by rw [← hu]; simp
    have hun : unchangedBut [.session n, .unit n] s g := by
      rw [← hu]; exact (unchangedBut_modUnit _ _ (by simp)).trans (unchangedBut_modSes _ _ (by simp))
    obtain ⟨h1, h2, h3, h4, h5, h6⟩ := g.guardEnd_retired n
    have hans : ((g.guardEnd n).unit n).ans = false ∧ ((g.guardEnd n).unit n).receiver = .stopped := by
      unfold guardEnd
      split
      · simp [outEntry]
      · simp [idleEntry, startRing, hunit]
    refine ⟨hans.1, hans.2, ?_, ?_, h3, h4, ?_, ?_⟩
    · intro hd; have := h1 (by rw [hses]; exact hd); rw [hses] at this; exact this
    · intro hd; have := h2 (by rw [hses]; exact hd); rw [hses] at this
      refine ⟨this.1, this.2.1, ?_⟩
      rw [this.2.2]; unfold ringStart; rw [hunit, show g.service = s.service from hun .service (by simp)]
    · unfold drainJudged at h5 ⊢
      have hs : g.service = s.service := hun .service (by simp)
      have hp : g.portAcct = s.portAcct := hun (.port .acct) (by simp)
      have hpn : (g.postNotice .acct .drained).portAcct = (s.postNotice .acct .drained).portAcct := by
        unfold postNotice pushNotice
        have : ∀ x : State, x.port .acct = x.portAcct := fun _ => rfl
        simp only [this, hp, queueFull, reachable, Link.host?, modPort]
        split <;> (try split) <;> (try split) <;> simp_all
      have ho : ∀ m, m ≠ n → g.ses m = s.ses m := fun m hm => hun (.session m) (by simp [hm])
      have : (∀ m, m ≠ n → (g.ses m).state = .idle ∨ (g.ses m).state = .outOfService) ↔
          (∀ m, m ≠ n → (s.ses m).state = .idle ∨ (s.ses m).state = .outOfService) := by
        constructor <;> intro h m hm <;> have := h m hm <;> simpa [ho m hm] using this
      rw [hs, hp, hpn] at h5
      simp only [this] at h5
      exact h5
    · exact (hun.mono (by simp +contextual)).trans h6
end Sys2Proof.Machine.State
end

