-- ==== Sys2Proof/Laws/Lines.lean ====
section
/-! SUPPORT. Work done on the lines in ascending order: an induction over the lines done so far. -/

namespace Sys2Proof.Machine.State

/-- What holds before the first line and is carried over each line not yet done holds after all. -/
theorem foldl_lines {f : State → LineNo → State} {I : List LineNo → State → Prop}
    (hstep : ∀ done n t, n ∉ done → I done t → I (done ++ [n]) (f t n)) (done todo : List LineNo) (s : State)
    (hd : (done ++ todo).Nodup) (h : I done s) : I (done ++ todo) (todo.foldl f s) := by
  induction todo generalizing done s with
  | nil => simpa using h
  | cons n rest ih =>
    have hn : n ∉ done := by
      intro hm; have := List.nodup_append.1 hd; exact this.2.2 n hm n (by simp) rfl
    have := ih (done ++ [n]) (f s n) (by simpa using hd) (hstep done n s hn h)
    simpa using this

theorem forLines_induct {f : State → LineNo → State} {s : State} {I : List LineNo → State → Prop} (h : I [] s)
    (hstep : ∀ done n t, n ∉ done → I done t → I (done ++ [n]) (f t n)) : I allLines (s.forLines f) := by
  have := foldl_lines (f := f) (I := I) hstep [] allLines s (by decide) h
  simpa [forLines] using this

/-- Every line after work that reaches each line alone: what is shown of the one line, from a state in which that line
stands as it stood and whatever is kept over all lines (`K`). -/
theorem forLines_line {f : State → LineNo → State} {s : State} {K : State → Prop} {Q : LineNo → State → State → Prop}
    (hK : K s) (keep : ∀ t n, K t → K (f t n)) (local_ : ∀ t n m, m ≠ n → (f t n).line m = t.line m)
    (hQ : ∀ t n, K t → t.line n = s.line n → Q n s (f t n))
    (stable : ∀ t u n, u.line n = t.line n → Q n s t → Q n s u) : ∀ n, Q n s (s.forLines f) := by
  have h := forLines_induct (f := f) (s := s)
    (I := fun done t => K t ∧ (∀ n, n ∉ done → t.line n = s.line n) ∧ ∀ n ∈ done, Q n s t)
    ⟨hK, fun _ _ => rfl, by simp⟩ (by
      intro done n t hn ⟨h1, h2, h3⟩
      refine ⟨keep t n h1, ?_, ?_⟩
      · intro m hm
        simp only [List.mem_append, List.mem_singleton, not_or] at hm
        rw [local_ t n m hm.2, h2 m hm.1]
      · intro m hm
        simp only [List.mem_append, List.mem_singleton] at hm
        by_cases hmn : m = n
        · subst hmn; exact hQ t m h1 (h2 m hn)
        · exact stable t _ m (local_ t n m hmn) (h3 m (hm.resolve_right hmn)))
  intro n
  exact h.2.2 n (mem_allLines n)

end Sys2Proof.Machine.State
end

