-- ==== Sys2Proof/Laws/PerInstr.lean ====
section
/-! SUPPORT. Statements per command, with one lemma for each constructor of Instr. EncodeSeals: the frame that carries a
command has a check byte that holds (R171). -/

namespace Sys2Proof.Laws

/-- A frame built with its check byte checks (R171). -/
theorem sealed_checks (a b c d e f : Byte) : (Frame.sealed a b c d e f).checks = true := by
  simp only [Frame.sealed, Frame.checks, Frame.body, beq_iff_eq]
  generalize a + b + c + d + e + f = x
  bv_omega

/-- The check of a frame found by an encoding that is one sealed frame. -/
theorem checks_of_sealed {k j : Link} {g f : Frame} (hg : g.checks = true) (h : some (j, g) = some (k, f)) :
    f.checks = true := by
  simp only [Option.some.injEq, Prod.mk.injEq] at h
  rw [← h.2]
  exact hg

namespace EncodeSeals

/-- The frame that carries the command, if one does, checks. -/
def Statement (i : Instr) : Prop := ∀ (k : Link) (f : Frame), Frame.encode i = some (k, f) → f.checks = true

theorem deviceReset : Statement .deviceReset := fun _ _ h => nomatch h
theorem exchangeStart (link : Link) : Statement (.exchangeStart link) := fun _ _ h => nomatch h
theorem checkFail (link : Link) : Statement (.checkFail link) := fun _ _ h => nomatch h
theorem shortFrame (link : Link) : Statement (.shortFrame link) := fun _ _ h => nomatch h
theorem ignoredFrame (link : Link) : Statement (.ignoredFrame link) := fun _ _ h => nomatch h
theorem orderUnknown (link : Link) (code : Byte) :
    Statement (.orderUnknown link code) := fun _ _ h => checks_of_sealed (sealed_checks ..) h
theorem nop (link : Link) : Statement (.nop link) := fun _ _ h => checks_of_sealed (sealed_checks ..) h
theorem status (link : Link) : Statement (.status link) := fun _ _ h => checks_of_sealed (sealed_checks ..) h
theorem noticeFetch (link : Link) :
    Statement (.noticeFetch link) := fun _ _ h => checks_of_sealed (sealed_checks ..) h
theorem noticeMask (link : Link) (mask : Byte) :
    Statement (.noticeMask link mask) := fun _ _ h => checks_of_sealed (sealed_checks ..) h
theorem lineRead (link : Link) (line group : Byte) :
    Statement (.lineRead link line group) := fun _ _ h => checks_of_sealed (sealed_checks ..) h
theorem clockRead (link : Link) : Statement (.clockRead link) := fun _ _ h => checks_of_sealed (sealed_checks ..) h
theorem accountSelect (link : Link) (number : Word32) :
    Statement (.accountSelect link number) := fun _ _ h => checks_of_sealed (sealed_checks ..) h
theorem accountRead (link : Link) (field : Byte) :
    Statement (.accountRead link field) := fun _ _ h => checks_of_sealed (sealed_checks ..) h
theorem accountNext (link : Link) :
    Statement (.accountNext link) := fun _ _ h => checks_of_sealed (sealed_checks ..) h
theorem answer (link : Link) (line toggle verdict : Byte) :
    Statement (.answer link line toggle verdict) := fun _ _ h => checks_of_sealed (sealed_checks ..) h
theorem rxScan (link : Link) : Statement (.rxScan link) := fun _ _ h => checks_of_sealed (sealed_checks ..) h
theorem receive (link : Link) (line : Byte) :
    Statement (.receive link line) := fun _ _ h => checks_of_sealed (sealed_checks ..) h
theorem send (link : Link) (line count c1 c2 c3 : Byte) :
    Statement (.send link line count c1 c2 c3) := fun _ _ h => checks_of_sealed (sealed_checks ..) h
theorem release (link : Link) (line : Byte) :
    Statement (.release link line) := fun _ _ h => checks_of_sealed (sealed_checks ..) h
theorem detach (link : Link) : Statement (.detach link) := fun _ _ h => checks_of_sealed (sealed_checks ..) h
theorem accountCreate (link : Link) (number : Word32) :
    Statement (.accountCreate link number) := fun _ _ h => checks_of_sealed (sealed_checks ..) h
theorem accountSet (link : Link) (field : Byte) (value : Word32) :
    Statement (.accountSet link field value) := fun _ _ h => checks_of_sealed (sealed_checks ..) h
theorem accountCredit (link : Link) (amount : Word32) :
    Statement (.accountCredit link amount) := fun _ _ h => checks_of_sealed (sealed_checks ..) h
theorem accountRemove (link : Link) :
    Statement (.accountRemove link) := fun _ _ h => checks_of_sealed (sealed_checks ..) h
theorem chargeRead (link : Link) (field : Byte) :
    Statement (.chargeRead link field) := fun _ _ h => checks_of_sealed (sealed_checks ..) h
theorem chargeTake (link : Link) : Statement (.chargeTake link) := fun _ _ h => checks_of_sealed (sealed_checks ..) h
theorem clockSet (link : Link) (minute : BitVec 16) (second : Byte) :
    Statement (.clockSet link minute second) := fun _ _ h => checks_of_sealed (sealed_checks ..) h
theorem tariffSet (link : Link) (sel : Byte) (rate : Word32) :
    Statement (.tariffSet link sel rate) := fun _ _ h => checks_of_sealed (sealed_checks ..) h
theorem bandSet (link : Link) (hour : Byte) (band : Word32) :
    Statement (.bandSet link hour band) := fun _ _ h => checks_of_sealed (sealed_checks ..) h
theorem classSet (link : Link) (sel : Byte) (value : Word32) :
    Statement (.classSet link sel value) := fun _ _ h => checks_of_sealed (sealed_checks ..) h
theorem messageWrite (link : Link) (slot start c1 c2 c3 : Byte) :
    Statement (.messageWrite link slot start c1 c2 c3) := fun _ _ h => checks_of_sealed (sealed_checks ..) h
theorem paramSet (link : Link) (code : Byte) (value : Word32) :
    Statement (.paramSet link code value) := fun _ _ h => checks_of_sealed (sealed_checks ..) h
theorem lineEnable (link : Link) (line : Byte) :
    Statement (.lineEnable link line) := fun _ _ h => checks_of_sealed (sealed_checks ..) h
theorem lineDisable (link : Link) (line : Byte) :
    Statement (.lineDisable link line) := fun _ _ h => checks_of_sealed (sealed_checks ..) h
theorem lineClear (link : Link) (line : Byte) :
    Statement (.lineClear link line) := fun _ _ h => checks_of_sealed (sealed_checks ..) h
theorem lineClass (link : Link) (line : Byte) (cls : Word32) :
    Statement (.lineClass link line cls) := fun _ _ h => checks_of_sealed (sealed_checks ..) h
theorem lineStats (link : Link) (line field : Byte) :
    Statement (.lineStats link line field) := fun _ _ h => checks_of_sealed (sealed_checks ..) h
theorem faultNext (link : Link) : Statement (.faultNext link) := fun _ _ h => checks_of_sealed (sealed_checks ..) h
theorem faultClear (link : Link) (line bits : Byte) :
    Statement (.faultClear link line bits) := fun _ _ h => checks_of_sealed (sealed_checks ..) h
theorem faultMask (link : Link) (line bits : Byte) :
    Statement (.faultMask link line bits) := fun _ _ h => checks_of_sealed (sealed_checks ..) h
theorem serviceOpen (link : Link) (sel : Byte) :
    Statement (.serviceOpen link sel) := fun _ _ h => checks_of_sealed (sealed_checks ..) h
theorem serviceDrain (link : Link) :
    Statement (.serviceDrain link) := fun _ _ h => checks_of_sealed (sealed_checks ..) h
theorem serviceClose (link : Link) :
    Statement (.serviceClose link) := fun _ _ h => checks_of_sealed (sealed_checks ..) h
theorem silenceTimerExpiry (host : Computer) : Statement (.silenceTimerExpiry host) := fun _ _ h => nomatch h
theorem offerTimerExpiry (line : LineNo) : Statement (.offerTimerExpiry line) := fun _ _ h => nomatch h
theorem holdTimerExpiry (line : LineNo) : Statement (.holdTimerExpiry line) := fun _ _ h => nomatch h
theorem rngAsserted (line : LineNo) : Statement (.rngAsserted line) := fun _ _ h => nomatch h
theorem rngDeasserted (line : LineNo) : Statement (.rngDeasserted line) := fun _ _ h => nomatch h
theorem burstStart (line : LineNo) (gap : Nat) : Statement (.burstStart line gap) := fun _ _ h => nomatch h
theorem burstEnd (line : LineNo) (onTime : Nat) : Statement (.burstEnd line onTime) := fun _ _ h => nomatch h
theorem falseRing (line : LineNo) : Statement (.falseRing line) := fun _ _ h => nomatch h
theorem rearmComplete (line : LineNo) (onTime : Nat) :
    Statement (.rearmComplete line onTime) := fun _ _ h => nomatch h
theorem gapTimerExpiry (line : LineNo) : Statement (.gapTimerExpiry line) := fun _ _ h => nomatch h
theorem carrierQualified (line : LineNo) : Statement (.carrierQualified line) := fun _ _ h => nomatch h
theorem carrierLimitExpiry (line : LineNo) : Statement (.carrierLimitExpiry line) := fun _ _ h => nomatch h
theorem carrierLost (line : LineNo) : Statement (.carrierLost line) := fun _ _ h => nomatch h
theorem speedDetectorArm (line : LineNo) : Statement (.speedDetectorArm line) := fun _ _ h => nomatch h
theorem autobaudStartBit (line : LineNo) : Statement (.autobaudStartBit line) := fun _ _ h => nomatch h
theorem wFinal (line : LineNo) (w : Nat) : Statement (.wFinal line w) := fun _ _ h => nomatch h
theorem autobaudStopBit (line : LineNo) (bits : Byte) (stop : Bool) :
    Statement (.autobaudStopBit line bits stop) := fun _ _ h => nomatch h
theorem speedWaitExpiry (line : LineNo) : Statement (.speedWaitExpiry line) := fun _ _ h => nomatch h
theorem characterReceived (line : LineNo) (bits : Byte) (stop : Bool) :
    Statement (.characterReceived line bits stop) := fun _ _ h => nomatch h
theorem transmitCharacterDone (line : LineNo) : Statement (.transmitCharacterDone line) := fun _ _ h => nomatch h
theorem messageFeedStep (line : LineNo) : Statement (.messageFeedStep line) := fun _ _ h => nomatch h
theorem idleTimerExpiry (line : LineNo) : Statement (.idleTimerExpiry line) := fun _ _ h => nomatch h
theorem signOnTimerExpiry (line : LineNo) : Statement (.signOnTimerExpiry line) := fun _ _ h => nomatch h
theorem drainComplete (line : LineNo) : Statement (.drainComplete line) := fun _ _ h => nomatch h
theorem drainLimitExpiry (line : LineNo) : Statement (.drainLimitExpiry line) := fun _ _ h => nomatch h
theorem guardTimerExpiry (line : LineNo) : Statement (.guardTimerExpiry line) := fun _ _ h => nomatch h
theorem modemLost (line : LineNo) : Statement (.modemLost line) := fun _ _ h => nomatch h
theorem settleTimerExpiry (line : LineNo) (mrdy : Bool) :
    Statement (.settleTimerExpiry line mrdy) := fun _ _ h => nomatch h
theorem secondBoundary : Statement .secondBoundary := fun _ _ h => nomatch h
theorem graceTimerExpiry (line : LineNo) : Statement (.graceTimerExpiry line) := fun _ _ h => nomatch h
theorem trafficTimerExpiry (line : LineNo) : Statement (.trafficTimerExpiry line) := fun _ _ h => nomatch h
theorem resetEnd : Statement .resetEnd := fun _ _ h => nomatch h
theorem startBitSample (line : LineNo) (mark : Bool) : Statement (.startBitSample line mark) := fun _ _ h => nomatch h
theorem returnToHunting (line : LineNo) : Statement (.returnToHunting line) := fun _ _ h => nomatch h

end EncodeSeals

end Sys2Proof.Laws
end

