-- ==== Sys2Proof/Laws/Words.lean ====
section
/-! SUPPORT. The number that a reply's four data bytes spell, for each of its forms (12.8.1). -/

namespace Sys2Proof.Machine

theorem append_toNat {m n : Nat} (a : BitVec m) (b : BitVec n) : (a ++ b).toNat = a.toNat * 2 ^ n + b.toNat := by
  rw [BitVec.toNat_append, Nat.shiftLeft_eq, Nat.mul_comm, Nat.two_pow_add_eq_or_of_lt b.isLt]

theorem bytes4_toNat (a b c d : Byte) :
    (bytes4 a b c d).toNat = a.toNat * 2 ^ 24 + b.toNat * 2 ^ 16 + c.toNat * 2 ^ 8 + d.toNat := by
  unfold bytes4
  rw [append_toNat, append_toNat, append_toNat]
  ring

theorem bytes24_toNat (a : Byte) (n : Nat) : (bytes24 a n).toNat = a.toNat * 2 ^ 24 + n % 2 ^ 24 := by
  have h := append_toNat a (BitVec.ofNat 24 n)
  show (a ++ BitVec.ofNat 24 n).toNat = _
  rw [h, BitVec.toNat_ofNat]

theorem words16_toNat (hi lo : Nat) : (words16 hi lo).toNat = hi % 2 ^ 16 * 2 ^ 16 + lo % 2 ^ 16 := by
  have h := append_toNat (BitVec.ofNat 16 hi) (BitVec.ofNat 16 lo)
  show (BitVec.ofNat 16 hi ++ BitVec.ofNat 16 lo).toNat = _
  rw [h, BitVec.toNat_ofNat, BitVec.toNat_ofNat]

end Sys2Proof.Machine
end

