-- ==== Sys2Proof/Tests/Slice0.lean ====
section
/-! SUPPORT. Tests. The WellFormed smoke; frames written out from section 12.8; for each statement with hypotheses a
concrete state and operands that meet them; and one step of each family against the manual's rules and examples. -/

set_option Elab.async false

namespace Sys2Proof.Tests

open Sys2Proof Sys2Proof.Machine

/-! ### States -/

/-- The state after a command. -/
def after (i : Instr) (s : State) : State :=
  match exec i s with
  | .next t => t
  | .fault _ => s
  | .refused _ => s

/-- The reply to an order. -/
def answerTo (i : Instr) (k : Link) (s : State) : Reply := ((after i s).port k).reply

/-- Line 3's session record and Line Unit after a command. -/
def ses3 (i : Instr) (s : State) : Session := (after i s).ses 3
def unit3 (i : Instr) (s : State) : LineUnit := (after i s).unit 3

/-- The account of the worked example of section 12.7, and one at the top of the range. -/
def acct204117 : Account := ⟨204117, .opened, 500, 100, 4, 1, ⟨true, true⟩, 15, 5⟩
def acct999999 : Account := ⟨999999, .suspended, 0, 0, 1, 0, ⟨true, true⟩, 15, 0⟩

/-- A record of line 2. -/
def rec7 : ChargeRecord where
  serial := 7
  line := 2
  account := some 204117
  cls := 1
  rate := some .b300
  firstHost := some .a
  lastHost := some .b
  adoptions := 1
  start := some ⟨600, 30⟩
  stop := none
  bandSecs := ⟨#[60, 0, 0, 5], rfl⟩
  heldSecs := 4
  fee := 2
  debited := 9
  overdraft := 0
  cause := .hostReleased

/-- A part in service: both hosts UP, the service open, two accounts, one record. -/
def part : State :=
  { State.reset with
    hostA := ⟨true, .running 5000⟩
    hostB := ⟨true, .running 5000⟩
    service := .opened
    accounts := [acct204117, acct999999]
    records := [rec7]
    serial := 8 }

/-- The part with line 3's session so. -/
def withSession (r : Session) : State := part.modSes 3 fun _ => r

/-- The part with line 3's session and Line Unit so. -/
def withLine (r : Session) (u : LineUnit) : State := (withSession r).modUnit 3 fun _ => u

/-- A line in a state, at 300 bit/s. -/
def inState (st : LineState) : Session := { Session.reset with state := st, rate := some .b300 }

/-- A CONNECTED line of host A. -/
def call : Session :=
  { inState .connected with account := some 204117, owner := some .a, firstHost := some .a }

/-- A line OFFERED to host A, and one HELD with an adoption pending at host B. -/
def offered : Session :=
  { inState .offered with
    account := some 204117
    offer := some ⟨.a, .signOn⟩
    toggle := true
    offerAttempts := 1
    tried := ⟨true, false⟩
    offerTimer := .running 9000 }
def held : Session :=
  { inState .held with
    account := some 204117
    prevOwner := some .a
    offer := some ⟨.b, .adopt⟩
    toggle := true
    stateTimer := .running 300000
    offerTimer := .running 9000 }

/-- The Line Unit of an answered line. -/
def answeredUnit : LineUnit := { LineUnit.reset with ans := true, trdy := true, car := true, mrdy := true }

/-- A Line Unit with its ring detector in a condition. -/
def ringing (c : RingCond) : LineUnit := { LineUnit.reset with trdy := true, ring := { Ring.reset with cond := c } }

/-- A part with three lines in session, whose laws all hold, and a frame waiting. -/
def working : State :=
  let lines : State := ((part.modLine 3 fun l => { l with ses := call, unit := answeredUnit }).modLine 5 fun l =>
    { l with ses := offered, unit := answeredUnit }).modLine 7 fun l => { l with ses := held, unit := answeredUnit }
  { lines with
    accounts := [{ acct204117 with active := 3 }, acct999999]
    reservations := 3
    pending := [.nop .hostA] }

/-! ### How hypotheses are met -/

/-- A link that is UP and takes frames. -/
theorem listens_of {s : State} {k : Link} (he : (s.port k).exchange = .none) (hr : (s.port k).ready = true)
    (hu : s.reachable k = true) : listens s k := by
  refine ⟨.inr ⟨he, hr⟩, fun h hk => ?_⟩
  simp only [State.reachable, hk] at hu
  exact hu

/-- The law of the outstanding offer, checked line by line. -/
def offerChecks (s : State) (r : Session) : Bool :=
  match r.offer with
  | some o =>
    (r.state == .offered && o.kind == .signOn || r.state == .held && o.kind == .adopt) && (s.host o.target).up
  | none => r.state != .offered

theorem offerLaw_of {s : State} (h : ∀ n, offerChecks s (s.ses n) = true) : offerLaw s := by
  intro n
  have hn := h n
  unfold offerChecks at hn
  unfold offerSound
  split at hn <;> simp_all

/-- The law of ownership, checked line by line. -/
def ownerChecks (s : State) (r : Session) : Bool :=
  match r.owner with
  | some h => (s.host h).up
  | none => r.state != .connected

theorem ownerLaw_of {s : State} (h : ∀ n, ownerChecks s (s.ses n) = true) : ownerLaw s := by
  intro n hc
  have hn := h n
  unfold ownerChecks at hn
  split at hn <;> simp_all

/-! ### WellFormed -/

theorem test_width_zero_refused : (Instr.wFinal 3 0).wellFormed = false := by decide
theorem test_width_256_refused : (Instr.wFinal 3 256).wellFormed = false := by decide
theorem test_width_255_allowed : (Instr.wFinal 3 255).wellFormed = true := by decide
theorem test_unknown_order_that_is_known_refused : (Instr.orderUnknown .acct 0x48).wellFormed = false := by decide
theorem test_service_open_as_drain_refused : (Instr.serviceOpen .acct 1).wellFormed = false := by decide
theorem test_service_open_as_close_refused : (Instr.serviceOpen .acct 2).wellFormed = false := by decide

/-! ### Frames from the bytes of section 12.8.4 -/

theorem test_frame_notice_mask :
    Frame.decode .hostB ⟨0x03, 0, 0x02, 0, 0, 0, 0xFA⟩ = .noticeMask .hostB 2 := by decide
theorem test_frame_send :
    Frame.decode .hostA ⟨0x13, 15, 3, 0x41, 0x42, 0x43, 0x14⟩ = .send .hostA 15 3 0x41 0x42 0x43 := by decide
theorem test_frame_account_set :
    Frame.decode .acct ⟨0x21, 2, 0x00, 0xFF, 0xFF, 0xFF, 0xDF⟩ = .accountSet .acct 2 16777215 := by decide
theorem test_frame_tariff_set :
    Frame.decode .acct ⟨0x31, 0x33, 0, 0, 0x01, 0xF4, 0xA6⟩ = .tariffSet .acct 0x33 500 := by decide
theorem test_frame_message_write :
    Frame.decode .acct ⟨0x34, 14, 0, 0x42, 0x59, 0x45, 0xDD⟩ = .messageWrite .acct 14 0 0x42 0x59 0x45 := by decide
theorem test_frame_param_set :
    Frame.decode .acct ⟨0x35, 12, 0, 0, 0, 30, 0xA0⟩ = .paramSet .acct 12 30 := by decide
theorem test_frame_line_stats :
    Frame.decode .acct ⟨0x3C, 9, 2, 0, 0, 0, 0xB8⟩ = .lineStats .acct 9 2 := by decide
theorem test_frame_fault_mask :
    Frame.decode .acct ⟨0x42, 1, 15, 0, 0, 0, 0xAD⟩ = .faultMask .acct 1 15 := by decide
theorem test_frame_service_close : Frame.decode .acct ⟨0x48, 2, 0, 0, 0, 0, 0xB5⟩ = .serviceClose .acct := by decide
theorem test_frame_account_credit :
    Frame.decode .acct ⟨0x22, 0, 0x12, 0x34, 0x56, 0x78, 0xC9⟩ = .accountCredit .acct 0x12345678 := by decide

/-! ### Hypotheses met: the step, encoding and laws -/

theorem test_step_hypotheses :
    working.pending = .nop .hostA :: [] ∧ (State.reset.pending = [] ∧ State.reset.due = []) ∧
    (∃ s : State, s.pending = [] ∧ s.due = [.silenceTimerExpiry .a]) :=
  ⟨by decide +kernel, by decide +kernel, { State.reset with hostA := ⟨true, .running 0⟩ }, by decide +kernel⟩

theorem test_decodeOfEncode_hypotheses :
    (Instr.serviceOpen .acct 3).wellFormed = true ∧
    Frame.encode (.serviceOpen .acct 3) = some (.acct, ⟨0x48, 3, 0, 0, 0, 0, 0xB4⟩) ∧
    (Instr.orderUnknown .hostA 0xFF).wellFormed = true ∧
    Frame.encode (.orderUnknown .hostA 0xFF) = some (.hostA, ⟨0xFF, 0, 0, 0, 0, 0, 0⟩) := by decide

theorem test_laws_hypotheses : lawful working ∧ ∃ t, step working = .next t := by
  refine ⟨⟨?_, offerLaw_of (by decide +kernel), ownerLaw_of (by decide +kernel), ?_, ?_, ?_, ?_, ?_, ?_, ?_, ?_, ?_⟩,
    _, rfl⟩
  · unfold fifoLaw Session.fifosSound; decide +kernel
  · unfold tableLaw; decide +kernel
  · unfold balanceLaw; decide +kernel
  · unfold activeLaw; decide +kernel
  · unfold fractionLaw; decide +kernel
  · exact ⟨rfl, by decide⟩
  · unfold reservationLaw; decide +kernel
  · exact ⟨fun h => by cases h <;> exact ⟨by decide, fun _ => rfl⟩, by decide⟩
  · unfold outputLaw; decide +kernel
  · unfold clockLaw; decide +kernel

/-! ### Hypotheses met: reset and frames -/

theorem test_reset_hypotheses : (after .deviceReset working).inReset = true ∧ working.inReset = false := by decide

theorem test_exchangeStart_hypotheses :
    (part.port .hostA).ready = true ∧ ((after .deviceReset part).port .hostA).ready = false := by decide

/-- Frames that are taken, one begun and one not; and a frame that is ignored. -/
theorem test_frames_hypotheses :
    accepts part .acct ∧ accepts (after (.exchangeStart .acct) part) .acct ∧
    ((after (.exchangeStart .acct) (after .deviceReset part)).port .acct).exchange = .ignored ∧
    Frame.encode (.nop .acct) = some (.acct, ⟨0x00, 0, 0, 0, 0, 0, 0xFF⟩) := by
  unfold accepts; decide

theorem test_goodFrame_hypotheses :
    Frame.encode (.release .hostB 15) = some (.hostB, ⟨0x14, 15, 0, 0, 0, 0, 0xDC⟩) ∧
    Link.hostB.host? = some .b ∧ accepts part .hostB ∧ Instr.release .hostB 15 ≠ .detach .hostB := by
  unfold accepts; decide

theorem test_part_listens : ∀ k, listens part k := fun k => by
  cases k <;> exact listens_of rfl rfl rfl

theorem test_refusals_hypotheses :
    (∃ f : Frame, Frame.encode (.detach .acct) = some (.acct, f) ∧ f.order.toNat = 0x15) ∧
    (∃ f : Frame, Frame.encode (.accountCreate .hostA 5) = some (.hostA, f) ∧ f.order.toNat = 0x20) ∧
    (∃ f : Frame, Frame.encode (.lineRead .acct 16 0) = some (.acct, f) ∧ f.order.toNat = 0x04 ∧ 15 < f.sel.toNat) ∧
    (∃ f : Frame, Frame.encode (.receive .hostA 16) = some (.hostA, f) ∧ f.order.toNat = 0x12 ∧ 15 < f.sel.toNat) ∧
    (∃ f : Frame, Frame.encode (.lineEnable .acct 16) = some (.acct, f) ∧ f.order.toNat = 0x38 ∧
    15 < f.sel.toNat) := by
  refine ⟨⟨_, rfl, ?_⟩, ⟨_, rfl, ?_⟩, ⟨_, rfl, ?_⟩, ⟨_, rfl, ?_⟩, ⟨_, rfl, ?_⟩⟩ <;> decide

theorem test_notices_hypotheses :
    part.portA.notices = [] ∧ (part.pushNotice .hostA (.grace 3 5)).portA.notices = .grace 3 5 :: [] ∧
    listens (part.pushNotice .hostA (.grace 3 5)) .hostA :=
  ⟨rfl, rfl, listens_of rfl rfl rfl⟩

/-- A part with a full notice queue at a host link. -/
def crowded (h : Computer) (s : State) : State :=
  s.modPort (Computer.link h) fun p => { p with notices := List.replicate 32 (.grace 3 5) }

/-- Each mask bit on its kind, a kind with no bit, a link DOWN, and a queue full, with room and with one place left. -/
theorem test_noticePosting_hypotheses :
    (masked .hostB 1 (.lowBalance 3 5) ∧ masked .hostA 2 (.grace 3 5) ∧ masked .acct 1 (.hostDown .a) ∧
      masked .acct 2 (.hostUp .b) ∧ masked .acct 4 .drained) ∧
    ¬masked .hostA 0xFF (.cleared 3 .forced) ∧ ¬masked .acct 3 .drained ∧
    (State.reset.host .a).up = false ∧ linkIsUp part .hostA ∧ linkIsUp part .acct ∧
    32 ≤ ((crowded .a part).port (Computer.link .a)).notices.length ∧ part.portA.notices.length < 32 := by
  refine ⟨?_, ?_, ?_, rfl, (test_part_listens _).2, (test_part_listens _).2, by decide, by decide⟩ <;> simp [masked]

theorem test_layouts_hypotheses :
    (999999 : Nat) < 1048576 ∧ (16777215 : Nat) < 16777216 ∧ call.account = some 204117 ∧
    Session.reset.account = none ∧
    held.offer = some ⟨.b, .adopt⟩ ∧ call.offer = none ∧ call.graceTimer = .stopped ∧
    { call with graceTimer := .running 900000 }.graceTimer = .running 900000 := by decide

theorem test_lineRead_hypotheses :
    (3 : Byte).toNat = (3 : LineNo).val ∧ ((withSession call).ses 3).group 9 = some 0 ∧ 9 < (10 : Byte).toNat := by
  decide

/-! ### Hypotheses met: accounts -/

theorem test_part_tableLaw : tableLaw part := by unfold tableLaw; decide

theorem test_accountSelect_hypotheses :
    999999 < (1000000 : Word32).toNat ∧
    ((999999 : Word32).toNat ≤ 999999 ∧ ∃ e ∈ part.accounts, e.number = (999999 : Word32).toNat) ∧
    ((0 : Word32).toNat ≤ 999999 ∧ ∀ e ∈ part.accounts, e.number ≠ (0 : Word32).toNat) := by decide

/-- The part with each cursor on an account. -/
def pointed : State := (part.setCursor .acct (some 204117)).setCursor .hostA (some 204117)

theorem test_pointed_listens : listens pointed .acct ∧ tableLaw pointed :=
  ⟨listens_of rfl rfl rfl, test_part_tableLaw⟩

theorem test_accountRead_hypotheses :
    8 < (9 : Byte).toNat ∧ (8 : Byte).toNat ≤ 8 ∧ (part.port .acct).cursor = none ∧
    acct204117 ∈ pointed.accounts ∧ (pointed.port .acct).cursor = some acct204117.number := by decide

/-- The lowest entry from an empty cursor, the one above a cursor, and none above the last. -/
theorem test_accountNext_hypotheses :
    (acct204117 ∈ part.accounts ∧ part.portAcct.cursor = none ∧ ∀ x ∈ part.accounts, 204117 ≤ x.number) ∧
    (acct999999 ∈ pointed.accounts ∧ 204117 < acct999999.number ∧
      ∀ x ∈ pointed.accounts, 204117 < x.number → acct999999.number ≤ x.number) ∧
    ∀ e ∈ part.accounts, e.number ≤ 999999 := by decide

/-- A table of 128 entries. -/
def fullTable : State := { part with accounts := (List.range 128).map Account.fresh }

theorem test_accountCreate_hypotheses :
    (∀ e ∈ part.accounts, e.number ≠ (999998 : Word32).toNat) ∧ part.accounts.length < 128 ∧
    fullTable.accounts.length = 128 ∧ (∀ e ∈ fullTable.accounts, e.number ≠ (128 : Word32).toNat) ∧
    tableLaw fullTable ∧ listens fullTable .acct :=
  ⟨by decide, by decide, by decide +kernel, by decide +kernel, by unfold tableLaw; decide +kernel,
    listens_of rfl rfl rfl⟩

theorem test_accountSet_hypotheses :
    refusedField 5 0 ∧ refusedField 9 0 ∧ refusedField 1 2 ∧ refusedField 6 0 ∧ refusedField 6 4 ∧ refusedField 7 16 ∧
    ¬refusedField 1 1 ∧ ¬refusedField 2 20000000 ∧ ¬refusedField 6 3 ∧ ¬refusedField 7 15 ∧ ¬refusedField 8 99 ∧
    acct204117 ∈ pointed.accounts ∧ pointed.portAcct.cursor = some acct204117.number ∧
    part.portAcct.cursor = none := by
  refine ⟨?_, ?_, ?_, ?_, ?_, ?_, ?_, ?_, ?_, ?_, ?_, by decide, rfl, rfl⟩ <;> simp [refusedField]

theorem test_accountRemove_hypotheses :
    acct204117 ∈ pointed.accounts ∧ 0 < acct204117.active ∧
    (acct999999 ∈ (part.setCursor .acct (some 999999)).accounts ∧ acct999999.active = 0 ∧
      (part.setCursor .acct (some 999999)).portAcct.cursor = some acct999999.number) := by decide

/-! ### Hypotheses met: records, clock, tariff, messages and parameters -/

theorem test_charge_hypotheses :
    18 < (19 : Byte).toNat ∧ { part with records := [] }.records = [] ∧ (18 : Byte).toNat ≤ 18 ∧
    part.records = rec7 :: [] ∧ rec7.field 18 = some 2 ∧ rec7.field 8 = some 0x0102581E := by decide

theorem test_clockSet_hypotheses :
    10079 < (10080 : BitVec 16).toNat ∧ 59 < (60 : Byte).toNat ∧
    (10079 : BitVec 16).toNat ≤ 10079 ∧ (59 : Byte).toNat ≤ 59 := by decide

theorem test_tariff_hypotheses :
    3 < (0x40 : Byte).toNat / 16 ∧ 3 < (0x04 : Byte).toNat % 16 ∧ 65535 < (65536 : Word32).toNat ∧
    (0x33 : Byte).toNat = 16 * (3 : Fin 4).val + (3 : Fin 4).val ∧ (65535 : Word32).toNat ≤ 65535 ∧
    167 < (168 : Byte).toNat ∧ 3 < (4 : Word32).toNat ∧ (167 : Byte).toNat < 168 ∧
    (3 : Word32).toNat = (3 : Fin 4).val := by decide

theorem test_class_hypotheses :
    (0x30 : Byte).toNat = 16 * (3 : Fin 4).val ∧ (31 : Word32).toNat ≤ 31 ∧ 31 < (32 : Word32).toNat ∧
    (0x31 : Byte).toNat = 16 * (3 : Fin 4).val + 1 ∧
    [Format.even7, .odd7, .ignore7, .none8][(3 : Word32).toNat]? = some .none8 ∧ 3 < (4 : Word32).toNat ∧
    (0x32 : Byte).toNat = 16 * (3 : Fin 4).val + 2 ∧ (1 : Word32).toNat ≤ 1 ∧ 1 < (2 : Word32).toNat ∧
    (0x33 : Byte).toNat = 16 * (3 : Fin 4).val + 3 ∧ (255 : Word32).toNat ≤ 255 ∧ 255 < (256 : Word32).toNat ∧
    3 < (0x34 : Byte).toNat % 16 ∧ 3 < (0x40 : Byte).toNat / 16 := by decide

/-- The last slot, the last position, and characters up to a 0 or beyond the end. -/
theorem test_message_hypotheses :
    15 < (16 : Byte).toNat ∧ 63 < (64 : Byte).toNat ∧ (15 : Byte).toNat = (15 : Fin 16).val ∧ (63 : Byte).toNat ≤ 63 ∧
    (([0x41, 0x42, 0x43] : List Byte).take (64 - 63)).takeWhile (fun c => c ≠ 0) = [0x41] ∧
    (([0x41, 0, 0x43] : List Byte).take (64 - 0)).takeWhile (fun c => c ≠ 0) = [0x41] := by decide

theorem test_param_hypotheses :
    17 < (18 : Byte).toNat ∧ paramRanges[(17 : Byte).toNat]? = some (0, 3) ∧
    paramRanges[(0 : Byte).toNat]? = some (1, 8) ∧
    max 1 (min (0 : Word32).toNat 8) = 1 := by decide

/-! ### Hypotheses met: supervision of lines -/

/-- Line 3 with NO_CARRIER raised, line 9 with MODEM_LOST raised. -/
def faulty : State := raiseFault (raiseFault part 3 .noCarrier) 9 .modemLost

theorem test_supervision_hypotheses :
    (3 : Word32).toNat = (3 : Fin 4).val ∧ 3 < (4 : Word32).toNat ∧ 3 < (4 : Byte).toNat ∧
    ([0, 0, 0, 0] : List Nat)[(3 : Byte).toNat]? = some 0 ∧
    (∀ n : LineNo, (part.sup n).faults = 0) ∧
    (faulty.sup 9).faults.getLsbD 0 = true ∧ (faulty.sup 9).masks.getLsbD 0 = false ∧
    (∀ m : LineNo, (faulty.sup m).faults.getLsbD 0 = true → 9 ≤ m) ∧ listens faulty .acct :=
  ⟨by decide, by decide, by decide, by decide, by decide +kernel, by decide, by decide, by decide +kernel,
    listens_of rfl rfl rfl⟩

/-- An OUT_OF_SERVICE line that is settling. -/
def settling : Session := { Session.reset with stateTimer := .running 0 }

theorem test_lineEnable_hypotheses :
    ((withSession (inState .idle)).ses 3).state ≠ .outOfService ∧
    ((withSession .reset).ses 3).state = .outOfService ∧ ((withSession .reset).ses 3).stateTimer = .stopped ∧
    ((withSession .reset).sup 3).faults = 0 ∧ ((withSession settling).ses 3).stateTimer = .running 0 ∧
    ((raiseFault (withSession .reset) 3 .modemAbsent).sup 3).faults.getLsbD 1 = true := by decide

theorem test_quietLines_hypotheses : ∀ r : Session, listens (withSession r) .acct ∧ ((withSession r).ses 3) = r :=
  fun _ => ⟨listens_of rfl rfl rfl, rfl⟩

theorem test_service_hypotheses :
    2 < (3 : Byte).toNat ∧ part.service = .opened ∧ State.reset.service = .closed ∧ (∀ n, (part.ses n).state = .outOfService) ∧
    ((withSession call).ses 3).state ≠ .outOfService ∧ listens State.reset .acct ∧
    { part with service := .draining }.service = .draining :=
  ⟨by decide, rfl, rfl, by decide +kernel, by decide, ⟨.inr ⟨rfl, rfl⟩, fun h e => by cases h <;> cases e⟩, rfl⟩

/-! ### Hypotheses met: clearing -/

theorem test_clearCommands_hypotheses :
    sendsClear (withSession call) 3 (.release .hostA 3) .hostReleased ∧
    sendsClear (withSession call) 3 (.lineClear .acct 3) .forced ∧
    sendsClear (withSession call) 3 (.lineDisable .acct 3) .forced ∧
    sendsClear (withLine call { answeredUnit with carrier := .watching 400 true false }) 3 (.carrierLost 3)
      .callerDropped ∧
    sendsClear (withLine call { answeredUnit with modem := .watching 100 }) 3 (.modemLost 3) .lineFault ∧
    sendsClear (withSession held) 3 (.holdTimerExpiry 3) .hostLost ∧
    sendsClear (withSession { call with idleTimer := .running 0 }) 3 (.idleTimerExpiry 3) .idleTimeout ∧
    sendsClear (withSession { call with graceTimer := .running 0 }) 3 (.graceTimerExpiry 3) .creditExhausted ∧
    sendsClear (withSession { inState .signOn with stateTimer := .running 0 }) 3 (.signOnTimerExpiry 3)
      .signonTimeout ∧
    sendsClear (withSession { inState .answering with stateTimer := .running 0 }) 3 (.carrierLimitExpiry 3)
      .noCarrier :=
  ⟨⟨listens_of rfl rfl rfl, rfl, rfl, .a, rfl, rfl, rfl⟩,
    ⟨rfl, listens_of rfl rfl rfl, rfl, rfl⟩, ⟨rfl, listens_of rfl rfl rfl, rfl, rfl⟩,
    ⟨rfl, rfl, by decide, 400, true, rfl⟩, ⟨rfl, rfl, 100, rfl⟩, ⟨rfl, rfl, rfl, 300000, rfl⟩, ⟨rfl, rfl, 0, rfl⟩,
    ⟨rfl, rfl, 0, rfl⟩, ⟨rfl, rfl, rfl, 0, rfl⟩, ⟨rfl, rfl, rfl, 0, rfl⟩⟩

theorem test_clearing_hypotheses :
    ((withSession call).ses 3).state = .connected ∧ (withSession call).accountOf 3 = some acct204117 ∧
    ((withSession held).ses 3).state = .held ∧ (withSession held).accountOf 3 = some acct204117 ∧
    (offered.state = .offered ∧ (withSession offered).accountOf 3 = some acct204117) ∧
    ((inState .signOn).state.hasSession = false ∧ (inState .signOn).offer = none) ∧
    (call.tx = [] ∧ call.feed = [] ∧ part.params.guardTime ≠ 0) ∧
    { part with params := { Params.reset with guardTime := 0 } }.params.guardTime = 0 ∧
    goodbyeSlot .hostReleased = some 14 := by decide

/-- A line in phase DRAIN, watched for carrier, and one in its guard time. -/
def draining : Session := { inState .clearing with phase := .drain, stateTimer := .running 0 }
def guarded : Session := { inState .clearing with phase := .guard, stateTimer := .running 0 }

theorem test_drain_hypotheses :
    draining.state = .clearing ∧ draining.phase = .drain ∧ draining.feed = [] ∧ draining.tx = [] ∧
    draining.stateTimer = .running 0 ∧
    ((withLine draining { answeredUnit with carrier := .watching 1 false false }).unit 3).carrier =
      .watching 1 false false ∧
    guarded.state = .clearing ∧ guarded.phase = .guard ∧ guarded.stateTimer = .running 0 := by decide

/-- A watched line in each state MODEM_LOST meets, a watch that has raised and one stopped, and a carrier limit. -/
theorem test_modemLoss_hypotheses :
    (∀ r, ((withLine r { answeredUnit with modem := .watching 100 }).unit 3).modem = .watching 100) ∧
    ((inState .idle).state = .idle ∧ (inState .ringing).state = .ringing ∧ call.state.active = true) ∧
    (draining.phase = .drain ∧ guarded.phase = .guard ∧ part.service ≠ .draining ∧ part.params.guardTime ≠ 0) ∧
    (∀ m : LineNo, (part.ses m).state = .outOfService) ∧
    { answeredUnit with modem := .raised }.modem = .raised ∧ answeredUnit.modem = .stopped ∧
    { inState .answering with stateTimer := .running 0 }.stateTimer = .running 0 :=
  ⟨fun _ => rfl, by decide, by decide, by decide +kernel, by decide, by decide, by decide⟩

/-! ### Hypotheses met: offers and links -/

/-- The part with line 3 OFFERED, its account holding 1 CU against a fee of 3, with so many grace minutes. -/
def poor (grace : Nat) : State :=
  { withSession offered with
    accounts := [{ acct204117 with balance := 1, grace := grace }]
    tariff := { Tariff.reset with classes := Tariff.reset.classes.set 0 { ClassSettings.reset with fee := 3 } } }

theorem test_answer_hypotheses :
    1 < (2 : Byte).toNat ∧ (3 : Byte) ≠ 1 ∧ (3 : Byte) ≠ 2 ∧ (1 : Byte).toNat ≤ 1 ∧
    (∀ kind, call.offer ≠ some ⟨.a, kind⟩) ∧
    (offered.offer = some ⟨.a, .signOn⟩ ∧ (0 : Byte) ≠ (if offered.toggle then 1 else 0)) ∧
    ((1 : Byte) = (if offered.toggle then 1 else 0) ∧ (withSession offered).accountOf 3 = some acct204117 ∧
      (withSession offered).tariff.classes[offered.cls.val].fee = 0 ∧ ¬acct204117.balance < 0 ∧
      offered.debited + 0 ≤ 16777215 ∧ offered.overdraft + 0 ≤ 16777215) ∧
    (∀ grace, (poor grace).accountOf 3 = some { acct204117 with balance := 1, grace := grace }) ∧
    ((poor 5).tariff.classes[offered.cls.val].fee = 3 ∧ 1 < 3 ∧ offered.graceTimer = .stopped ∧ offered.f < 30000) ∧
    (held.offer = some ⟨.b, .adopt⟩ ∧ (1 : Byte) = (if held.toggle then 1 else 0)) :=
  ⟨by decide, by decide, by decide, by decide, fun _ => nofun, by decide, by decide, fun _ => rfl, by decide,
    by decide⟩

/-- The part with line 3 OFFERED to host A and host B's link DOWN. -/
def waitingForB : State := (withSession offered).modHost .b fun _ => ⟨false, .stopped⟩

theorem test_decline_hypotheses :
    declines (withSession offered) 3 ⟨.a, .signOn⟩ (.answer .hostA 3 1 2) ∧
    declines (withSession offered) 3 ⟨.a, .signOn⟩ (.offerTimerExpiry 3) ∧
    declines (withSession held) 3 ⟨.b, .adopt⟩ (.offerTimerExpiry 3) ∧
    (offered.requested = none ∧ offered.offerAttempts ≤ 1 ∧ offered.tried.has .a = true ∧
      offered.tried.has .b = false) ∧
    canTake (withSession offered) acct204117 .b ∧ 2 ≤ { offered with offerAttempts := 2 }.offerAttempts ∧
    ({ offered with requested := some .b }.requested = some .b ∧ { offered with requested := some .a }.requested =
      some .a ∧ { offered with tried := ⟨true, true⟩ }.tried.has .b = true) ∧
    (({ acct204117 with hosts := ⟨true, false⟩ } : Account).hosts.has .b = false ∧ (waitingForB.host .b).up = false ∧
      32 ≤ ((crowded .b (withSession offered)).port (Computer.link .b)).notices.length) ∧
    (held.declined.has .a = false ∧ canTake (withSession held) acct204117 .a) ∧
    (acct204117.hosts.has .a = true ∧ ((crowded .a (withSession held)).host .a).up = true ∧
      32 ≤ ((crowded .a (withSession held)).port (Computer.link .a)).notices.length) ∧
    { held with declined := ⟨true, false⟩ }.declined.has .a = true := by
  refine ⟨⟨rfl, listens_of rfl rfl rfl, rfl, rfl, rfl⟩, ⟨rfl, 9000, rfl⟩, ⟨rfl, 9000, rfl⟩, ?_⟩
  unfold canTake
  decide

theorem test_hostDown_hypotheses :
    takesDown (withSession call) .a (.detach .hostA) ∧ takesDown (withSession call) .a (.silenceTimerExpiry .a) ∧
    (call.state = .connected ∧ call.owner = some .a ∧ (withSession call).params.holdLimit ≠ 0) ∧
    (offered.state ≠ .held ∧ ¬(offered.state = .connected ∧ offered.owner = some .b) ∧
      ∀ kind, offered.offer ≠ some ⟨.b, kind⟩) ∧
    (withSession call).service ≠ .draining :=
  ⟨⟨rfl, listens_of rfl rfl rfl⟩, ⟨rfl, 5000, rfl⟩, by decide, ⟨by decide, by decide, fun _ => nofun⟩, by decide⟩

/-- Host B's link DOWN, with a HELD line that awaits it. -/
def waiting : State := (withSession { held with offer := none }).modHost .b fun _ => ⟨false, .stopped⟩

theorem test_hostUp_hypotheses :
    accepts waiting .hostB ∧ (waiting.host .b).up = false ∧ (waiting.port .hostB).notices = [] ∧
    awaits waiting .b 3 = true ∧ awaits waiting .b 4 = false := by
  unfold accepts; decide

/-! ### Hypotheses met: relay -/

/-- A call with characters received: 19 with XOFF sent, whose removal of three reaches the low-water mark. -/
def full : Session := { call with rx := List.replicate 19 0x41, xoffSent := true }

theorem test_receive_hypotheses :
    (full.state = .connected ∧ full.owner = some .a ∧ full.rx ≠ []) ∧
    ((full.rx.drop 3).length ≤ 16 ∧ full.xoffSent = true) ∧
    16 < ({ call with rx := List.replicate 20 0x41 }.rx.drop 3).length ∧ call.rx = [] ∧
    ¬(held.state = .connected ∧ held.owner = some .a) ∧
    ((withSession full).unit 3).transmitter = .idle ∧ full.rate ≠ none := by decide

/-- A transmitter that is sending. -/
def sendingUnit : LineUnit := { answeredUnit with transmitter := .sending 0x41 .even7 0 }

theorem test_send_hypotheses :
    (0 : Byte).toNat = 0 ∧ 3 < (4 : Byte).toNat ∧ 1 ≤ (1 : Byte).toNat ∧ (3 : Byte).toNat ≤ 3 ∧
    ((withLine call sendingUnit).unit 3).transmitter ≠ .idle ∧
    (answeredUnit.transmitter = .idle ∧ answeredUnit.flow = none ∧ call.tx = [] ∧ call.rate ≠ none ∧
      call.feed = []) ∧
    ({ call with tx := List.replicate 62 0x41 }.feed = [] ∧
    min 3 (64 - (List.replicate 62 (0x41 : Byte)).length) = 2) ∧
    { call with feed := [9] }.feed ≠ [] := by decide

/-! ### Hypotheses met: ringing, speed and characters -/

theorem test_ring_hypotheses :
    (∀ c, hears (withLine (inState .ringing) (ringing c)) 3 ∧
      ((withLine (inState .ringing) (ringing c)).unit 3).ring.cond = c) ∧
    hears (withLine (inState .idle) (ringing .armed)) 3 ∧ max 2500 Params.reset.ringMinOn ≤ Params.reset.ringMaxOn ∧
    2500 ≤ Params.reset.ringMaxOn ∧ Params.reset.ringMaxOn < 2501 ∧ 1 < Params.reset.answerAfter ∧ Params.reset.answerAfter ≤ 1 + 1 ∧
    { inState .ringing with stateTimer := .running 0 }.stateTimer = .running 0 :=
  ⟨fun _ => ⟨⟨.inr rfl, rfl⟩, rfl⟩, ⟨.inl rfl, rfl⟩, by decide, by decide, by decide, by decide, by decide, rfl⟩

theorem test_speed_hypotheses :
    ((withLine (inState .answering) { answeredUnit with carrier := .qualifying 400 true }).unit 3).carrier =
      .qualifying 400 true ∧
    ((Rate.b1200, 14, 18) ∈ rateWindows ∧ part.tariff.classes[0].rates.getLsbD Rate.b1200.bit = true) ∧
    (∀ r lo hi, (r, lo, hi) ∈ rateWindows → lo ≤ 13 → 13 ≤ hi → False) ∧
    (∀ r lo hi, (r, lo, hi) ∈ rateWindows → lo ≤ 255 → 255 ≤ hi → False) ∧
    (Format.even7.parityOk 0x8D = true ∧ (0x8D : Byte) &&& 127 = 13) ∧ Format.even7.parityOk 0x0D = false ∧
    Params.reset.speedAttempts ≤ min (2 + 1) 5 ∧ min (1 + 1) 5 < Params.reset.speedAttempts := by
  refine ⟨by decide, by decide, ?_, ?_, by decide, by decide, by decide, by decide⟩ <;>
    · intro r lo hi h
      simp only [rateWindows, List.mem_cons, Prod.mk.injEq, List.not_mem_nil, or_false] at h
      omega

/-- A receiver at a stop bit. -/
def hearing (f : Format) : LineUnit := { sendingUnit with receiver := .assembling 0 f 0 none }

theorem test_receiver_hypotheses :
    (inState .signOn).rate = some .b300 ∧ { answeredUnit with receiver := .edge 0 .even7 }.receiver = .edge 0 .even7 ∧
    { answeredUnit with receiver := .waitingForMark }.receiver = .waitingForMark ∧
    (hearing .even7).receiver = .assembling 0 .even7 0 none ∧ Format.even7.parityOk 0x41 = true ∧
    Format.even7.parityOk 0xC1 = false ∧ offered.state ∈ [.signOn, .offered, .connected, .held] ∧
    draining.state = .clearing ∧
    64 ≤ ({ call with rx := List.replicate 64 0x41 } : Session).rx.length ∧
    47 ≤ ({ call with rx := List.replicate 47 0x41 } : Session).rx.length ∧
    ({ call with rx := List.replicate 47 0x41 } : Session).rx.length < 64 := by decide

theorem test_signOn_hypotheses :
    typed (withLine (inState .signOn) (hearing .none8)) 3 0x30 0x30 ∧ (0x30 : Byte) ≠ 13 ∧
    typed (withLine (inState .signOn) (hearing .even7)) 3 0x8D 13 ∧ (inState .signOn).tx.length ≤ 64 :=
  ⟨⟨rfl, by decide, 0, .none8, 0, none, rfl, rfl, rfl⟩, by decide,
    ⟨rfl, by decide, 0, .even7, 0, none, rfl, rfl, rfl⟩, by decide⟩

/-- The sign-on of the worked example of section 12.7, and its form with a host. -/
theorem test_spells_hypotheses :
    spells [0x32, 0x30, 0x34, 0x31, 0x31, 0x37] 204117 none ∧
    spells [0x39, 0x39, 0x39, 0x39, 0x39, 0x39, 0x2C, 0x62] 999999 (some .b) ∧
    ∀ number req, ¬spells [0x31] number req := by
  refine ⟨⟨2, 0, 4, 1, 1, 7, by decide, by decide, by decide, by decide, by decide, by decide, rfl, [], rfl,
    .inl ⟨rfl, rfl⟩⟩, ⟨9, 9, 9, 9, 9, 9, by decide, by decide, by decide, by decide, by decide, by decide, rfl,
    [44, 98], rfl, .inr (.inr ⟨.inr rfl, rfl⟩)⟩, ?_⟩
  rintro number req ⟨d1, d2, d3, d4, d5, d6, -, -, -, -, -, -, -, rest, h, -⟩
  simp at h

/-- The seven outcomes of an evaluation, each for some account or state of the part. -/
theorem test_evaluation_hypotheses :
    part.account? 1 = none ∧ (part.account? 999999 = some acct999999 ∧ acct999999.state = .suspended) ∧
    { acct204117 with classes := 14 }.classes.getLsbD 0 = false ∧ { acct204117 with balance := 0 }.balance = 0 ∧
    { acct204117 with active := 4 }.limit ≤ 4 ∧
    ((State.reset.host .a).up = false ∧ (State.reset.host .b).up = false) ∧
    32 ≤ { part with reservations := 31 }.records.length + { part with reservations := 31 }.reservations ∧
    (part.account? 204117 = some acct204117 ∧ acct204117.state = .opened ∧ acct204117.classes.getLsbD 0 = true ∧
      part.tariff.classes[0].fee ≤ acct204117.balance ∧ 0 < acct204117.balance ∧
      acct204117.active < acct204117.limit ∧ canTake part acct204117 .a ∧
      part.records.length + part.reservations < 32 ∧ part.load 3 .a ≤ part.load 3 .b) ∧
    part.load 5 .b = part.load 5 .a ∧ (withSession call).load 5 .b < (withSession call).load 5 .a ∧
    (32 ≤ ((crowded .a part).port (Computer.link .a)).notices.length ∧ canTake (crowded .a part) acct204117 .b ∧
      (crowded .a part).load 3 .a ≤ (crowded .a part).load 3 .b) ∧
    (crowded .a (crowded .b part)).portA.notices.length = 32 ∧ (crowded .a (crowded .b part)).portB.notices.length = 32 := by
  unfold canTake; decide +kernel

theorem test_transmitter_hypotheses :
    sendingUnit.transmitter = .sending 0x41 .even7 0 ∧ call.rate ≠ none ∧
    call.state ∈ [.signOn, .offered, .connected, .held] ∧ draining.phase = .drain ∧
    { sendingUnit with flow := some 19 }.flow = some 19 ∧ sendingUnit.flow = none ∧
    { call with tx := [1, 2] }.tx = 1 :: [2] ∧ { call with feed := [9] }.feed = 9 :: [] ∧
    part.messages[(9 : Fin 16).val].length ≤ call.cursor ∧
    (call.cursor < 64 ∧ call.cursor < ({ Slot.reset with length := 1 } : Slot).length) ∧
    { Supervised.reset with traffic := .running 0 }.traffic = .running 0 := by decide

/-! ### Hypotheses met: charging -/

theorem test_unit_hypotheses :
    (∃ u clear, (withSession call).chargeUnit 3 = (u, clear)) ∧ (withSession call).accountOf 3 = some acct204117 ∧
    (call.owner = some .a ∧ 0 < acct204117.balance ∧ acct999999.balance = 0 ∧ acct999999.grace = 0) ∧
    (withSession { call with account := some 999999 }).accountOf 3 = some acct999999 ∧
    tableLaw (withSession call) := by
  refine ⟨⟨_, _, rfl⟩, by decide, by decide, by decide, ?_⟩
  unfold tableLaw; decide

/-- The last second of the week, in a part whose one account has grace. -/
def weekEnd : State :=
  { withSession call with
    clock := ⟨true, 10079, 59, 999⟩
    accounts := [acct204117] }

/-- The same second at a rate of one unit a second, lines 3 and 4 on an account of 1 CU with so many grace minutes. -/
def lastUnit (grace : Nat) : State :=
  { weekEnd.modSes 4 fun _ => call with
    accounts := [{ acct204117 with balance := 1, grace := grace }]
    tariff := { Tariff.reset with rates := Tariff.reset.rates.set 0 60000 } }

theorem test_second_hypotheses :
    weekEnd.inReset = false ∧ clockLaw weekEnd ∧ (∀ e ∈ weekEnd.accounts, 0 < e.grace) ∧
    (weekEnd.account? 204117 = some acct204117 ∧ unitsBelow (lastUnit 0) 0 204117 16 = 2 ∧
      unitsBelow (lastUnit 0) 0 204117 3 = 0 ∧ unitsBelow (lastUnit 0) 0 204117 4 = 1) ∧
    ((lastUnit 0).accountOf 4 = some { acct204117 with balance := 1, grace := 0 } ∧
      (lastUnit 0).tariff.rates[4 * 0 + call.cls.val]? = some 60000 ∧ (call.f + 60000) / 60000 = 1 ∧ 1 - 1 < 1 ∧
      call.graceTimer = .stopped ∧ call.debited + 1 ≤ 16777215 ∧ call.overdraft + 1 + 1 ≤ 16777215) ∧
    (weekEnd.tariff.bands[weekEnd.clock.minute / 60]?.map (·.val)).getD 0 = 0 ∧
    (weekEnd.ses 3).state = .connected ∧ weekEnd.tariff.rates[4 * 0 + call.cls.val]? = some 0 ∧
    (weekEnd.accountOf 3).isSome = true ∧ ((withSession held).ses 3).state = .held := by
  unfold clockLaw; decide +kernel

/-! ### One step against the manual: links (section 12.7) -/

/-- Line 3 OFFERED to A with toggle 1, its OFFER on A's queue. -/
def offeredToA : State := (withLine offered answeredUnit).pushNotice .hostA (.offer 3 true 204117)

theorem test_noticeFetch_gives_the_offer :
    answerTo (.noticeFetch .hostA) .hostA offeredToA = ⟨.ok, 0x13831D55⟩ ∧
    ((after (.noticeFetch .hostA) offeredToA).portA).notices = [] := by decide +kernel
theorem test_answer_connects :
    (ses3 (.answer .hostA 3 1 1) offeredToA).state = .connected ∧
    (ses3 (.answer .hostA 3 1 1) offeredToA).feed = [9] := by decide +kernel
theorem test_shortFrame_keeps_reply :
    ((after (.shortFrame .hostA) (after (.nop .hostA) part)).portA).reply = ⟨.ok, 0⟩ := by decide +kernel
theorem test_checkFail_leaves_the_silence_timer :
    ((after (.checkFail .hostA) part).host .a).silence = .running 5000 ∧
    answerTo (.checkFail .hostA) .hostA part = ⟨.checkFail, 0⟩ := by decide +kernel
theorem test_nop_restarts_the_silence_timer :
    ((after (.nop .hostA) part).host .a).silence = .running 10000 := by decide +kernel
theorem test_receive_gives_two :
    answerTo (.receive .hostA 3) .hostA (withSession { call with rx := [0x61, 0x62] }) = ⟨.ok, 0x02616200⟩ := by
  decide +kernel
theorem test_exchangeStart_drives_the_reply :
    ((after (.exchangeStart .hostA) (after (.receive .hostA 3) (withSession { call with rx := [0x61, 0x62] }))).portA).outbound =
      [0x12, 0x01, 0x02, 0x61, 0x62, 0x00, 0x27] := by decide +kernel
theorem test_ignoredFrame_drives_ones :
    ((after (.ignoredFrame .acct) (after .deviceReset part)).portAcct).outbound = List.replicate 7 0xFF := by
  decide +kernel
theorem test_order_in_an_ignored_frame_is_lost :
    (after (.accountCreate .acct 5) (after (.exchangeStart .acct) (after .deviceReset part))).accounts = [] := by
  decide +kernel
theorem test_status_counts :
    answerTo (.status .acct) .acct { withSession call with reservations := 1 } =
      ⟨.ok, 0x00010101⟩ := by decide +kernel
theorem test_noticeMask_holds_three_bits :
    answerTo (.noticeMask .acct 0xFF) .acct part = ⟨.ok, 0x07000000⟩ ∧
    answerTo (.noticeMask .hostA 0xFF) .hostA part = ⟨.ok, 0x03000000⟩ := by decide +kernel
theorem test_orderUnknown_badOrder : answerTo (.orderUnknown .acct 6) .acct part = ⟨.badOrder, 0⟩ := by decide +kernel

/-! ### Reset (sections 0.6.8 and 12) -/

theorem test_deviceReset_empties :
    (after .deviceReset working).accounts = [] ∧ (ses3 .deviceReset working) = Session.reset ∧
    (after .deviceReset working).portA.ready = false := by decide +kernel
theorem test_resetEnd_ready : (after .resetEnd (after .deviceReset working)).portA.ready = true := by decide +kernel

/-! ### Clearing after an idle timeout (section 1.7) -/

/-- The line of the example, at its idle timer's expiry. -/
def idleOut : State :=
  { withLine
      { call with
        cls := 1
        rx := [1, 2]
        tx := List.replicate 10 0x41
        f := 41000
        debited := 17
        idleTimer := .running 0 }
      sendingUnit with
    records := [rec7, rec7, rec7]
    reservations := 2 }

theorem test_idleTimeout_drains :
    (ses3 (.idleTimerExpiry 3) idleOut).phase = .drain ∧
    (ses3 (.idleTimerExpiry 3) idleOut).feed = [15] ∧
    (ses3 (.idleTimerExpiry 3) idleOut).stateTimer = .running 5000 ∧
    (ses3 (.idleTimerExpiry 3) idleOut).rx = [] := by decide +kernel
theorem test_idleTimeout_records :
    (after (.idleTimerExpiry 3) idleOut).records.map (fun r => (r.debited, r.cause)) =
      [(9, .hostReleased), (9, .hostReleased), (9, .hostReleased), (18, .idleTimeout)] ∧
    (after (.idleTimerExpiry 3) idleOut).reservations = 1 ∧
    (after (.idleTimerExpiry 3) idleOut).portA.notices = [.cleared 3 .idleTimeout] := by decide +kernel
theorem test_drainComplete_hangs_up :
    (ses3 (.drainComplete 3) (withLine draining answeredUnit)).stateTimer = .running 2000 ∧
    (unit3 (.drainComplete 3) (withLine draining answeredUnit)).ans = false := by decide +kernel
theorem test_drainLimit_discards :
    (ses3 (.drainLimitExpiry 3) (withLine { draining with tx := [1] } answeredUnit)).tx = [] := by decide +kernel
theorem test_guard_ends_idle :
    (ses3 (.guardTimerExpiry 3) (withLine { guarded with cls := 1 } answeredUnit)).state = .idle ∧
    (ses3 (.guardTimerExpiry 3) (withLine { guarded with cls := 1 } answeredUnit)).cls = 1 := by decide +kernel
theorem test_guard_ends_out_of_service :
    (unit3 (.guardTimerExpiry 3) (withLine { guarded with disablePending := true } answeredUnit)).trdy = false ∧
    (ses3 (.guardTimerExpiry 3) (withLine { guarded with disablePending := true } answeredUnit)).state =
      .outOfService := by decide +kernel

/-! ### Message feed (section 2.9) and MESSAGE WRITE -/

theorem test_messageWrite_shortens :
    (answerTo (.messageWrite .acct 1 0 0x41 0x63 0x63) .acct part).code = .ok ∧
    ((after (.messageWrite .acct 1 0 0x41 0x63 0x63) part).messages[1]).length = 3 := by decide +kernel
theorem test_messageWrite_drops_beyond_63 :
    (answerTo (.messageWrite .acct 1 62 0x41 0x42 0x43) .acct part).code = .clamped ∧
    ((after (.messageWrite .acct 1 62 0x41 0x42 0x43) part).messages[1]).length = 64 := by decide +kernel
theorem test_feedStep_removes_an_exhausted_head :
    (ses3 (.messageFeedStep 3) (after (.messageWrite .acct 1 0 0x41 0x63 0x63)
      (withLine { inState .signOn with feed := [1], cursor := 4 } sendingUnit))).feed = [] := by decide +kernel
theorem test_feedStep_moves_a_character :
    (ses3 (.messageFeedStep 3) (after (.messageWrite .acct 1 0 0x41 0x63 0x63)
      (withLine { inState .signOn with feed := [1], cursor := 1 } sendingUnit))).tx = [0x63] := by decide +kernel
theorem test_transmitDone_takes_flow_first :
    (unit3 (.transmitCharacterDone 3) (withLine { call with tx := [0x41] } { sendingUnit with flow := some 19 })).transmitter =
      .sending 19 .even7 0 := by decide +kernel

/-! ### Ringing and speed (Chapter 3) -/

theorem test_second_burst_answers :
    (ses3 (.burstEnd 3 2000) (withLine { inState .ringing with ringCount := 1 } (ringing .releasing))).state =
      .answering ∧
    (unit3 (.burstEnd 3 2000) (withLine { inState .ringing with ringCount := 1 } (ringing .releasing))).ans =
      true := by decide +kernel
theorem test_falseRing_rearms :
    (ses3 (.falseRing 3) (withLine { inState .ringing with ringCount := 1 } (ringing .burst))).state = .idle ∧
    (unit3 (.falseRing 3) (withLine { inState .ringing with ringCount := 1 } (ringing .burst))).falseRings =
      1 := by decide +kernel
/-- The false burst of section 3.2.1: a burst from 6,000 ms is false at the judgement of 8,501 ms, not of 8,500. -/
theorem test_ringMaxOn_is_exceeded :
    (Ring.judge .reset true { Ring.reset with cond := .burst, since := 2500 }).reached = false ∧
    (Ring.judge .reset true { Ring.reset with cond := .burst, since := 2501 }).reached = true ∧
    Ring.reset.since = 0 ∧ (Ring.asserted { Ring.reset with cond := .armed }).since = 1 := by decide
theorem test_gap_ends_ringing :
    (ses3 (.gapTimerExpiry 3) (withLine { inState .ringing with stateTimer := .running 0 } (ringing .armed))).state =
      .idle := by decide +kernel
theorem test_width_16_is_1200 :
    rateOfWidth 16 = some .b1200 ∧ rateOfWidth 13 = none ∧ rateOfWidth 19 = none ∧ rateOfWidth 196 = some .b110 := by
  decide
theorem test_width_misses :
    (ses3 (.wFinal 3 100) (withLine (inState .speedHunt) { answeredUnit with speed := .measuring 99 })).speedUsed =
      1 := by decide +kernel
theorem test_good_return_signs_on :
    (ses3 (.autobaudStopBit 3 0x8D true) (withLine { inState .speedHunt with rate := none }
      { answeredUnit with speed := .receiving .b1200 0 0 none })).state = .signOn ∧
    (ses3 (.autobaudStopBit 3 0x8D true) (withLine { inState .speedHunt with rate := none }
      { answeredUnit with speed := .receiving .b1200 0 0 none })).rate = some .b1200 := by decide +kernel
theorem test_carrierLimit_raises_no_carrier :
    (after (.carrierLimitExpiry 3) (withLine { inState .answering with stateTimer := .running 0 } answeredUnit)).portAcct.notices =
      [.fault 3 .noCarrier] := by decide +kernel
theorem test_overrun_counts :
    (unit3 (.characterReceived 3 0x41 true) (withLine { call with rx := List.replicate 64 0x41 } (hearing .even7))).overruns =
      1 := by decide +kernel
theorem test_parity_error_counts :
    (unit3 (.characterReceived 3 0xC1 true) (withLine call (hearing .even7))).charErrors = 1 ∧
    (ses3 (.characterReceived 3 0xC1 true) (withLine call (hearing .even7))).rx = [] := by decide +kernel

/-! ### Sign-on (sections 4.11 and 10.7) -/

/-- A line in SIGN_ON with characters typed. -/
def typing (buf : List Byte) : State := withLine { inState .signOn with buffer := buf } (hearing .none8)

theorem test_five_digits_refused :
    (ses3 (.characterReceived 3 0x0D true) (typing [0x33, 0x31, 0x35, 0x35, 0x32])).attempts = 1 ∧
    (ses3 (.characterReceived 3 0x0D true) (typing [0x33, 0x31, 0x35, 0x35, 0x32])).feed = [2, 1] ∧
    (ses3 (.characterReceived 3 0x0D true) (typing [0x33, 0x31, 0x35, 0x35, 0x32])).stateTimer =
      .running 60000 := by decide +kernel
theorem test_delete_echoes :
    (ses3 (.characterReceived 3 0x7F true) (typing [0x30, 0x33])).buffer = [0x30] ∧
    (ses3 (.characterReceived 3 0x7F true) (typing [0x30, 0x33])).tx = [8, 32, 8] := by decide +kernel
theorem test_other_printable_bel :
    (ses3 (.characterReceived 3 0x78 true) (typing [0x30])).tx = [7] ∧
    (ses3 (.characterReceived 3 0x78 true) (typing [0x30])).buffer = [0x30] := by decide +kernel
theorem test_admission_offers :
    (after (.characterReceived 3 0x0D true) (typing [0x32, 0x30, 0x34, 0x31, 0x31, 0x37, 0x2C, 0x62])).portB.notices =
      [.offer 3 true 204117] ∧
    (after (.characterReceived 3 0x0D true) (typing [0x32, 0x30, 0x34, 0x31, 0x31, 0x37, 0x2C, 0x62])).reservations =
      1 := by decide +kernel

/-! ### A host crash (section 5.10) -/

/-- The three lines of the example, on lines 2, 9 and 12. -/
def crash : State :=
  let two :=
    { inState .connected with account := some 118204, owner := some .a, firstHost := some .a, toggle := true }
  let nine := { inState .connected with account := some 305511, owner := some .a, firstHost := some .a }
  let twelve :=
    { inState .offered with
      account := some 427090
      offer := some ⟨.a, .signOn⟩
      toggle := true
      offerAttempts := 1
      tried := ⟨true, false⟩
      offerTimer := .running 2000 }
  let lines := ((part.modSes 2 fun _ => two).modSes 9 fun _ => nine).modSes 12 fun _ => twelve
  { lines with
    hostA := ⟨true, .running 0⟩
    accounts := [⟨118204, .opened, 9, 1, 4, 1, ⟨true, true⟩, 15, 1⟩,
      ⟨305511, .opened, 9, 1, 4, 1, ⟨true, false⟩, 15, 1⟩,
      ⟨427090, .opened, 9, 1, 4, 1, ⟨true, true⟩, 15, 1⟩] }

theorem test_crash_offers_to_b :
    (after (.silenceTimerExpiry .a) crash).portB.notices = [.offer 12 false 427090, .adopt 2 false 118204] ∧
    (after (.silenceTimerExpiry .a) crash).portAcct.notices = [.hostDown .a] := by decide +kernel
/-- Lines re-routed, sought, refused and kept when host A is lost; a full queue at B, a hold limit of 0, one line only. -/
theorem test_hostLoss_hypotheses :
    takesDown crash .a (.silenceTimerExpiry .a) ∧ offerLaw crash ∧
    (rerouted crash .a 12 = true ∧ sought crash .a 2 = true ∧ sought crash .a 9 = false) ∧
    (crash.portB.notices.length ≤ 16 ∧ 32 ≤ (crowded .b crash).portB.notices.length ∧
      rerouted (crowded .b crash) .a 12 = true ∧ offeredTo (crowded .b crash) .a 12 = true) ∧
    (offeredTo (crash.modSes 12 fun r => { r with requested := some .a }) .a 12 = true ∧
      rerouted (crash.modSes 12 fun r => { r with requested := some .a }) .a 12 = false) ∧
    (offeredTo waitingForB .a 3 = true ∧ rerouted waitingForB .a 3 = false ∧ waitingForB.accountOf 3 = some acct204117 ∧
      ∀ m : LineNo, m ≠ 3 → offeredTo waitingForB .a m = false ∧ (waitingForB.ses m).ownedBy .a = false) ∧
    (held.state = .held ∧ sought (withSession held) .a 3 = false ∧
      sought (crash.modHost .b fun _ => ⟨false, .stopped⟩) .a 2 = false) ∧
    (({ crash with params := { Params.reset with holdLimit := 0 } }).params.holdLimit = 0 ∧
      (crash.ses 2).ownedBy .a = true ∧ (crash.accountOf 2).isSome = true ∧ crash.params.holdLimit ≠ 0) :=
  ⟨⟨rfl, 0, rfl⟩, offerLaw_of (by decide +kernel), by decide +kernel, by decide +kernel, by decide +kernel,
    by decide +kernel, by decide +kernel, by decide +kernel⟩
theorem test_noHold_clears :
    ((after (.silenceTimerExpiry .a) { crash with params := { Params.reset with holdLimit := 0 } }).ses 2).cause =
      some .hostLost := by decide +kernel
theorem test_crash_holds_line_nine :
    ((after (.silenceTimerExpiry .a) crash).ses 9).stateTimer = .running 300000 ∧
    ((after (.silenceTimerExpiry .a) crash).ses 9).prevOwner = some .a ∧
    ((after (.silenceTimerExpiry .a) crash).ses 9).offer = none := by decide +kernel
theorem test_hold_expiry_records :
    (after (.holdTimerExpiry 3) (withLine { held with offer := none, heldSecs := 300 } answeredUnit)).records.map
      (fun r => (r.heldSecs, r.cause, r.lastHost)) = [(4, .hostReleased, some .b), (300, .hostLost, some .a)] := by
  decide +kernel

/-! ### Accounts (section 7.11) -/

/-- The account and the two lines of the example, line 7's overdrawn line left out. -/
def grace : State :=
  { withSession
      { call with account := some 311875, overdraft := 1, graceTimer := .running 95000, warned := true } with
    accounts := [⟨311875, .opened, 0, 5, 2, 2, ⟨true, true⟩, 15, 2⟩]
    portAcct := { LinkPort.reset with cursor := some 311875 } }

theorem test_credit_stops_grace :
    (ses3 (.accountCredit .acct 50) grace).graceTimer = .stopped ∧
    (ses3 (.accountCredit .acct 50) grace).warned = false ∧
    (ses3 (.accountCredit .acct 50) grace).overdraft = 1 := by decide +kernel
theorem test_small_credit_keeps_warned :
    (ses3 (.accountCredit .acct 3) grace).graceTimer = .stopped ∧
    (ses3 (.accountCredit .acct 3) grace).warned = true := by decide +kernel
theorem test_limit_clamped_to_active :
    answerTo (.accountSet .acct 4 1) .acct grace = ⟨.clamped, 0⟩ ∧
    (after (.accountSet .acct 4 1) grace).accounts.map (·.limit) = [2] := by decide +kernel
theorem test_remove_in_use : answerTo (.accountRemove .acct) .acct grace = ⟨.inUse, 0⟩ := by decide +kernel
theorem test_create_in_order :
    (after (.accountCreate .acct 500000) part).accounts.map (·.number) = [204117, 500000, 999999] := by decide +kernel
theorem test_next_walks : answerTo (.accountNext .hostB) .hostB part = ⟨.ok, 204117⟩ := by decide +kernel
theorem test_read_balance : answerTo (.accountRead .acct 2) .acct pointed = ⟨.ok, 500⟩ := by decide +kernel

/-! ### Tariff and clock (section 8.7) -/

theorem test_lastUnit_overdraws :
    ((after .secondBoundary (lastUnit 5)).ses 3).debited = 1 ∧ ((after .secondBoundary (lastUnit 5)).ses 4).overdraft = 1 ∧
    ((after .secondBoundary (lastUnit 5)).ses 4).graceTimer = .running 300000 ∧
    ((after .secondBoundary (lastUnit 0)).ses 4).cause = some .creditExhausted := by decide +kernel

/-- Monday 17:59:58 with R[1][1] pending at 1,500 (the boundary into 17:59:59), and line 3 in class 1 at F 14,500. -/
def sixOClock : State :=
  { withSession { call with cls := 1, f := 14500 } with
    clock := ⟨true, 1079, 58, 1000⟩
    tariff := { Tariff.reset with
      rates := (Tariff.reset.rates.set 1 2500).set 5 1200
      bands := Tariff.reset.bands.set 18 1
      pendingRates := Tariff.reset.pendingRates.set 5 (some 1500) } }

theorem test_boundary_bills_the_old_hour :
    (ses3 .secondBoundary sixOClock).f = 17000 ∧ (after .secondBoundary sixOClock).clock = ⟨true, 1079, 59, 0⟩ ∧
    (after .secondBoundary sixOClock).tariff.rates[5] = 1500 := by decide +kernel
theorem test_boundary_bills_the_new_hour :
    (ses3 .secondBoundary { sixOClock with clock := ⟨true, 1080, 0, 1000⟩, tariff := sixOClock.tariff.install }).f =
      16000 := by decide +kernel
theorem test_tariffSet_waits :
    (after (.tariffSet .acct 0x11 1500) part).tariff.rates[5] = 0 ∧
    (after (.tariffSet .acct 0x11 1500) part).tariff.pendingRates[5] = some 1500 := by decide +kernel
theorem test_clockSet_restarts_phase :
    (after (.clockSet .acct 1110 0) sixOClock).clock = ⟨true, 1110, 0, 0⟩ := by decide +kernel
theorem test_week_wraps : (after .secondBoundary weekEnd).clock = ⟨true, 0, 0, 0⟩ := by decide +kernel

/-! ### A call and its record (section 10.7) -/

/-- The call at its release. -/
def released : State :=
  { withLine
      { call with
        account := some 512006
        rate := some .b1200
        owner := some .b
        firstHost := some .b
        start := some ⟨2600, 10⟩
        bandSecs := ⟨#[0, 185, 0, 0], rfl⟩
        f := 15000
        fee := 1
        debited := 10 }
      answeredUnit with
    clock := ⟨true, 2603, 15, 0⟩
    records := []
    serial := 45
    reservations := 7
    accounts := [⟨512006, .opened, 20, 10, 1, 1, ⟨true, true⟩, 1, 0⟩] }

theorem test_release_queues_the_record :
    (after (.release .hostB 3) released).records.map (fun r => (r.serial, r.stop, r.debited, r.cause)) =
      [(45, some ⟨2603, 15⟩, 10, .hostReleased)] ∧
    (after (.release .hostB 3) released).serial = 46 ∧ (after (.release .hostB 3) released).reservations = 6 ∧
    (after (.release .hostB 3) released).portB.notices = [.cleared 3 .hostReleased] := by decide +kernel
theorem test_chargeRead_end_stamp : answerTo (.chargeRead .acct 9) .acct (after (.release .hostB 3) released) =
    ⟨.ok, 0x010A2B0F⟩ := by decide +kernel
theorem test_chargeTake_serial : answerTo (.chargeTake .acct) .acct (after (.release .hostB 3) released) =
    ⟨.ok, 0x002D0000⟩ := by decide +kernel

/-! ### Supervision and parameters (Chapters 11 and 12) -/

theorem test_lineEnable_settles :
    (ses3 (.lineEnable .acct 3) part).stateTimer = .running 250 ∧
    (unit3 (.lineEnable .acct 3) part).trdy = true := by decide +kernel
theorem test_settle_without_modem :
    (after (.settleTimerExpiry 3 false) (withSession settling)).portAcct.notices = [.fault 3 .modemAbsent] := by
  decide +kernel
theorem test_modemLost_disables :
    (ses3 (.modemLost 3) (withLine call { answeredUnit with modem := .watching 100 })).disablePending = true ∧
    (ses3 (.modemLost 3) (withLine call { answeredUnit with modem := .watching 100 })).phase = .guard := by
  decide +kernel
theorem test_faultNext_by_priority : answerTo (.faultNext .acct) .acct faulty = ⟨.ok, 0x09000000⟩ := by decide +kernel
theorem test_faultClear_clears_one :
    ((after (.faultClear .acct 3 4) faulty).sup 3).faults = 0 ∧
    ((after (.faultClear .acct 3 4) faulty).sup 9).faults = 1 := by
  decide +kernel
theorem test_lineClear_out_of_service : answerTo (.lineClear .acct 3) .acct part = ⟨.badState, 0⟩ := by decide +kernel
theorem test_serviceDrain_completes :
    (after (.serviceDrain .acct) part).service = .closed ∧
    (after (.serviceDrain .acct) part).portAcct.notices = [.drained] := by decide +kernel
theorem test_serviceClose_clears :
    (ses3 (.serviceClose .acct) (withLine call answeredUnit)).cause = some .serviceClosed := by decide +kernel
theorem test_paramSet_clamps :
    answerTo (.paramSet .acct 12 99) .acct part = ⟨.clamped, 30⟩ ∧
    (after (.paramSet .acct 12 99) part).params.holdLimit = 30 := by decide +kernel
theorem test_tick_takes_sixteen_to_a_bit : Rate.b1200.ticks = 16 ∧ Rate.b110.ticks = 175 ∧
    Rate.b1200.charBits * Rate.b1200.ticks = 160 := by decide

end Sys2Proof.Tests
end

section
/-! PROOFS. The account orders (Chapter 7): ACCOUNT SELECT, READ, NEXT, SET and CREDIT. First what an order does on a
link that listens, then the Account Table and its cursors, the fields of an entry, and the judgement of a balance against
the account's sessions; each order is then assembled from these. -/

namespace Sys2Proof.AccountOrders

open Sys2Proof.Machine

/-! ### Orders on a link that listens -/

section Orders

variable {s u : State} {k : Link} {r : Reply} {order : State → State × Reply} {ps : List Part}

/-- On the accounting link the check of R174 lets every order pass. -/
theorem next_acctOrder {i : Instr} {P : State → Prop} (hi : exec i s = .next (s.acctOrder .acct order))
    (hP : P (s.takeOrder .acct order)) : ∃ t, exec i s = .next t ∧ P t := ⟨_, hi, hP⟩

/-- An order that leaves the state as heard has only answered. -/
theorem takeOrder_onlyAnswers (hl : listens s k) (ho : order (s.heard k) = (s.heard k).answered r) :
    onlyAnswers k r s (s.takeOrder k order) := by
  rw [State.takeOrder_listens s k hl, ho]
  exact onlyAnswers_heard k s r

theorem unchangedBut_setCursor (c : Option Nat) (s : State) (hk : Part.port k ∈ ps) :
    unchangedBut ps s (s.setCursor k c) := unchangedBut_modPort _ s hk

/-- An order that puts its link's cursor somewhere changes nothing else. -/
theorem takeOrder_setCursor {c : Option Nat} (hl : listens s k)
    (ho : order (s.heard k) = ((s.heard k).setCursor k c, r)) :
    carriedOut k { framePort s k r with cursor := c } [] s (s.takeOrder k order) := by
  rw [State.takeOrder_listens s k hl, ho]
  refine carriedOut_heard ?_ (fun h _ => State.host_modPort _ _ h _) ?_
  · simp [State.setCursor, framePort]
  · exact unchangedBut_setCursor c _ (by simp)

/-- An order whose changes touch no link leaves its own port with the reply only. -/
theorem takeOrder_apart (hl : listens s k) (ho : order (s.heard k) = (u, r)) (hu : unchangedBut ps (s.heard k) u)
    (hport : Part.port k ∉ ps) (hhost : ∀ h, Part.host h ∉ ps) :
    carriedOut k (framePort s k r) ps s (s.takeOrder k order) := by
  rw [State.takeOrder_listens s k hl, ho]
  refine carriedOut_heard ?_ ?_ ?_
  · have hp : u.port k = (s.heard k).port k := hu (.port k) hport
    simp [hp, framePort]
  · exact fun h _ => hu (.host h) (hhost h)
  · exact hu.mono (by simp +contextual)

end Orders

/-! ### The Account Table and the cursors on it -/

@[simp] theorem account?_heard (s : State) (k : Link) (a : Nat) : (s.heard k).account? a = s.account? a := by
  simp [State.account?]

@[simp] theorem nextAccount_heard (s : State) (k : Link) (c : Option Nat) :
    (s.heard k).nextAccount c = s.nextAccount c := by
  cases c <;> simp [State.nextAccount]

@[simp] theorem cursor_framePort (s : State) (k : Link) (r : Reply) :
    (framePort s k r).cursor = (s.port k).cursor := rfl

/-- With its link's cursor empty an order over the entry under it answers NOT_FOUND. -/
theorem onCursor_empty {s : State} {k : Link} (hc : (s.port k).cursor = none) (act : Account → State × Reply) :
    (s.heard k).onCursor k act = (s.heard k).answered ⟨.notFound, 0⟩ := by
  simp [State.onCursor, State.answered, hc, replyOf]

/-- With its link's cursor on an entry of the table an order acts on that entry. -/
theorem onCursor_entry {s : State} {k : Link} {e : Account} (ht : tableLaw s) (he : e ∈ s.accounts)
    (hc : (s.port k).cursor = some e.number) (act : Account → State × Reply) : (s.heard k).onCursor k act = act e := by
  simp [State.onCursor, hc, tableLaw_find ht he]

/-- In a table in ascending order, a search finds the lowest entry that meets its condition. -/
theorem find?_eq_lowest {l : List Account} (hl : l.Pairwise fun x y => x.number < y.number) {p : Account → Bool}
    {e : Account} (he : e ∈ l) (hp : p e = true) (hlow : ∀ x ∈ l, p x = true → e.number ≤ x.number) :
    l.find? p = some e := by
  obtain ⟨before, after, rfl⟩ := List.append_of_mem he
  refine List.find?_eq_some_iff_append.2 ⟨hp, before, after, rfl, fun x hx => ?_⟩
  obtain ⟨-, -, hbefore⟩ := List.pairwise_append.1 hl
  have hlt : x.number < e.number := hbefore x hx e (by simp)
  by_contra hpx
  have hle : e.number ≤ x.number := hlow x (by simp [hx]) (by simpa using hpx)
  omega

/-- ACCOUNT NEXT searches for the first entry above the cursor, an empty cursor having every entry above it (R115). -/
theorem nextAccount_eq_find? (s : State) (c : Option Nat) :
    s.nextAccount c = s.accounts.find? fun e => c.all fun a => decide (a < e.number) := by
  cases c with
  | none => cases hl : s.accounts <;> simp [State.nextAccount, hl]
  | some a => rfl

theorem nextAccount_eq_some {s : State} (h : tableLaw s) {c : Option Nat} {e : Account} (he : e ∈ s.accounts)
    (habove : ∀ a, c = some a → a < e.number)
    (hlow : ∀ x ∈ s.accounts, (∀ a, c = some a → a < x.number) → e.number ≤ x.number) :
    s.nextAccount c = some e := by
  obtain ⟨-, hsorted, -⟩ := h
  rw [nextAccount_eq_find?]
  refine find?_eq_lowest hsorted he ?_ fun x hx hpx => hlow x hx ?_
  · simpa [Option.all_eq_true] using habove
  · simpa [Option.all_eq_true] using hpx

theorem nextAccount_eq_none {s : State} {c : Option Nat} (h : ∀ e ∈ s.accounts, ∃ a, c = some a ∧ e.number ≤ a) :
    s.nextAccount c = none := by
  rw [nextAccount_eq_find?, List.find?_eq_none]
  intro e he
  obtain ⟨a, rfl, hle⟩ := h e he
  simpa using hle

/-- A changed entry that keeps its number is found under it. -/
theorem account?_modAccount {s : State} {a : Nat} {e : Account} (he : s.account? a = some e) {f : Account → Account}
    (hf : ∀ x, x.number = a → (f x).number = a) : (s.modAccount a f).account? a = some (f e) := by
  have hsame : ((fun x : Account => x.number == a) ∘ fun x => if x.number == a then f x else x) =
      fun x => x.number == a := by
    funext x
    by_cases hx : x.number = a <;> simp [hx, hf]
  obtain ⟨-, hn⟩ := account?_eq_some he
  calc (s.modAccount a f).account? a
      = (s.account? a).map fun x => if x.number == a then f x else x := by
        rw [State.account?, State.modAccount, List.find?_map, hsame, State.account?]
    _ = some (f e) := by simp [he, hn]

/-- Under the law of the table a change of the entry with a number makes that one entry what it becomes. -/
theorem accounts_modAccount {s : State} (h : tableLaw s) {e : Account} (he : e ∈ s.accounts) (f : Account → Account) :
    (s.modAccount e.number f).accounts = s.accounts.map fun x => if x.number = e.number then f e else x := by
  refine List.map_congr_left fun x hx => ?_
  by_cases hn : x.number = e.number
  · simp [tableLaw_unique h hx he hn]
  · simp [hn]

@[simp] theorem accounts_modAccount_heard (s : State) (k : Link) (a : Nat) (f : Account → Account) :
    ((s.heard k).modAccount a f).accounts = (s.modAccount a f).accounts := by
  simp [State.modAccount]

/-! ### The fields of an entry -/

/-- A field that is read is its number as the table of section 12.8.7 has it (R114). -/
theorem field_eq_fieldNumber (e : Account) {field : Nat} (h : field ≤ 8) :
    e.field field = some (BitVec.ofNat 32 (fieldNumber e field)) := by
  match field, h with
  | 1, _ => cases hs : e.state <;> simp [Account.field, fieldNumber, wordOf, AccountState.code, hs]
  | 7, _ => simp [Account.field, fieldNumber]
  | 0, _ | 2, _ | 3, _ | 4, _ | 5, _ | 6, _ | 8, _ => rfl

/-- What checks 1 and 2 of ACCOUNT SET refuse does not depend on the entry (R117). -/
theorem withField_eq_none (e : Account) {field value : Nat} (h : refusedField field value) :
    e.withField field value = none := by
  rcases h with hfield | ⟨rfl, hv⟩ | ⟨rfl, hv⟩ | ⟨rfl, hv⟩
  · simp only [List.mem_cons, List.not_mem_nil, or_false, not_or] at hfield
    unfold Account.withField
    split <;> simp_all
  · simp [Account.withField, show value ≠ 0 by omega, show value ≠ 1 by omega]
  · simp [Account.withField, show value ≠ 1 by omega, show value ≠ 2 by omega, show value ≠ 3 by omega]
  · simp [Account.withField, show ¬value ≤ 15 by omega]

/-- The fields that ACCOUNT SET writes, each with the values it takes (R117). -/
theorem not_refusedField_iff (field value : Nat) : ¬refusedField field value ↔
    field = 1 ∧ value ≤ 1 ∨ field = 2 ∨ field = 3 ∨ field = 4 ∨ field = 6 ∧ 1 ≤ value ∧ value ≤ 3 ∨
      field = 7 ∧ value ≤ 15 ∨ field = 8 := by
  simp only [refusedField, List.mem_cons, List.not_mem_nil, or_false]
  omega

/-- A field and value that are not refused are written, clamped, and CLAMPED is told exactly when the field's new value
differs from the one carried (R117). -/
theorem withField_eq_fieldWritten (e : Account) {field value : Nat} (h : ¬refusedField field value) :
    e.withField field value = some (fieldWritten e field value,
      decide (fieldNumber (fieldWritten e field value) field ≠ value)) := by
  rcases (not_refusedField_iff field value).1 h with
    ⟨rfl, hv⟩ | rfl | rfl | rfl | ⟨rfl, hlo, hhi⟩ | ⟨rfl, hv⟩ | rfl
  · interval_cases value <;> rfl
  · simp [Account.withField, fieldWritten, fieldNumber, maxUnits]
    rfl
  · simp [Account.withField, fieldWritten, fieldNumber]
  · simp [Account.withField, fieldWritten, fieldNumber, clamp, bne, beq_eq_decide]
  · interval_cases value <;> rfl
  · simp [Account.withField, fieldWritten, fieldNumber, hv]
    omega
  · simp [Account.withField, fieldWritten, fieldNumber]

/-- The number of an entry is not a field that ACCOUNT SET writes. -/
theorem fieldWritten_number (e : Account) (field value : Nat) : (fieldWritten e field value).number = e.number := by
  unfold fieldWritten
  split <;> rfl

theorem setRefused_iff (field value : Nat) : setRefused field value = true ↔ refusedField field value := by
  by_cases h : refusedField field value
  · simp [setRefused, withField_eq_none _ h, h]
  · simp [setRefused, withField_eq_fieldWritten _ h, h]

theorem setRefused_eq_false {field value : Nat} (h : ¬refusedField field value) : setRefused field value = false := by
  simpa [← setRefused_iff] using h

theorem okOrClamped_decide (p : Prop) [Decidable p] : okOrClamped (decide p) = ⟨if p then .clamped else .ok, 0⟩ := by
  by_cases h : p <;> simp [okOrClamped, replyOf, h]

/-! ### The judgement of a balance against the account's sessions -/

/-- A change of a session is known by what it makes of the record that stands there. -/
theorem modSes_congr {s : State} {n : LineNo} {f g : Session → Session} (h : f (s.ses n) = g (s.ses n)) :
    s.modSes n f = s.modSes n g := by
  simp only [State.ses] at h
  simp only [State.modSes, State.modLine, h]

theorem modSes_eq_self {s : State} {n : LineNo} {f : Session → Session} (h : f (s.ses n) = s.ses n) :
    s.modSes n f = s := by
  rw [modSes_congr (g := fun r => r) h]
  show { s with lines := s.lines.set n.val s.lines[n.val] } = s
  rw [Vector.set_getElem_self]

/-- The judgement of R120 is one and the same for every line: the session as `balanceJudged` has it. -/
theorem judgeBalance_eq_forLines {s : State} {a : Nat} {e : Account} (he : s.account? a = some e) :
    s.judgeBalance a = s.forLines fun t n => t.modSes n (balanceJudged e) := by
  obtain ⟨-, rfl⟩ := account?_eq_some he
  simp only [State.judgeBalance, he]
  by_cases hpos : 0 < e.balance
  · rw [if_pos hpos]
    refine congrArg s.forLines (funext₂ fun t n => ?_)
    split
    next hc =>
      refine modSes_congr ?_
      by_cases hw : e.warn ≤ e.balance
      · simp [balanceJudged, hc, hpos, hw, Nat.not_lt.2 hw]
      · simp [balanceJudged, hc, hpos, hw, Nat.not_le.1 hw]
    next hc =>
      exact (modSes_eq_self (if_neg fun ⟨hstate, haccount, _⟩ => hc ⟨hstate, haccount⟩)).symm
  · have hid : (fun (t : State) n => t.modSes n (balanceJudged e)) = fun t _ => t :=
      funext₂ fun t n => modSes_eq_self (if_neg fun ⟨_, _, hbalance⟩ => hpos hbalance)
    rw [if_neg hpos, hid]
    simp [State.forLines]

/-- One change made to every line's session. -/
theorem ses_forLines_modSes (s : State) (f : Session → Session) (n : LineNo) :
    (s.forLines fun t m => t.modSes m f).ses n = f (s.ses n) := by
  refine State.forLines_line (K := fun _ => True) (Q := fun m s t => t.ses m = f (s.ses m)) trivial
    (fun _ _ _ => trivial) (fun t m j hne => State.line_modLine_ne t m j _ hne) ?_ ?_ n
  · intro t m _ hline
    simp [State.ses, hline]
  · intro t u m hline ht
    simpa [State.ses, hline] using ht

theorem session_mem_allSessions (n : LineNo) : Part.session n ∈ allSessions :=
  List.mem_map_of_mem (State.mem_allLines n)

theorem unchangedBut_judgeBalance {s : State} {a : Nat} {e : Account} (he : s.account? a = some e) :
    unchangedBut allSessions s (s.judgeBalance a) := by
  rw [judgeBalance_eq_forLines he]
  exact State.forLines_induct (I := fun _ t => unchangedBut allSessions s t) (unchangedBut_refl _ s)
    fun _ n t _ ht => ht.trans (unchangedBut_modSes _ t (session_mem_allSessions n))

theorem host_notMem_accounts_sessions (h : Computer) : Part.host h ∉ Part.accounts :: allSessions := by
  cases h <;> decide

/-! ### Orders that change the entry under the cursor -/

section Judged

variable {s : State} {e : Account} {f : Account → Account}
  (he : s.account? e.number = some e) (hf : ∀ x, x.number = e.number → (f x).number = e.number)
include he hf

theorem unchangedBut_writtenJudged :
    unchangedBut (.accounts :: allSessions) s ((s.modAccount e.number f).judgeBalance e.number) :=
  (unchangedBut_modAccount e.number f s (by simp)).trans
    ((unchangedBut_judgeBalance (account?_modAccount he hf)).mono fun _ => List.mem_cons_of_mem _)

theorem accounts_writtenJudged :
    ((s.modAccount e.number f).judgeBalance e.number).accounts = (s.modAccount e.number f).accounts :=
  unchangedBut_judgeBalance (account?_modAccount he hf) .accounts (by decide)

theorem ses_writtenJudged (n : LineNo) :
    ((s.modAccount e.number f).judgeBalance e.number).ses n = balanceJudged (f e) (s.ses n) := by
  rw [judgeBalance_eq_forLines (account?_modAccount he hf), ses_forLines_modSes, State.ses_modAccount]

end Judged

section Written

variable {s : State} {e : Account} {f : Account → Account} {r : Reply} {order : State → State × Reply}
  (hl : listens s .acct) (ht : tableLaw s) (he : e ∈ s.accounts)
include hl

/-- What an order leaves in the table and in the sessions stands there after its reply. -/
theorem takeOrder_entryChanged {u : State} {accounts : List Account} {ses : LineNo → Session}
    (ho : order (s.heard .acct) = (u, r)) (hu : unchangedBut (.accounts :: allSessions) (s.heard .acct) u)
    (hacc : u.accounts = accounts) (hses : ∀ n, u.ses n = ses n) :
    (s.takeOrder .acct order).accounts = accounts ∧ (∀ n, (s.takeOrder .acct order).ses n = ses n) ∧
    carriedOut .acct (framePort s .acct r) (.accounts :: allSessions) s (s.takeOrder .acct order) := by
  refine ⟨?_, fun n => ?_, takeOrder_apart hl ho hu (by decide) host_notMem_accounts_sessions⟩
  · simp [State.takeOrder_listens s .acct hl, ho, State.setReply, hacc]
  · simp [State.takeOrder_listens s .acct hl, ho, State.setReply, hses]

include ht he

/-- An order that writes the entry under the cursor, and no more (R117). -/
theorem takeOrder_written (ho : order (s.heard .acct) = ((s.heard .acct).modAccount e.number f, r)) :
    (s.takeOrder .acct order).accounts = s.accounts.map (fun x => if x.number = e.number then f e else x) ∧
    (∀ n, (s.takeOrder .acct order).ses n = s.ses n) ∧
    carriedOut .acct (framePort s .acct r) (.accounts :: allSessions) s (s.takeOrder .acct order) := by
  refine takeOrder_entryChanged hl ho (unchangedBut_modAccount _ _ _ (by simp)) ?_ fun n => ?_
  · rw [accounts_modAccount_heard, accounts_modAccount ht he]
  · simp

/-- An order that writes the entry under the cursor and has its balance judged (R120). -/
theorem takeOrder_writtenJudged (hf : ∀ x, x.number = e.number → (f x).number = e.number)
    (ho : order (s.heard .acct) = (((s.heard .acct).modAccount e.number f).judgeBalance e.number, r)) :
    (s.takeOrder .acct order).accounts = s.accounts.map (fun x => if x.number = e.number then f e else x) ∧
    (∀ n, (s.takeOrder .acct order).ses n = balanceJudged (f e) (s.ses n)) ∧
    carriedOut .acct (framePort s .acct r) (.accounts :: allSessions) s (s.takeOrder .acct order) := by
  have hfound : (s.heard .acct).account? e.number = some e := by simp [tableLaw_find ht he]
  refine takeOrder_entryChanged hl ho (unchangedBut_writtenJudged hfound hf) ?_ fun n => ?_
  · rw [accounts_writtenJudged hfound hf, accounts_modAccount_heard, accounts_modAccount ht he]
  · rw [ses_writtenJudged hfound hf, State.ses_heard]

end Written

/-! ### The obligations -/

/-- Settles O26: the cursor is placed by looking the number up in the table as it stands. -/
theorem accountSelectPlacesCursor : Obligations.AccountSelectPlacesCursor := by
  intro k number s hl
  refine ⟨fun hbig => ⟨_, rfl, takeOrder_onlyAnswers hl ?_⟩, fun hle hex => ⟨_, rfl, takeOrder_setCursor hl ?_⟩,
    fun hle hno => ⟨_, rfl, takeOrder_setCursor hl ?_⟩⟩
  · simp [maxAccount, hbig, replyOf]
  · have hfound := (account?_isSome_iff s _).2 hex
    simp [maxAccount, Nat.not_lt.2 hle, hfound, replyOf]
  · have hnone := account?_eq_none_of s _ hno
    simp [maxAccount, Nat.not_lt.2 hle, hnone, replyOf]

/-- Settles O27: the order acts on the entry under the cursor, whose field is the number of its code. -/
theorem accountReadGivesField : Obligations.AccountReadGivesField := by
  intro k field s ht hl
  refine ⟨fun hbig => ⟨_, rfl, takeOrder_onlyAnswers hl ?_⟩, fun hle hc => ⟨_, rfl, takeOrder_onlyAnswers hl ?_⟩,
    fun e he hle hc => ⟨_, rfl, takeOrder_onlyAnswers hl ?_⟩⟩
  · simp [hbig, replyOf]
  · simp [Nat.not_lt.2 hle, onCursor_empty hc]
  · simp [Nat.not_lt.2 hle, onCursor_entry ht he hc, field_eq_fieldNumber e hle, okWith]

/-- Settles O28: the first entry above the cursor in the ascending table is the lowest one. -/
theorem accountNextWalks : Obligations.AccountNextWalks := by
  intro k s ht hl
  refine ⟨fun e he habove hlow => ⟨_, rfl, takeOrder_setCursor hl ?_⟩,
    fun hno => ⟨_, rfl, takeOrder_setCursor hl ?_⟩⟩
  · simp [nextAccount_eq_some ht he habove hlow, okWith, wordOf]
  · simp [nextAccount_eq_none hno, replyOf]

/-- Settles O30: the refusals are those of `withField`, whose entry is the one of R117; a balance is judged besides. -/
theorem accountSetWrites : Obligations.AccountSetWrites := by
  intro field value s ht hl
  refine ⟨fun href => next_acctOrder rfl (takeOrder_onlyAnswers hl ?_),
    fun href (hc : (s.port .acct).cursor = none) => next_acctOrder rfl (takeOrder_onlyAnswers hl ?_),
    fun e he href (hc : (s.port .acct).cursor = some e.number) => next_acctOrder rfl ?_⟩
  · simp [(setRefused_iff _ _).2 href, replyOf]
  · simp [setRefused_eq_false href, onCursor_empty hc]
  · have hset := withField_eq_fieldWritten e href
    have hnumber := fieldWritten_number e field.toNat value.toNat
    by_cases hbal : field.toNat = 2
    · simp only [hbal, if_true] at href hset hnumber ⊢
      refine takeOrder_writtenJudged hl ht he (f := fun _ => fieldWritten e 2 value.toNat) (fun _ _ => hnumber) ?_
      simp only [setRefused_eq_false href, onCursor_entry ht he hc, hset, okOrClamped_decide, ne_eq, ite_not,
        Bool.false_eq_true, if_false]
    · simp only [hbal, if_false]
      refine takeOrder_written hl ht he (f := fun _ => fieldWritten e field.toNat value.toNat) ?_
      simp only [setRefused_eq_false href, onCursor_entry ht he hc, hset, okOrClamped_decide, ne_eq, ite_not,
        Bool.false_eq_true, if_false]

/-- Settles O31: the entry under the cursor is credited and judged, whatever its balance becomes. -/
theorem accountCreditAdds : Obligations.AccountCreditAdds := by
  intro amount s ht hl
  refine ⟨fun (hc : (s.port .acct).cursor = none) => next_acctOrder rfl (takeOrder_onlyAnswers hl ?_), ?_⟩
  · exact onCursor_empty hc _
  · rintro e _ he (hc : (s.port .acct).cursor = some e.number) rfl
    refine next_acctOrder rfl ?_
    refine takeOrder_writtenJudged hl ht he
      (f := fun x => { x with balance := min (x.balance + amount.toNat) 16777215 }) (fun _ hx => hx) ?_
    simp only [onCursor_entry ht he hc, okOrClamped_decide]
    rfl

end Sys2Proof.AccountOrders
end

section
/-! PROOFS. What every step keeps: the laws of the part, cut into what they say of one line, and the two forms of a
change on one line from which each operation's proof is put together. -/

namespace Sys2Proof.Keeping


open Sys2Proof.Machine

/-! ### The laws, line by line -/

/-- What the law of the outstanding offer says of a record alone (R80): the state and the kind of the offer agree. -/
def offerShaped (r : Session) : Prop :=
  match r.offer with
  | some o => r.state = .offered ∧ o.kind = .signOn ∨ r.state = .held ∧ o.kind = .adopt
  | none => r.state ≠ .offered

/-- Every record's offer agrees with its state. -/
def shaped (s : State) : Prop := ∀ n, offerShaped (s.ses n)

/-- Every offer's target is UP, but for the offers excused. -/
def offersBut (ex : LineNo → Computer → Prop) (s : State) : Prop :=
  ∀ n o, (s.ses n).offer = some o → (s.host o.target).up = true ∨ ex n o.target

/-- Every CONNECTED line has an owner whose link is UP, but for the owners excused. -/
def ownersBut (ex : LineNo → Option Computer → Prop) (s : State) : Prop :=
  ∀ n, (s.ses n).state = .connected →
    (∃ h, (s.ses n).owner = some h ∧ (s.host h).up = true) ∨ ex n (s.ses n).owner

/-- The law of the fraction accumulator for one line (R137). -/
def fractionSound (r : Session) : Prop := r.f < 60000 ∧ (r.state ≠ .connected → r.state ≠ .held → r.f = 0)

/-- The law of the outputs for one line (R21). -/
def outputSound (r : Session) (u : LineUnit) : Prop :=
  u.ans = (r.state.active || r.draining) ∧
    u.trdy = (match r.state with
      | .clearing => r.draining
      | .outOfService => r.stateTimer.isRunning
      | _ => true)

theorem offerLaw_iff (s : State) : offerLaw s ↔ shaped s ∧ offersBut (fun _ _ => False) s := by
  constructor
  · intro h
    refine ⟨fun n => ?_, fun n o ho => ?_⟩
    · have hn := h n
      unfold offerSound at hn
      unfold offerShaped
      split at hn
      next o ho => simpa [ho] using hn.1
      next ho => simpa [ho] using hn
    · have hn := h n
      simp only [offerSound, ho] at hn
      exact .inl hn.2
  · rintro ⟨hs, hu⟩ n
    have hn := hs n
    unfold offerShaped at hn
    unfold offerSound
    split at hn
    next o ho =>
      have := hu n o ho
      simp_all
    next ho => simpa [ho] using hn

theorem ownerLaw_iff (s : State) : ownerLaw s ↔ ownersBut (fun _ _ => False) s := by
  simp [ownerLaw, ownersBut]

/-- A line without an offer is shaped unless it is OFFERED. -/
theorem offerShaped_of_none {r : Session} (ho : r.offer = none) (hs : r.state ≠ .offered) : offerShaped r := by
  simpa [offerShaped, ho] using hs

/-- A shaped record whose state is neither OFFERED nor HELD has no offer. -/
theorem offerShaped.offer_eq_none {r : Session} (h : offerShaped r) (h1 : r.state ≠ .offered) (h2 : r.state ≠ .held) :
    r.offer = none := by
  cases ho : r.offer with
  | none => rfl
  | some o => simp [offerShaped, ho, h1, h2] at h

/-- A shaped record with a SIGN_ON offer is OFFERED. -/
theorem offerShaped.offered {r : Session} {o : Offer} (h : offerShaped r) (ho : r.offer = some o)
    (hk : o.kind = .signOn) : r.state = .offered := by
  simpa [offerShaped, ho, hk] using h

/-- A shaped record with an ADOPT offer is HELD. -/
theorem offerShaped.held {r : Session} {o : Offer} (h : offerShaped r) (ho : r.offer = some o)
    (hk : o.kind = .adopt) : r.state = .held := by
  simpa [offerShaped, ho, hk] using h

/-- A shaped OFFERED record has a SIGN_ON offer. -/
theorem offerShaped.offer_of_offered {r : Session} (h : offerShaped r) (hs : r.state = .offered) :
    ∃ g, r.offer = some ⟨g, .signOn⟩ := by
  cases ho : r.offer with
  | none => simp [offerShaped, ho, hs] at h
  | some o =>
    obtain ⟨g, kind⟩ := o
    simp only [offerShaped, ho, hs] at h
    simp_all

/-! ### What a change keeps -/

/-- What a change keeps of the laws that do not name a host link's state. -/
structure Core (s t : State) : Prop where
  shape : shaped s → shaped t
  fifos : shaped s → fifoLaw s → fifoLaw t
  table : tableLaw s → tableLaw t
  balance : balanceLaw s → balanceLaw t
  active : shaped s → tableLaw s → activeLaw s → activeLaw t
  fraction : shaped s → fractionLaw s → fractionLaw t
  clock : clockLaw s → clockLaw t
  records : recordLaw s → recordLaw t
  reservations : shaped s → reservationLaw s → reservationLaw t
  notices : noticeLaw s → noticeLaw t
  outputs : shaped s → outputLaw s → outputLaw t

/-- What a change keeps: the laws above, and of the targets of offers and the owners of lines that they are UP, whichever
are excused. -/
structure Keeps (s t : State) : Prop where
  core : Core s t
  offers : ∀ ex, offersBut ex s → offersBut ex t
  owners : ∀ ex, ownersBut ex s → ownersBut ex t

theorem Core.refl (s : State) : Core s s where
  shape := id
  fifos _ := id
  table := id
  balance := id
  active _ _ := id
  fraction _ := id
  clock := id
  records := id
  reservations _ := id
  notices := id
  outputs _ := id

theorem Core.trans {s t u : State} (h : Core s t) (h' : Core t u) : Core s u where
  shape hs := h'.shape (h.shape hs)
  fifos hs hl := h'.fifos (h.shape hs) (h.fifos hs hl)
  table hl := h'.table (h.table hl)
  balance hl := h'.balance (h.balance hl)
  active hs ht hl := h'.active (h.shape hs) (h.table ht) (h.active hs ht hl)
  fraction hs hl := h'.fraction (h.shape hs) (h.fraction hs hl)
  clock hl := h'.clock (h.clock hl)
  records hl := h'.records (h.records hl)
  reservations hs hl := h'.reservations (h.shape hs) (h.reservations hs hl)
  notices hl := h'.notices (h.notices hl)
  outputs hs hl := h'.outputs (h.shape hs) (h.outputs hs hl)

theorem Keeps.refl (s : State) : Keeps s s := ⟨.refl s, fun _ => id, fun _ => id⟩

theorem Keeps.trans {s t u : State} (h : Keeps s t) (h' : Keeps t u) : Keeps s u :=
  ⟨h.core.trans h'.core, fun ex hl => h'.offers ex (h.offers ex hl), fun ex hl => h'.owners ex (h.owners ex hl)⟩

theorem Keeps.ite {s : State} {c : Prop} [Decidable c] {a b : State} (ha : c → Keeps s a) (hb : ¬c → Keeps s b) :
    Keeps s (if c then a else b) := by
  split
  · exact ha ‹_›
  · exact hb ‹_›

/-! ### The Account Table over a change -/

/-- The Account Table changed entry by entry, the active counts as given: no number and no limit changes, and no balance
grows. -/
def Booked (count : Account → Nat) (s t : State) : Prop :=
  ∃ g : Account → Account, t.accounts = s.accounts.map g ∧
    ∀ e, (g e).number = e.number ∧ (g e).limit = e.limit ∧ (g e).balance ≤ e.balance ∧ (g e).active = count e

theorem Booked.of_eq {s t : State} (h : t.accounts = s.accounts) : Booked (·.active) s t :=
  ⟨id, by simp [h], fun _ => ⟨rfl, rfl, le_refl _, rfl⟩⟩

/-- Active counts changed as a function of the number only compose with changes that keep them. -/
theorem Booked.trans {s t u : State} {a : Account → Nat} {b : Nat → Nat → Nat}
    (h : Booked a s t) (h' : Booked (fun e => b e.number e.active) t u) :
    Booked (fun e => b e.number (a e)) s u := by
  obtain ⟨g, hg, hgs⟩ := h
  obtain ⟨f, hf, hfs⟩ := h'
  refine ⟨f ∘ g, by rw [hf, hg, List.map_map], fun e => ?_⟩
  obtain ⟨hn, hl, hb, ha⟩ := hgs e
  obtain ⟨hn', hl', hb', ha'⟩ := hfs (g e)
  refine ⟨hn'.trans hn, hl'.trans hl, hb'.trans hb, ?_⟩
  simp [Function.comp, ha', hn, ha]

theorem Booked.trans_kept {s t u : State} {a : Account → Nat}
    (h : Booked a s t) (h' : Booked (·.active) t u) : Booked a s u :=
  Booked.trans (b := fun _ c => c) h h'

/-- A change of the entry that a line names, of its balance downwards and of its count. -/
theorem Booked.modAccountOf {s : State} {n : LineNo} {f : Account → Account} {b : Nat → Nat}
    (hf : ∀ e, (f e).number = e.number ∧ (f e).limit = e.limit ∧ (f e).balance ≤ e.balance ∧ (f e).active = b e.active) :
    Booked (fun e => if (s.ses n).account = some e.number then b e.active else e.active) s (s.modAccountOf n f) := by
  unfold State.modAccountOf
  cases ha : (s.ses n).account with
  | none => exact ⟨id, by simp, fun e => by simp⟩
  | some a =>
    refine ⟨_, rfl, fun e => ?_⟩
    by_cases hn : e.number = a
    · simp [hn, hf]
    · simp [hn, Ne.symm hn]

theorem Booked.table {c : Account → Nat} {s t : State} (h : Booked c s t) (hl : tableLaw s) : tableLaw t := by
  obtain ⟨g, hg, hgs⟩ := h
  obtain ⟨hlen, hsorted, hrange⟩ := hl
  refine ⟨by simpa [hg] using hlen, ?_, ?_⟩
  · rw [hg, List.pairwise_map]
    refine hsorted.imp fun {x y} hxy => ?_
    rw [(hgs x).1, (hgs y).1]
    exact hxy
  · intro e he
    rw [hg, List.mem_map] at he
    obtain ⟨x, hx, rfl⟩ := he
    rw [(hgs x).1]
    exact hrange x hx

theorem Booked.balance {c : Account → Nat} {s t : State} (h : Booked c s t) (hl : balanceLaw s) : balanceLaw t := by
  obtain ⟨g, hg, hgs⟩ := h
  intro e he
  rw [hg, List.mem_map] at he
  obtain ⟨x, hx, rfl⟩ := he
  exact (hgs x).2.2.1.trans (hl x hx)

/-- A number in the table stays in it. -/
theorem Booked.isSome {c : Account → Nat} {s t : State} (h : Booked c s t) (a : Nat) :
    (t.account? a).isSome = (s.account? a).isSome := by
  obtain ⟨g, hg, hgs⟩ := h
  rw [Bool.eq_iff_iff, account?_isSome_iff, account?_isSome_iff, hg]
  simp [(hgs _).1]

/-! ### The notice queues over a change -/

theorem noticeLaw_of_eq {s t : State} (hn : ∀ k, (t.port k).notices = (s.port k).notices)
    (hu : ∀ h, (t.host h).up = (s.host h).up) (hl : noticeLaw s) : noticeLaw t := by
  obtain ⟨hh, ha⟩ := hl
  refine ⟨fun h => ?_, ?_⟩
  · rw [hn, hu]; exact hh h
  · have := hn .acct
    simp only [State.port] at this
    rw [this]; exact ha

theorem link_host? (h : Computer) : h.link.host? = some h := by cases h <;> rfl

theorem host?_eq_some {k : Link} {h : Computer} (hk : k.host? = some h) : k = h.link := by
  cases k <;> cases h <;> simp_all [Link.host?, Computer.link]

/-- A notice placed in a queue with room, of a link that is not DOWN, keeps the law of the queues (R177). -/
theorem noticeLaw_pushNotice {s : State} {k : Link} (m : Notice) (hr : s.reachable k = true)
    (hf : s.queueFull k = false) (hl : noticeLaw s) : noticeLaw (s.pushNotice k m) := by
  obtain ⟨hh, ha⟩ := hl
  simp only [State.queueFull, decide_eq_false_iff_not, not_le] at hf
  refine ⟨fun h => ?_, ?_⟩
  · by_cases hk : h.link = k
    · subst hk
      have hup : (s.host h).up = true := by simpa [State.reachable, link_host?] using hr
      have : noticeRoom h.link = 32 := by cases h <;> rfl
      simp [State.pushNotice, hup]
      omega
    · simpa [State.pushNotice, State.port_modPort_ne _ _ _ _ hk] using hh h
  · by_cases hk : k = .acct
    · subst hk
      simp only [noticeRoom] at hf
      have : s.port .acct = s.portAcct := rfl
      simp [State.pushNotice, State.modPort]
      rw [this] at hf
      omega
    · have : (s.pushNotice k m).port .acct = s.port .acct := State.port_modPort_ne _ _ _ _ (Ne.symm hk)
      exact (congrArg (fun p : LinkPort => p.notices.length ≤ 16) this).mpr ha

theorem noticeLaw_postNotice {s : State} (k : Link) (m : Notice) (hl : noticeLaw s) : noticeLaw (s.postNotice k m) := by
  unfold State.postNotice
  split
  · exact hl
  split
  · exact hl
  next hr =>
  split
  · refine noticeLaw_of_eq (fun j => ?_) (fun h => by simp) hl
    by_cases hj : j = k
    · subst hj; simp
    · simp [State.port_modPort_ne, hj]
  next hf => exact noticeLaw_pushNotice m (by simpa using hr) (by simpa using hf) hl

end Sys2Proof.Keeping
end

section
/-! PROOFS. Slight changes: those on one line that leave its state, offer, owner, account and fraction, and the outputs,
as they are. -/

namespace Sys2Proof.Keeping


open Sys2Proof.Machine

variable {n : LineNo} {s t u : State}

/-! ### What the reach of a change leaves -/

theorem reaches_ses_ne (h : reaches n s t) {m : LineNo} (hm : m ≠ n) : t.ses m = s.ses m :=
  h (.session m) (by simp [lineParts, hm])
theorem reaches_unit_ne (h : reaches n s t) {m : LineNo} (hm : m ≠ n) : t.unit m = s.unit m :=
  h (.unit m) (by simp [lineParts, hm])
theorem reaches_host (h : reaches n s t) (g : Computer) : t.host g = s.host g := h (.host g) (by simp [lineParts])
theorem reaches_clock (h : reaches n s t) : t.clock = s.clock := h .clock (by simp [lineParts])
theorem reaches_params (h : reaches n s t) : t.params = s.params := h .params (by simp [lineParts])
theorem reaches_tariff (h : reaches n s t) : t.tariff = s.tariff := h .tariff (by simp [lineParts])

/-! ### Slight changes -/

/-- Two records of a line that the laws do not tell apart. -/
structure Alike (r r' : Session) : Prop where
  state : r'.state = r.state
  phase : r'.phase = r.phase
  offer : r'.offer = r.offer
  owner : r'.owner = r.owner
  account : r'.account = r.account
  f : r'.f = r.f
  timing : r.state = .outOfService → r'.stateTimer.isRunning = r.stateTimer.isRunning
  fifos : r.fifosSound → r'.fifosSound

/-- A change of other fields, and of the state timer and the FIFOs as the laws allow. -/
theorem Alike.of {r r' : Session} (h : (r'.state, r'.phase, r'.offer, r'.owner, r'.account, r'.f) =
      (r.state, r.phase, r.offer, r.owner, r.account, r.f))
    (timing : r.state = .outOfService → r'.stateTimer.isRunning = r.stateTimer.isRunning)
    (fifos : r.fifosSound → r'.fifosSound) : Alike r r' := by
  simp only [Prod.mk.injEq] at h
  obtain ⟨h1, h2, h3, h4, h5, h6⟩ := h
  exact ⟨h1, h2, h3, h4, h5, h6, timing, fifos⟩

/-- A change of other fields only. -/
theorem Alike.same {r r' : Session} (h : (r'.state, r'.phase, r'.offer, r'.owner, r'.account, r'.f) =
      (r.state, r.phase, r.offer, r.owner, r.account, r.f))
    (h' : (r'.stateTimer, r'.rx, r'.tx, r'.feed) = (r.stateTimer, r.rx, r.tx, r.feed)) : Alike r r' := by
  simp only [Prod.mk.injEq] at h h'
  obtain ⟨htimer, hrx, htx, hfeed⟩ := h'
  refine .of (by simp only [Prod.mk.injEq]; exact h) (fun _ => by rw [htimer]) fun hf => ?_
  unfold Session.fifosSound at hf ⊢
  rwa [hrx, htx, hfeed, h.1]

theorem Alike.refl (r : Session) : Alike r r := .same rfl rfl

theorem Alike.trans {r r' r'' : Session} (h : Alike r r') (h' : Alike r' r'') : Alike r r'' where
  state := h'.state.trans h.state
  phase := h'.phase.trans h.phase
  offer := h'.offer.trans h.offer
  owner := h'.owner.trans h.owner
  account := h'.account.trans h.account
  f := h'.f.trans h.f
  timing hs := (h'.timing (h.state.trans hs)).trans (h.timing hs)
  fifos hf := h'.fifos (h.fifos hf)

theorem Alike.offerShaped {r r' : Session} (h : Alike r r') (hr : offerShaped r) : offerShaped r' := by
  unfold Keeping.offerShaped
  rw [h.offer, h.state]
  exact hr

theorem Alike.fractionSound {r r' : Session} (h : Alike r r') (hr : fractionSound r) : fractionSound r' := by
  unfold Keeping.fractionSound
  rw [h.f, h.state]
  exact hr

theorem Alike.draining {r r' : Session} (h : Alike r r') : r'.draining = r.draining := by
  simp [Session.draining, h.state, h.phase]

theorem Alike.outputSound {r r' : Session} {u v : LineUnit} (h : Alike r r') (ha : v.ans = u.ans) (ht : v.trdy = u.trdy)
    (hr : outputSound r u) : outputSound r' v := by
  refine ⟨?_, ?_⟩
  · rw [ha, h.state, h.draining]; exact hr.1
  · rw [ht, hr.2, h.state]
    split
    · rw [h.draining]
    next hs => exact (h.timing hs).symm
    · rfl

/-- A change on a line that leaves the counts as they are, but for balances debited and notices posted. -/
structure Still (n : LineNo) (s t : State) : Prop where
  reach : reaches n s t
  booked : Booked (·.active) s t
  reservations : t.reservations = s.reservations
  records : t.records = s.records
  serial : t.serial = s.serial
  notices : noticeLaw s → noticeLaw t

namespace Still

theorem refl (n : LineNo) (s : State) : Still n s s where
  reach := .refl n s
  booked := .of_eq rfl
  reservations := rfl
  records := rfl
  serial := rfl
  notices := id

theorem trans (h : Still n s t) (h' : Still n t u) : Still n s u where
  reach := h.reach.trans h'.reach
  booked := h.booked.trans_kept h'.booked
  reservations := h'.reservations.trans h.reservations
  records := h'.records.trans h.records
  serial := h'.serial.trans h.serial
  notices hl := h'.notices (h.notices hl)

theorem ite {c : Prop} [Decidable c] {a b : State} (ha : c → Still n s a) (hb : ¬c → Still n s b) :
    Still n s (if c then a else b) := by
  split
  · exact ha ‹_›
  · exact hb ‹_›

theorem ses (h : Still n s t) (f : Session → Session) : Still n s (t.modSes n f) :=
  h.trans {
    reach := (reaches.refl n t).ses f
    booked := .of_eq rfl
    reservations := rfl
    records := rfl
    serial := rfl
    notices := noticeLaw_of_eq (fun k => by simp) fun g => by simp }

theorem unit (h : Still n s t) (f : LineUnit → LineUnit) : Still n s (t.modUnit n f) :=
  h.trans {
    reach := (reaches.refl n t).unit f
    booked := .of_eq rfl
    reservations := rfl
    records := rfl
    serial := rfl
    notices := noticeLaw_of_eq (fun k => by simp) fun g => by simp }

theorem sup (h : Still n s t) (f : Supervised → Supervised) : Still n s (t.modSup n f) :=
  h.trans {
    reach := (reaches.refl n t).sup f
    booked := .of_eq rfl
    reservations := rfl
    records := rfl
    serial := rfl
    notices := noticeLaw_of_eq (fun k => by simp) fun g => by simp }

theorem postNotice (h : Still n s t) (k : Link) (m : Notice) : Still n s (t.postNotice k m) :=
  h.trans {
    reach := (reaches.refl n t).postNotice k m
    booked := .of_eq (by simp)
    reservations := by simp
    records := by simp
    serial := by simp
    notices := noticeLaw_postNotice k m }

theorem service (h : Still n s t) (v : Service) : Still n s { t with service := v } :=
  h.trans {
    reach := (reaches.refl n t).service v
    booked := .of_eq rfl
    reservations := rfl
    records := rfl
    serial := rfl
    notices := noticeLaw_of_eq (fun k => by cases k <;> rfl) fun g => by cases g <;> rfl }

/-! ### Rest -/

theorem judgeDrained (h : Still n s t) : Still n s t.judgeDrained := by
  unfold State.judgeDrained
  exact ite (fun _ => (h.service _).postNotice _ _) fun _ => h

theorem idleEntry (h : Still n s t) : Still n s (t.idleEntry n) := (((h.ses _).unit _).unit _).judgeDrained
theorem outEntry (h : Still n s t) : Still n s (t.outEntry n) := ((h.ses _).unit _).judgeDrained
theorem guardEnd (h : Still n s t) : Still n s (t.guardEnd n) := ite (fun _ => h.outEntry) fun _ => h.idleEntry
theorem hangUp (h : Still n s t) : Still n s (t.hangUp n) :=
  ite (fun _ => ((h.unit _).ses _).guardEnd) fun _ => (h.unit _).ses _

end Still

/-- A change on a line that the laws do not see, but for balances debited and notices posted. -/
structure Slight (n : LineNo) (s t : State) : Prop extends Still n s t where
  ses : Alike (s.ses n) (t.ses n)
  ans : (t.unit n).ans = (s.unit n).ans
  trdy : (t.unit n).trdy = (s.unit n).trdy

namespace Slight

theorem refl (n : LineNo) (s : State) : Slight n s s where
  toStill := .refl n s
  ses := .refl _
  ans := rfl
  trdy := rfl

theorem trans (h : Slight n s t) (h' : Slight n t u) : Slight n s u where
  toStill := h.toStill.trans h'.toStill
  ses := h.ses.trans h'.ses
  ans := h'.ans.trans h.ans
  trdy := h'.trdy.trans h.trdy

theorem ite {c : Prop} [Decidable c] {a b : State} (ha : c → Slight n s a) (hb : ¬c → Slight n s b) :
    Slight n s (if c then a else b) := by
  split
  · exact ha ‹_›
  · exact hb ‹_›

theorem ses_of {f : Session → Session} (hf : Alike (s.ses n) (f (s.ses n))) : Slight n s (s.modSes n f) where
  toStill := (Still.refl n s).ses f
  ses := by simpa using hf
  ans := by simp
  trdy := by simp

theorem unit_of {f : LineUnit → LineUnit} (ha : (f (s.unit n)).ans = (s.unit n).ans)
    (ht : (f (s.unit n)).trdy = (s.unit n).trdy) : Slight n s (s.modUnit n f) where
  toStill := (Still.refl n s).unit f
  ses := by simpa using Alike.refl _
  ans := by simpa using ha
  trdy := by simpa using ht

theorem sup_of (f : Supervised → Supervised) : Slight n s (s.modSup n f) where
  toStill := (Still.refl n s).sup f
  ses := by simpa using Alike.refl _
  ans := by simp
  trdy := by simp

theorem post_of (k : Link) (m : Notice) : Slight n s (s.postNotice k m) where
  toStill := (Still.refl n s).postNotice k m
  ses := by simpa using Alike.refl _
  ans := by simp
  trdy := by simp

theorem ses' (h : Slight n s t) {f : Session → Session} (hf : Alike (t.ses n) (f (t.ses n))) :
    Slight n s (t.modSes n f) := h.trans (ses_of hf)
theorem unit (h : Slight n s t) {f : LineUnit → LineUnit} (ha : (f (t.unit n)).ans = (t.unit n).ans)
    (ht : (f (t.unit n)).trdy = (t.unit n).trdy) : Slight n s (t.modUnit n f) := h.trans (unit_of ha ht)
theorem sup (h : Slight n s t) (f : Supervised → Supervised) : Slight n s (t.modSup n f) := h.trans (sup_of f)
theorem postNotice (h : Slight n s t) (k : Link) (m : Notice) : Slight n s (t.postNotice k m) := h.trans (post_of k m)

/-! ### Faults, messages and the transmit FIFO -/

theorem raiseFault (h : Slight n s t) (k : FaultKind) : Slight n s (raiseFault t n k) := by
  unfold Machine.raiseFault
  exact ite (fun _ => h) fun _ => ite (fun _ => h.sup _) fun _ => (h.sup _).postNotice _ _

theorem requestMessage (h : Slight n s t) (slot : Fin 16) : Slight n s (t.requestMessage n slot) := by
  refine h.ses' ?_
  split
  next hlen =>
    refine .of rfl (fun _ => rfl) (fun ⟨h1, h2, h3, h4, h5⟩ => ⟨h1, h2, h3, h4, ?_⟩)
    simp; omega
  · exact .refl _

theorem emptyFeed (h : Slight n s t) : Slight n s (t.emptyFeed n) :=
  h.ses' (.of rfl (fun _ => rfl) (fun ⟨h1, h2, h3, h4, _⟩ => ⟨h1, h2, h3, h4, by simp⟩))

theorem emptyOut (h : Slight n s t) : Slight n s (t.emptyOut n) :=
  h.ses' (.of rfl (fun _ => rfl) (fun ⟨h1, _, h3, _, _⟩ => ⟨h1, by simp, h3, by simp, by simp⟩))

theorem reportTraffic (h : Slight n s t) : Slight n s (t.reportTraffic n) := h.sup _

/-- A transmitter that runs is in a state whose transmit FIFO may hold characters (R31, R109). -/
theorem txEmpty_of_transmits {r : Session} (h : r.transmits = true) : r.state.txEmpty = false := by
  cases hs : r.state <;> simp_all [Session.transmits, Session.draining, LineState.txEmpty]

theorem takeNext (h : Slight n s t) : Slight n s (t.takeNext n) := by
  unfold State.takeNext
  refine ite (fun hc => ?_) fun _ => h
  split
  · exact h.unit rfl rfl
  next c rest hflow htx =>
    refine (h.ses' (.of rfl (fun _ => rfl) (fun ⟨h1, h2, h3, h4, h5⟩ => ?_))).unit rfl rfl
    refine ⟨h1, fun he => ?_, h3, ?_, h5⟩
    · simp [txEmpty_of_transmits hc.2] at he
    · simp [htx] at h4; show rest.length ≤ 64; omega
  · exact h

/-- A character placed where there is room, on a line whose FIFO may hold it, and the next one taken. -/
theorem placeTx (h : Slight n s t) (c : Byte) (hlen : (t.ses n).tx.length < fifoSize)
    (hst : (t.ses n).state.txEmpty = false) : Slight n s (t.placeTx n c) := by
  refine (h.ses' (.of rfl (fun _ => rfl) (fun ⟨h1, _, h3, _, h5⟩ => ⟨h1, ?_, h3, ?_, h5⟩))).takeNext
  · simp [hst]
  · simp [fifoSize] at hlen ⊢; omega

theorem echo (h : Slight n s t) (c : Byte) (hst : (t.ses n).state.txEmpty = false) : Slight n s (t.echo n c) :=
  ite (fun hlen => h.placeTx c hlen hst) fun _ => h

theorem echoAll (h : Slight n s t) (cs : List Byte) (hst : (t.ses n).state.txEmpty = false) :
    Slight n s (t.echoAll n cs) := by
  induction cs generalizing t with
  | nil => exact h
  | cons c cs ih =>
    have he := (Slight.refl n t).echo c hst
    exact ih (h.trans he) (by rw [he.ses.state]; exact hst)

theorem placeFlow (h : Slight n s t) (c : Byte) : Slight n s (t.placeFlow n c) := (h.unit rfl rfl).takeNext

/-- A placed character lengthens the FIFO by one at most. -/
theorem tx_length_placeTx (t : State) (n : LineNo) (c : Byte) :
    ((t.placeTx n c).ses n).tx.length ≤ (t.ses n).tx.length + 1 := by
  unfold State.placeTx State.takeNext
  split
  · split
    · simp
    next c rest hflow htx =>
      simp at htx
      have := congrArg List.length htx
      simp at this
      simp; omega
    · simp
  · simp

theorem placeAll (h : Slight n s t) (cs : List Byte) (hlen : (t.ses n).tx.length + cs.length ≤ fifoSize)
    (hst : (t.ses n).state.txEmpty = false) : Slight n s (t.placeAll n cs) := by
  induction cs generalizing t with
  | nil => exact h
  | cons c cs ih =>
    simp only [List.length_cons] at hlen
    have hp := (Slight.refl n t).placeTx c (by omega) hst
    have htx := tx_length_placeTx t n c
    refine ih (h.trans hp) ?_ (by rw [hp.ses.state]; exact hst)
    show ((t.placeTx n c).ses n).tx.length + cs.length ≤ fifoSize
    omega

/-- A step of the message feed (R36). -/
theorem feedStep (h : Slight n s t) : Slight n s (t.feedStep n) := by
  unfold State.feedStep
  split
  · exact h
  next slot rest hfeed =>
    have hshorter : (t.ses n).fifosSound → rest.length ≤ 3 := by
      rintro ⟨-, -, -, -, h5⟩
      simp [hfeed] at h5; omega
    refine ite (fun _ => ?_) fun _ => ite (fun hc => ?_) fun _ => h
    · exact h.ses' (.of rfl (fun _ => rfl) (fun hs => ⟨hs.1, hs.2.1, hs.2.2.1, hs.2.2.2.1, hshorter hs⟩))
    · refine (h.ses' (f := fun r => if t.headLength slot ≤ (t.ses n).cursor + 1 then
          { r with feed := rest, cursor := 0 } else { r with cursor := (t.ses n).cursor + 1 }) ?_).placeTx _ ?_ ?_
      · split
        · exact .of rfl (fun _ => rfl) (fun hs => ⟨hs.1, hs.2.1, hs.2.2.1, hs.2.2.2.1, hshorter hs⟩)
        · exact .same rfl rfl
      · simp only [State.ses_modSes_self]; split <;> exact hc.1
      · simp only [State.ses_modSes_self]; split <;> exact txEmpty_of_transmits hc.2

/-! ### Timers and the receive FIFO -/

theorem idleTimer (h : Slight n s t) (x : Timer) : Slight n s (t.modSes n fun r => { r with idleTimer := x }) :=
  h.ses' (.same rfl rfl)

/-- A change of what the laws do not name in a record. -/
theorem restartIdle (h : Slight n s t) : Slight n s (t.restartIdle n) := h.idleTimer _

theorem relayActivity (h : Slight n s t) : Slight n s (t.relayActivity n) := ite (fun _ => h.restartIdle) fun _ => h

theorem judgeHighWater (h : Slight n s t) : Slight n s (t.judgeHighWater n) :=
  ite (fun _ => (h.ses' (.same rfl rfl)).placeFlow _) fun _ => h

theorem judgeLowWater (h : Slight n s t) : Slight n s (t.judgeLowWater n) :=
  ite (fun _ => (h.ses' (.same rfl rfl)).placeFlow _) fun _ => h

theorem receivePlace (h : Slight n s t) (c : Byte) (hst : (t.ses n).state = .connected ∨ (t.ses n).state = .held) :
    Slight n s (t.receivePlace n c) := by
  refine ite (fun hlen => ?_) fun _ => (h.unit rfl rfl).relayActivity
  refine ((h.ses' (.of rfl (fun _ => rfl) (fun ⟨_, h2, _, h4, h5⟩ => ⟨fun _ => hst, h2, ?_, h4, h5⟩))).relayActivity).judgeHighWater
  simp [fifoSize] at hlen ⊢; omega

/-! ### Charging -/

theorem notifyOwner (h : Slight n s t) (m : Notice) : Slight n s (t.notifyOwner n m) := by
  unfold State.notifyOwner
  split
  · exact h.postNotice _ _
  · exact h

/-- A debit of the account that a line names. -/
theorem debit_of {f : Account → Account}
    (hf : ∀ e, (f e).number = e.number ∧ (f e).limit = e.limit ∧ (f e).balance ≤ e.balance ∧ (f e).active = e.active) :
    Slight n s (s.modAccountOf n f) where
  reach := (reaches.refl n s).accountOf f
  ses := by simpa using Alike.refl _
  ans := by simp
  trdy := by simp
  booked := by simpa using Booked.modAccountOf (n := n) (b := id) hf
  reservations := by simp
  records := by simp
  serial := by simp
  notices := noticeLaw_of_eq (fun k => by simp) fun h => by simp

theorem unitDebit (h : Slight n s t) : Slight n s (t.unitDebit n).1 := by
  unfold State.unitDebit
  split
  · split
    · dsimp only
      refine Slight.ses' (h.trans (debit_of ?_)) (.same rfl rfl)
      exact fun e => ⟨rfl, rfl, Nat.sub_le _ _, rfl⟩
    · dsimp only
      exact h.ses' (.same rfl rfl)
  · exact h

theorem judgeWarning (h : Slight n s t) : Slight n s (t.judgeWarning n) := by
  unfold State.judgeWarning
  split
  · exact ite (fun _ => ((h.ses' (.same rfl rfl)).requestMessage _).notifyOwner _)
      fun _ => h
  · exact h

theorem judgeGrace (h : Slight n s t) (o : Bool) : Slight n s (t.judgeGrace n o).1 := by
  unfold State.judgeGrace
  split
  · split
    · split
      · exact h
      · exact ((h.ses' (.same rfl rfl)).requestMessage _).notifyOwner _
    · exact h
  · exact h

theorem chargeUnit (h : Slight n s t) : Slight n s (t.chargeUnit n).1 := h.unitDebit.judgeWarning.judgeGrace _

theorem chargeUnits (h : Slight n s t) (k : Nat) : Slight n s (t.chargeUnits n k).1 := by
  induction k generalizing t with
  | zero => exact h
  | succ k ih => exact ih h.chargeUnit

end Slight

end Sys2Proof.Keeping
end

section
/-! PROOFS. Changes on one line that move its session: what each leaves of the counts, and that it keeps the laws. -/

namespace Sys2Proof.Keeping


open Sys2Proof.Machine

variable {n : LineNo} {s t : State}

/-! ### Counting lines -/

/-- Two conditions that agree but at one place of a list without repetition count alike but there. -/
theorem countP_add_of_agree {l : List LineNo} (hl : l.Nodup) (hn : n ∈ l) {p q : LineNo → Bool}
    (hpq : ∀ m, m ≠ n → p m = q m) :
    l.countP p + (if q n then 1 else 0) = l.countP q + (if p n then 1 else 0) := by
  induction l with
  | nil => simp at hn
  | cons a l ih =>
    rw [List.nodup_cons] at hl
    rw [List.countP_cons, List.countP_cons]
    by_cases ha : a = n
    · subst ha
      have : l.countP p = l.countP q := List.countP_congr fun m hm => by
        rw [hpq m fun he => hl.1 (he ▸ hm)]
      omega
    · have := ih hl.2 ((List.mem_cons.1 hn).resolve_left (Ne.symm ha))
      rw [hpq a ha]
      omega

/-- A count over the lines' records where one line alone has changed. -/
theorem countLines_add (h : ∀ m, m ≠ n → t.ses m = s.ses m) (q : Session → Bool) :
    t.countLines (fun _ l => q l.ses) + (if q (s.ses n) then 1 else 0) =
      s.countLines (fun _ l => q l.ses) + (if q (t.ses n) then 1 else 0) := by
  refine countP_add_of_agree (n := n) (p := fun m => q (t.ses m)) (q := fun m => q (s.ses m)) (by decide)
    (State.mem_allLines n) fun m hm => ?_
  simp only [h m hm]

/-! ### The counts over a change on one line -/

/-- What a change on one line does to the counts of sessions: the line's session stays, leaves or joins. -/
inductive Ledger (n : LineNo) (s t : State) : Prop where
  | kept (session : (t.ses n).state.hasSession = (s.ses n).state.hasSession)
      (account : (s.ses n).state.hasSession = true → (t.ses n).account = (s.ses n).account)
      (reservations : t.reservations = s.reservations) (records : t.records.length = s.records.length)
      (booked : Booked (·.active) s t)
  | left (before : (s.ses n).state.hasSession = true) (after : (t.ses n).state.hasSession = false)
      (reservations : t.reservations = s.reservations - 1) (records : t.records.length ≤ s.records.length + 1)
      (booked : Booked (fun e => if (s.ses n).account = some e.number then e.active - 1 else e.active) s t)
  | joined (a : Nat) (before : (s.ses n).state.hasSession = false) (after : (t.ses n).state.hasSession = true)
      (account : (t.ses n).account = some a) (reservations : t.reservations = s.reservations + 1)
      (records : t.records.length = s.records.length) (room : s.records.length + s.reservations < 32)
      (entry : ∃ e, s.account? a = some e ∧ e.active < e.limit)
      (booked : Booked (fun e => if a = e.number then e.active + 1 else e.active) s t)

theorem Ledger.reservationLaw (h : Ledger n s t) (ho : ∀ m, m ≠ n → t.ses m = s.ses m) (hl : reservationLaw s) :
    reservationLaw t := by
  obtain ⟨hcount, hsum⟩ := hl
  have hadd := countLines_add ho (fun r => r.state.hasSession)
  cases h with
  | kept session account reservations records booked =>
    rw [session] at hadd
    refine ⟨?_, ?_⟩ <;> omega
  | left before after reservations records booked =>
    simp only [before, after, if_true, Bool.false_eq_true, if_false] at hadd
    refine ⟨?_, ?_⟩ <;> omega
  | joined a before after account reservations records room entry booked =>
    simp only [before, after, if_true, Bool.false_eq_true, if_false] at hadd
    refine ⟨?_, ?_⟩ <;> omega

/-- A line with a session names an entry that is present, whatever a change that keeps the numbers does elsewhere. -/
theorem accountOf_isSome_of {c : Account → Nat} {m : LineNo} (hb : Booked c s t)
    (ha : (t.ses m).account = (s.ses m).account) (hs : (s.accountOf m).isSome = true) :
    (t.accountOf m).isSome = true := by
  unfold State.accountOf at hs ⊢
  rw [ha]
  cases hn : (s.ses m).account with
  | none => simp [hn] at hs
  | some a =>
    rw [hn] at hs
    simpa [hb.isSome a] using hs

theorem Ledger.activeLaw (h : Ledger n s t) (ho : ∀ m, m ≠ n → t.ses m = s.ses m) (ht : tableLaw s)
    (hl : activeLaw s) : activeLaw t := by
  obtain ⟨hact, hnames⟩ := hl
  have hadd : ∀ a, _ := fun a => countLines_add ho (fun r => r.names a)
  cases h with
  | kept session account reservations records booked =>
    have hsame : ∀ a, (t.ses n).names a = (s.ses n).names a := fun a => by
      unfold Session.names
      rw [session]
      cases hs : (s.ses n).state.hasSession with
      | false => rfl
      | true => rw [account hs]
    have hb := booked
    obtain ⟨g, hg, hgs⟩ := booked
    refine ⟨fun e he => ?_, fun m hm => ?_⟩
    · rw [hg, List.mem_map] at he
      obtain ⟨x, hx, rfl⟩ := he
      obtain ⟨hn, hlim, -, ha⟩ := hgs x
      obtain ⟨h1, h2, h3⟩ := hact x hx
      have := hadd x.number
      rw [hsame] at this
      rw [hn, ha, hlim]
      dsimp only
      exact ⟨by omega, h2, h3⟩
    · by_cases hmn : m = n
      · subst hmn
        rw [session] at hm
        exact accountOf_isSome_of hb (account hm) (hnames m hm)
      · rw [ho m hmn] at hm
        exact accountOf_isSome_of hb (by rw [ho m hmn]) (hnames m hm)
  | left before after reservations records booked =>
    have hb := booked
    obtain ⟨g, hg, hgs⟩ := booked
    refine ⟨fun e he => ?_, fun m hm => ?_⟩
    · rw [hg, List.mem_map] at he
      obtain ⟨x, hx, rfl⟩ := he
      obtain ⟨hn, hlim, -, ha⟩ := hgs x
      obtain ⟨h1, h2, h3⟩ := hact x hx
      have := hadd x.number
      simp only [Session.names, before, after, Bool.true_and, Bool.false_and, beq_iff_eq] at this
      rw [hn, ha, hlim]
      simp only [Session.names] at h1 ⊢
      by_cases hnum : (s.ses n).account = some x.number
      · simp only [hnum, if_true, Bool.false_eq_true, if_false] at this ⊢
        exact ⟨by omega, by omega, h3⟩
      · simp only [hnum, if_false, Bool.false_eq_true] at this ⊢
        exact ⟨by omega, h2, h3⟩
    · have hmn : m ≠ n := fun he => by rw [he, after] at hm; cases hm
      rw [ho m hmn] at hm
      exact accountOf_isSome_of hb (by rw [ho m hmn]) (hnames m hm)
  | joined a before after account reservations records room entry booked =>
    have hb := booked
    obtain ⟨e₀, he₀, hroom⟩ := entry
    obtain ⟨hmem, hnum₀⟩ := account?_eq_some he₀
    obtain ⟨g, hg, hgs⟩ := booked
    refine ⟨fun e he => ?_, fun m hm => ?_⟩
    · rw [hg, List.mem_map] at he
      obtain ⟨x, hx, rfl⟩ := he
      obtain ⟨hn, hlim, -, ha⟩ := hgs x
      obtain ⟨h1, h2, h3⟩ := hact x hx
      have := hadd x.number
      simp only [Session.names, before, after, account, Bool.true_and, Bool.false_and, beq_iff_eq,
        Option.some.injEq] at this
      rw [hn, ha, hlim]
      simp only [Session.names] at h1 ⊢
      by_cases hnum : a = x.number
      · obtain rfl : x = e₀ := tableLaw_unique ht hx hmem (by rw [hnum₀, hnum])
        simp only [hnum, if_true, Bool.false_eq_true, if_false] at this ⊢
        exact ⟨by omega, by omega, h3⟩
      · simp only [hnum, if_false, Bool.false_eq_true] at this ⊢
        exact ⟨by omega, h2, h3⟩
    · by_cases hmn : m = n
      · subst hmn
        simp [State.accountOf, account, hb.isSome a, he₀]
      · rw [ho m hmn] at hm
        exact accountOf_isSome_of hb (by rw [ho m hmn]) (hnames m hm)

/-! ### Shifts -/

/-- A change on one line, by what it does to each law's part of that line. -/
structure Shift (n : LineNo) (s t : State) : Prop where
  reach : reaches n s t
  shape : offerShaped (s.ses n) → offerShaped (t.ses n)
  target : ∀ o, (t.ses n).offer = some o →
    (∃ o', (s.ses n).offer = some o' ∧ o'.target = o.target) ∨ (s.host o.target).up = true
  owner : (t.ses n).state = .connected →
    (s.ses n).state = .connected ∧ (t.ses n).owner = (s.ses n).owner ∨
      ∃ h, (t.ses n).owner = some h ∧ (s.host h).up = true
  fifos : offerShaped (s.ses n) → (s.ses n).fifosSound → (t.ses n).fifosSound
  fraction : offerShaped (s.ses n) → fractionSound (s.ses n) → fractionSound (t.ses n)
  outputs : offerShaped (s.ses n) → outputSound (s.ses n) (s.unit n) → outputSound (t.ses n) (t.unit n)
  booked : ∃ c, Booked c s t
  records : recordLaw s → recordLaw t
  notices : noticeLaw s → noticeLaw t
  ledger : offerShaped (s.ses n) → Ledger n s t

/-- What a change on one line does to that line it does to every line. -/
theorem forall_lines {P Q : LineNo → Prop} (hP : ∀ m, P m) (hne : ∀ m, m ≠ n → P m → Q m) (hn : P n → Q n) (m : LineNo) :
    Q m := by
  by_cases hm : m = n
  · subst hm; exact hn (hP m)
  · exact hne m hm (hP m)

theorem Shift.keeps (h : Shift n s t) : Keeps s t where
  core := by
    have ho : ∀ m, m ≠ n → t.ses m = s.ses m := fun m hm => reaches_ses_ne h.reach hm
    have hu : ∀ m, m ≠ n → t.unit m = s.unit m := fun m hm => reaches_unit_ne h.reach hm
    obtain ⟨c, hb⟩ := h.booked
    exact {
      shape := fun hs => forall_lines hs (fun m hm hp => by rw [ho m hm]; exact hp) h.shape
      fifos := fun hs hl => forall_lines hl (fun m hm hp => by rw [ho m hm]; exact hp) (h.fifos (hs n))
      table := hb.table
      balance := hb.balance
      active := fun hs ht hl => (h.ledger (hs n)).activeLaw ho ht hl
      fraction := fun hs hl =>
        forall_lines (P := fun m => fractionSound (s.ses m)) hl (fun m hm hp => by rw [ho m hm]; exact hp)
          (h.fraction (hs n))
      clock := fun hl => by unfold clockLaw; rw [reaches_clock h.reach]; exact hl
      records := h.records
      reservations := fun hs hl => (h.ledger (hs n)).reservationLaw ho hl
      notices := h.notices
      outputs := fun hs hl =>
        forall_lines (P := fun m => outputSound (s.ses m) (s.unit m)) hl
          (fun m hm hp => by rw [ho m hm, hu m hm]; exact hp) (h.outputs (hs n)) }
  offers := fun ex hl m o hmo => by
    rw [reaches_host h.reach]
    by_cases hm : m = n
    · subst hm
      rcases h.target o hmo with ⟨o', ho', htar⟩ | hup
      · rw [← htar]; exact hl m o' ho'
      · exact .inl hup
    · rw [reaches_ses_ne h.reach hm] at hmo
      exact hl m o hmo
  owners := fun ex hl m hm => by
    by_cases hmn : m = n
    · subst hmn
      rcases h.owner hm with ⟨hs, ho⟩ | ⟨g, hg, hup⟩
      · rw [ho]
        simpa only [reaches_host h.reach] using hl m hs
      · exact .inl ⟨g, hg, by rw [reaches_host h.reach]; exact hup⟩
    · rw [reaches_ses_ne h.reach hmn] at hm ⊢
      simpa only [reaches_host h.reach] using hl m hm

theorem recordLaw_of_eq (hr : t.records = s.records) (hs : t.serial = s.serial) (hl : recordLaw s) : recordLaw t := by
  unfold recordLaw
  rw [hr, hs]
  exact hl

/-- A change on one line that leaves the counts as they are, by what it does to the line's record and outputs. -/
theorem Shift.of_still (h : Still n s t) (shape : offerShaped (s.ses n) → offerShaped (t.ses n))
    (target : ∀ o, (t.ses n).offer = some o →
      (∃ o', (s.ses n).offer = some o' ∧ o'.target = o.target) ∨ (s.host o.target).up = true)
    (owner : (t.ses n).state = .connected →
      (s.ses n).state = .connected ∧ (t.ses n).owner = (s.ses n).owner ∨
        ∃ g, (t.ses n).owner = some g ∧ (s.host g).up = true)
    (fifos : offerShaped (s.ses n) → (s.ses n).fifosSound → (t.ses n).fifosSound)
    (fraction : offerShaped (s.ses n) → fractionSound (s.ses n) → fractionSound (t.ses n))
    (outputs : offerShaped (s.ses n) → outputSound (s.ses n) (s.unit n) → outputSound (t.ses n) (t.unit n))
    (session : offerShaped (s.ses n) → (t.ses n).state.hasSession = (s.ses n).state.hasSession ∧
      ((s.ses n).state.hasSession = true → (t.ses n).account = (s.ses n).account)) : Shift n s t where
  reach := h.reach
  shape := shape
  target := target
  owner := owner
  fifos := fifos
  fraction := fraction
  outputs := outputs
  booked := ⟨_, h.booked⟩
  records := recordLaw_of_eq h.records h.serial
  notices := h.notices
  ledger hs := .kept (session hs).1 (session hs).2 h.reservations (by rw [h.records]) h.booked

/-- A slight change keeps the laws. -/
theorem Slight.keeps (h : Slight n s t) : Keeps s t :=
  Shift.keeps (Shift.of_still h.toStill h.ses.offerShaped (fun o ho => .inl ⟨o, by rw [← h.ses.offer]; exact ho, rfl⟩)
    (fun hs => .inl ⟨by rw [← h.ses.state]; exact hs, h.ses.owner⟩) (fun _ => h.ses.fifos) (fun _ => h.ses.fractionSound)
    (fun _ => h.ses.outputSound h.ans h.trdy) fun _ => ⟨by rw [h.ses.state], fun _ => h.ses.account⟩)

end Sys2Proof.Keeping
end

section
/-! PROOFS. A session that leaves its line, the hang-up and the clearing sequence keep the laws. -/

namespace Sys2Proof.Keeping


open Sys2Proof.Machine

variable {n : LineNo} {s t u : State}

/-! ### Leaving -/

/-- A change that takes one session of the line's account off the counts, with a record or without. -/
structure Leaves (n : LineNo) (s t : State) : Prop where
  reach : reaches n s t
  booked : Booked (fun e => if (s.ses n).account = some e.number then e.active - 1 else e.active) s t
  reservations : t.reservations = s.reservations - 1
  length : t.records.length ≤ s.records.length + 1
  records : recordLaw s → recordLaw t
  notices : noticeLaw s → noticeLaw t

theorem Leaves.of_still (h : Still n s t) (ha : (t.ses n).account = (s.ses n).account) (h' : Leaves n t u) :
    Leaves n s u where
  reach := h.reach.trans h'.reach
  booked := by
    have hb := h'.booked
    rw [ha] at hb
    exact Booked.trans (b := fun a c => if (s.ses n).account = some a then c - 1 else c) h.booked hb
  reservations := by rw [h'.reservations, h.reservations]
  length := by rw [← h.records]; exact h'.length
  records hl := h'.records (recordLaw_of_eq h.records h.serial hl)
  notices hl := h'.notices (h.notices hl)

theorem Leaves.still (h : Leaves n s t) (h' : Still n t u) : Leaves n s u where
  reach := h.reach.trans h'.reach
  booked := h.booked.trans_kept h'.booked
  reservations := by rw [h'.reservations, h.reservations]
  length := by rw [h'.records]; exact h.length
  records hl := recordLaw_of_eq h'.records h'.serial (h.records hl)
  notices hl := h'.notices (h.notices hl)

/-- A session that leaves its line, by what the change does to the line's record and outputs. -/
theorem Shift.of_leaves (h : Leaves n s t) (shape : offerShaped (s.ses n) → offerShaped (t.ses n))
    (target : ∀ o, (t.ses n).offer = some o →
      (∃ o', (s.ses n).offer = some o' ∧ o'.target = o.target) ∨ (s.host o.target).up = true)
    (fifos : offerShaped (s.ses n) → (s.ses n).fifosSound → (t.ses n).fifosSound)
    (fraction : offerShaped (s.ses n) → fractionSound (s.ses n) → fractionSound (t.ses n))
    (outputs : offerShaped (s.ses n) → outputSound (s.ses n) (s.unit n) → outputSound (t.ses n) (t.unit n))
    (before : offerShaped (s.ses n) → (s.ses n).state.hasSession = true)
    (after : (t.ses n).state.hasSession = false) : Shift n s t where
  reach := h.reach
  shape := shape
  target := target
  owner hs := by rw [hs] at after; cases after
  fifos := fifos
  fraction := fraction
  outputs := outputs
  booked := ⟨_, h.booked⟩
  records := h.records
  notices := h.notices
  ledger hs := .left (before hs) after h.reservations h.length h.booked

/-- Serials that run up to the counter go on with a record that takes it (R152). -/
theorem serialsRun_append {next : Nat} {rs : List ChargeRecord} {x : ChargeRecord} (h : serialsRun next rs)
    (hx : x.serial = next) : serialsRun ((next + 1) % 65536) (rs ++ [x]) := by
  induction rs with
  | nil => simp [serialsRun, hx]
  | cons r rest ih =>
    cases rest with
    | nil => simpa [serialsRun, hx] using h
    | cons r' rest => exact ⟨h.1, ih h.2⟩

/-- A record that takes the serial counter keeps the law of record order (R151, R152). -/
theorem recordLaw_queueRecord {x : ChargeRecord} (hx : x.serial = s.serial) (hl : recordLaw s) :
    recordLaw (s.queueRecord x) :=
  ⟨serialsRun_append hl.1 hx, Nat.mod_lt _ (by decide)⟩

theorem Still.unitDebit (h : Still n s t) : Still n s (t.unitDebit n).1 :=
  h.trans ((Slight.refl n t).unitDebit).toStill

theorem Still.endRounding (h : Still n s t) : Still n s (t.endRounding n) := by
  unfold State.endRounding
  exact (Still.ite (fun _ => h.unitDebit) fun _ => h).ses _

theorem account_endRounding (t : State) (n : LineNo) : ((t.endRounding n).ses n).account = (t.ses n).account := by
  obtain ⟨d, o, h⟩ := t.ses_unitDebit n
  unfold State.endRounding
  dsimp only
  split <;> simp [h]

theorem Still.notifyOwner (h : Still n s t) (m : Notice) : Still n s (t.notifyOwner n m) :=
  h.trans ((Slight.refl n t).notifyOwner m).toStill

theorem leaves_queueRecord {x : ChargeRecord} (hx : x.serial = s.serial) :
    Leaves n s ((s.queueRecord x).modAccountOf n fun e => { e with active := e.active - 1 }) where
  reach := ((reaches.refl n s).queueRecord x).accountOf _
  booked := Booked.modAccountOf (s := s.queueRecord x) (n := n) (b := (· - 1))
    fun e => ⟨rfl, rfl, le_refl _, rfl⟩
  reservations := by simp
  length := by simp
  records hl := recordLaw_of_eq (by simp) (by simp) (recordLaw_queueRecord hx hl)
  notices := noticeLaw_of_eq (fun k => by simp) fun g => by simp

/-- The session closing (R8). -/
theorem leaves_closeSession (t : State) (was : LineState) (c : Cause) : Leaves n t (t.closeSession n was c) := by
  have hr : Still n t (t.endRounding n) := (Still.refl n t).endRounding
  unfold State.closeSession State.notifyCleared State.resetBilling
  refine (Leaves.of_still hr (account_endRounding t n)
    (leaves_queueRecord (x := (t.endRounding n).buildRecord n was c) rfl)).still ?_
  exact (Still.ite (fun _ => (Still.refl n _).notifyOwner _) fun _ => Still.refl n _).ses _

/-- An admission given back (R9, R84). -/
theorem leaves_releaseAdmission (t : State) : Leaves n t (t.releaseAdmission n) where
  reach := (reaches.refl n t).releaseAdmission
  booked := Booked.modAccountOf (s := { t with reservations := t.reservations - 1 }) (n := n) (b := (· - 1))
    fun e => ⟨rfl, rfl, le_refl _, rfl⟩
  reservations := by simp
  length := by simp
  records := recordLaw_of_eq (by simp) (by simp)
  notices := noticeLaw_of_eq (fun k => by simp) fun g => by simp

/-! ### The end of a call -/

/-- A record of a line at rest, or in phase GUARD, with no offer and nothing received. -/
structure Ended (r : Session) (r' : Session) : Prop where
  state : r'.state = .clearing ∨ r'.state = .idle ∨ r'.state = .outOfService
  offer : r'.offer = none
  rx : r'.rx = []
  f : r'.f = 0 ∨ r'.f = r.f
  fifos : r.fifosSound → r'.fifosSound

theorem Ended.hasSession {r r' : Session} (h : Ended r r') : r'.state.hasSession = false := by
  rcases h.state with hs | hs | hs <;> rw [hs] <;> rfl

theorem Ended.offerShaped {r r' : Session} (h : Ended r r') : offerShaped r' :=
  offerShaped_of_none h.offer (by rcases h.state with hs | hs | hs <;> rw [hs] <;> decide)

theorem Ended.fractionSound {r r' : Session} (h : Ended r r') (hf : r.f = 0) : fractionSound r' := by
  have : r'.f = 0 := by rcases h.f with h0 | h0 <;> simp [h0, hf]
  exact ⟨by omega, fun _ _ => this⟩

theorem ended_outRecord (r : Session) : Ended r (outRecord r) :=
  ⟨.inr (.inr rfl), rfl, rfl, .inl rfl, fun _ => ⟨by simp [outRecord, Session.reset], by simp [outRecord, Session.reset],
    by simp [outRecord, Session.reset], by simp [outRecord, Session.reset], by simp [outRecord, Session.reset]⟩⟩

theorem ended_idleRecord (r : Session) : Ended r (idleRecord r) :=
  ⟨.inr (.inl rfl), rfl, rfl, .inl rfl, fun _ => ⟨by simp [idleRecord, Session.reset],
    by simp [idleRecord, Session.reset], by simp [idleRecord, Session.reset], by simp [idleRecord, Session.reset],
    by simp [idleRecord, Session.reset]⟩⟩

theorem outputSound_outRecord {u : LineUnit} (r : Session) (ha : u.ans = false) (ht : u.trdy = false) :
    outputSound (outRecord r) u := by
  refine ⟨?_, ?_⟩
  · rw [ha]; rfl
  · rw [ht]; rfl

theorem outputSound_idleRecord {u : LineUnit} (r : Session) (ha : u.ans = false) (ht : u.trdy = true) :
    outputSound (idleRecord r) u := by
  refine ⟨?_, ?_⟩
  · rw [ha]; rfl
  · rw [ht]; rfl

/-- A CLEARING line with no offer and nothing received that hangs up (R14). -/
theorem hangUp_ended {t : State} (hs : (t.ses n).state = .clearing) (ho : (t.ses n).offer = none)
    (hrx : (t.ses n).rx = []) :
    Ended (t.ses n) ((t.hangUp n).ses n) ∧ outputSound ((t.hangUp n).ses n) ((t.hangUp n).unit n) := by
  obtain ⟨hguard, hrest⟩ := t.hangUp_hungUp n
  by_cases hg : t.params.guardTime = 0
  · obtain ⟨hans, -, hout, hidle, -⟩ := hrest hg
    cases hd : (t.ses n).disablePending with
    | true =>
      obtain ⟨hses, -, htrdy, -⟩ := hout hd
      rw [hses]
      exact ⟨ended_outRecord _, outputSound_outRecord _ hans htrdy⟩
    | false =>
      obtain ⟨hses, htrdy, -⟩ := hidle hd
      rw [hses]
      exact ⟨ended_idleRecord _, outputSound_idleRecord _ hans htrdy⟩
  · obtain ⟨hses, hunit, -⟩ := hguard hg
    rw [hses, hunit]
    refine ⟨⟨.inl hs, ho, hrx, .inr rfl, id⟩, ?_⟩
    simp [outputSound, hs, LineState.active, Session.draining]

theorem Still.drainContents (h : Still n s t) (c : Cause) : Still n s (t.drainContents n c) :=
  Still.ite (fun _ => h.ses _) fun _ => Still.ite (fun _ => h.ses _) fun _ => h

theorem Still.startDrain (h : Still n s t) (c : Cause) : Still n s (t.startDrain n c) := by
  unfold State.startDrain
  exact Still.ite (fun _ => (h.ses _).hangUp) fun _ =>
    Still.ite (fun _ => ((h.drainContents c).ses _).hangUp) fun _ => (h.drainContents c).ses _

/-- Less to send keeps a line's record alike. -/
theorem slight_drainContents (t : State) (c : Cause) : Slight n t (t.drainContents n c) :=
  Slight.ite (fun _ => (Slight.refl n t).emptyOut) fun _ => Slight.ite (fun _ => (Slight.refl n t).emptyFeed)
    fun _ => Slight.refl n t

theorem rx_drainContents (t : State) (c : Cause) : ((t.drainContents n c).ses n).rx = (t.ses n).rx := by
  unfold State.drainContents State.emptyOut State.emptyFeed
  split
  · simp
  · split <;> simp

/-- The end of the entry to CLEARING (R11, R12). -/
theorem startDrain_ended {t : State} (c : Cause) (hs : (t.ses n).state = .clearing) (ho : (t.ses n).offer = none)
    (hrx : (t.ses n).rx = []) :
    Ended (t.ses n) ((t.startDrain n c).ses n) ∧ ((t.unit n).ans = true → (t.unit n).trdy = true →
      outputSound ((t.startDrain n c).ses n) ((t.startDrain n c).unit n)) := by
  have hangs : ∀ v : State, Alike (t.ses n) (v.ses n) → (v.ses n).rx = [] →
      Ended (t.ses n) ((v.hangUp n).ses n) ∧ outputSound ((v.hangUp n).ses n) ((v.hangUp n).unit n) := by
    intro v ha hvrx
    obtain ⟨he, hout⟩ := hangUp_ended (ha.state.trans hs) (ha.offer.trans ho) hvrx
    exact ⟨⟨he.state, he.offer, he.rx, by rw [← ha.f]; exact he.f, fun hf => he.fifos (ha.fifos hf)⟩, hout⟩
  unfold State.startDrain
  split
  · obtain ⟨he, hout⟩ := hangs (t.emptyOut n) (Slight.refl n t).emptyOut.ses (by simp [State.emptyOut, hrx])
    exact ⟨he, fun _ _ => hout⟩
  · have hleft := slight_drainContents (n := n) t c
    have hleftrx := (rx_drainContents (n := n) t c).trans hrx
    generalize t.drainContents n c = left at hleft hleftrx
    dsimp only
    split
    · have hphase : ∀ v : State, v = left.modSes n (fun r =>
          { r with phase := .drain, stateTimer := .running (t.params.drainLimit * 1000) }) →
          Ended (t.ses n) ((v.hangUp n).ses n) ∧ outputSound ((v.hangUp n).ses n) ((v.hangUp n).unit n) := by
        rintro v rfl
        obtain ⟨he, hout⟩ := hangUp_ended (t := left.modSes n (fun r =>
          { r with phase := .drain, stateTimer := .running (t.params.drainLimit * 1000) })) (n := n)
          (by simpa using hleft.ses.state.trans hs) (by simpa using hleft.ses.offer.trans ho) (by simpa using hleftrx)
        refine ⟨⟨he.state, he.offer, he.rx, ?_, fun hf => he.fifos ?_⟩, hout⟩
        · simpa [hleft.ses.f] using he.f
        · rw [State.ses_modSes_self]; exact hleft.ses.fifos hf
      obtain ⟨he, hout⟩ := hphase _ rfl
      exact ⟨he, fun _ _ => hout⟩
    · rw [State.ses_modSes_self, State.unit_modSes]
      have hstate := hleft.ses.state.trans hs
      refine ⟨⟨.inl hstate, hleft.ses.offer.trans ho, hleftrx, .inr hleft.ses.f, fun hf => hleft.ses.fifos hf⟩,
        fun ha ht => ?_⟩
      simp [outputSound, hstate, Session.draining, LineState.active, hleft.ans, hleft.trdy, ha, ht]

/-! ### The clearing sequence -/

theorem Still.takeClear (h : Still n s t) (c : Cause) : Still n s (t.takeClear n c) := by
  unfold State.takeClear
  exact (h.ses _).unit _

/-- A withdrawal that gives no admission back. -/
theorem Still.withdrawOffer (h : Still n s t) {was : LineState} (hw : was ≠ .offered ∨ (t.ses n).offer = none)
    (c : Cause) : Still n s (t.withdrawOffer n was c) := by
  unfold State.withdrawOffer
  split
  next o ho =>
    have hne : was ≠ .offered := hw.resolve_right (by simp [ho])
    dsimp only
    rw [if_neg hne]
    split
    · exact (h.ses _).postNotice _ _
    · exact h.ses _
  · exact h

/-- The withdrawal of an OFFERED line's offer gives its admission back (R9). -/
theorem leaves_withdrawOffer {o : Offer} (ho : (t.ses n).offer = some o) (c : Cause) :
    Leaves n t (t.withdrawOffer n .offered c) := by
  unfold State.withdrawOffer State.dropOffer
  rw [ho]
  dsimp only
  rw [if_pos rfl]
  split
  · exact Leaves.of_still (((Still.refl n t).ses _).postNotice _ _) (by simp) (leaves_releaseAdmission _)
  · exact Leaves.of_still ((Still.refl n t).ses _) (by simp) (leaves_releaseAdmission _)

theorem Still.finalMessage (h : Still n s t) (c : Cause) : Still n s (t.finalMessage n c) := by
  unfold State.finalMessage
  split
  · exact Still.ite (fun _ => h.ses _) fun _ => h
  · exact h

/-- The account that a line's record names as its clear is taken. -/
theorem takeClear_account (s : State) (n : LineNo) (c : Cause) :
    ((s.takeClear n c).ses n).account = (s.ses n).account ∧ ((s.takeClear n c).ses n).offer = (s.ses n).offer := by
  simp [State.ses_takeClear]

/-- What a clear does to the counts, by the state it finds the line in (R8, R9). -/
theorem beforeDrain_counts (s : State) (n : LineNo) (c : Cause) :
    ((s.ses n).state = .connected ∨ (s.ses n).state = .held → Leaves n s (s.beforeDrain n c)) ∧
    (∀ o, (s.ses n).state = .offered → (s.ses n).offer = some o → Leaves n s (s.beforeDrain n c)) ∧
    ((s.ses n).state ≠ .connected → (s.ses n).state ≠ .held →
      (s.ses n).state ≠ .offered ∨ (s.ses n).offer = none → Still n s (s.beforeDrain n c)) := by
  have htaken : Still n s (s.takeClear n c) := (Still.refl n s).takeClear c
  obtain ⟨hacc, hoff⟩ := takeClear_account s n c
  unfold State.beforeDrain
  refine ⟨fun hw => ?_, fun o hw ho => ?_, fun h1 h2 h3 => ?_⟩
  · dsimp only
    rw [if_pos hw]
    refine (Leaves.of_still htaken hacc (leaves_closeSession _ (s.ses n).state c)).still ?_
    refine ((Still.refl n _).withdrawOffer (.inl ?_) c).finalMessage c
    rcases hw with hw | hw <;> rw [hw] <;> decide
  · simp only [hw]
    rw [if_neg (by decide)]
    exact ((Leaves.of_still htaken hacc (leaves_withdrawOffer (hoff.trans ho) c)).still
      ((Still.refl n _).finalMessage c))
  · dsimp only
    rw [if_neg (by simp [h1, h2])]
    exact (htaken.withdrawOffer (h3.imp_right fun h => hoff.trans h) c).finalMessage c

theorem slight_finalMessage (t : State) (c : Cause) : Slight n t (t.finalMessage n c) := by
  unfold State.finalMessage
  split
  · exact Slight.ite (fun _ => (Slight.refl n t).requestMessage _) fun _ => Slight.refl n t
  · exact Slight.refl n t

/-- Only a session that is closed has its fraction reset (R8). -/
theorem beforeDrain_f (s : State) (n : LineNo) (c : Cause) (h1 : (s.ses n).state ≠ .connected)
    (h2 : (s.ses n).state ≠ .held) : ((s.beforeDrain n c).ses n).f = (s.ses n).f := by
  unfold State.beforeDrain
  dsimp only
  rw [if_neg (by simp [h1, h2]), (slight_finalMessage _ c).ses.f, State.ses_withdrawOffer, State.ses_takeClear]

/-- A clear request keeps the laws (R6 to R13). -/
theorem shift_enterClearing (c : Cause) (ha : (s.ses n).state.active = true) : Shift n s (s.enterClearing n c) := by
  obtain ⟨hleave, hleaveOffer, hstill⟩ := beforeDrain_counts s n c
  obtain ⟨f, bs, hs, d, o, fe, st, w, cur, ot, hses, -, hf⟩ := s.beforeDrain_ses n c
  obtain ⟨x, hunit⟩ := s.unit_takeClear n c
  have hunit := (s.beforeDrain_unit n c).trans hunit
  have hstate : ((s.beforeDrain n c).ses n).state = .clearing := by rw [hses]
  obtain ⟨hend, hout⟩ := startDrain_ended c hstate (by rw [hses]) (by rw [hses])
  have hdrain : Still n (s.beforeDrain n c) ((s.beforeDrain n c).startDrain n c) := (Still.refl n _).startDrain c
  rw [← s.enterClearing_eq n c] at hend hout hdrain
  have hfifos : (s.ses n).fifosSound → ((s.enterClearing n c).ses n).fifosSound := by
    rintro ⟨h1, h2, h3, h4, h5⟩
    refine hend.fifos ?_
    rw [hses]
    refine ⟨by simp, by simp [LineState.txEmpty], by simp, h4, ?_⟩
    dsimp only
    split
    · split
      · unfold requested; split
        · simp; omega
        · exact h5
      · exact h5
    · exact h5
  have hfraction : fractionSound (s.ses n) → fractionSound ((s.enterClearing n c).ses n) := by
    intro hfs
    refine hend.fractionSound ?_
    by_cases hw : (s.ses n).state = .connected ∨ (s.ses n).state = .held
    · rw [hses]; exact (hf hw).1
    · rw [not_or] at hw
      rw [beforeDrain_f s n c hw.1 hw.2]; exact hfs.2 hw.1 hw.2
  have houtputs : outputSound (s.ses n) (s.unit n) →
      outputSound ((s.enterClearing n c).ses n) ((s.enterClearing n c).unit n) := by
    rintro ⟨hans, htrdy⟩
    have hncl : (s.ses n).state ≠ .clearing := fun he => by rw [he] at ha; cases ha
    have hnout : (s.ses n).state ≠ .outOfService := fun he => by rw [he] at ha; cases ha
    refine hout ?_ ?_
    · rw [hunit]; simp [hans, ha]
    · rw [hunit]; dsimp only; rw [htrdy]; split <;> simp_all
  have hnconn : ((s.enterClearing n c).ses n).state ≠ .connected := fun he => by
    have := hend.hasSession; rw [he] at this; cases this
  have htarget : ∀ o, ((s.enterClearing n c).ses n).offer = some o →
      (∃ o', (s.ses n).offer = some o' ∧ o'.target = o.target) ∨ (s.host o.target).up = true := by
    intro o ho; rw [hend.offer] at ho; cases ho
  by_cases hw : (s.ses n).state = .connected ∨ (s.ses n).state = .held
  · refine Shift.of_leaves ((hleave hw).still hdrain) (fun _ => hend.offerShaped) htarget (fun _ => hfifos)
      (fun _ => hfraction) (fun _ => houtputs) (fun _ => ?_) hend.hasSession
    rcases hw with hw | hw <;> rw [hw] <;> rfl
  · rw [not_or] at hw
    by_cases hoffered : (s.ses n).state = .offered
    · cases hoffer : (s.ses n).offer with
      | some o =>
        exact Shift.of_leaves ((hleaveOffer o hoffered hoffer).still hdrain) (fun _ => hend.offerShaped) htarget
          (fun _ => hfifos) (fun _ => hfraction) (fun _ => houtputs) (fun _ => by rw [hoffered]; rfl) hend.hasSession
      | none =>
        have hbad : ¬offerShaped (s.ses n) := by simp [offerShaped, hoffer, hoffered]
        exact Shift.of_still ((hstill hw.1 hw.2 (.inr hoffer)).trans hdrain) (fun _ => hend.offerShaped) htarget
          (fun hs => by rw [hs] at hnconn; exact absurd rfl hnconn) (fun _ => hfifos) (fun _ => hfraction)
          (fun _ => houtputs) (fun h => absurd h hbad)
    · have hsession : (s.ses n).state.hasSession = false := by
        cases hst : (s.ses n).state <;> simp_all [LineState.hasSession]
      exact Shift.of_still ((hstill hw.1 hw.2 (.inl hoffered)).trans hdrain) (fun _ => hend.offerShaped) htarget
        (fun hs => by rw [hs] at hnconn; exact absurd rfl hnconn) (fun _ => hfifos) (fun _ => hfraction)
        (fun _ => houtputs) (fun _ => ⟨by rw [hend.hasSession, hsession], fun h => by rw [hsession] at h; cases h⟩)

theorem Keeps.clearRequest (h : Keeps s t) (n : LineNo) (c : Cause) : Keeps s (t.clearRequest n c) :=
  Keeps.ite (fun ha => h.trans (shift_enterClearing c ha).keeps) fun _ => h

end Sys2Proof.Keeping
end

section
/-! PROOFS. Offer attempts, declines, holding and adoption keep the laws; and what an offer attempt can come to. -/

namespace Sys2Proof.Keeping


open Sys2Proof.Machine

variable {n : LineNo} {s t u : State}

/-! ### What an attempt comes to -/

theorem modSes_modSes (s : State) (n : LineNo) (f g : Session → Session) :
    (s.modSes n f).modSes n g = s.modSes n fun r => g (f r) := by
  simp [State.modSes, State.modLine, State.line]

/-- A choice made is one of the hosts that pass. -/
theorem choose_passes {ok : Computer → Bool} {h : Computer} (hc : s.choose n ok = some h) : ok h = true := by
  unfold State.choose State.lighter at hc
  cases ha : ok .a <;> cases hb : ok .b <;> simp only [ha, hb] at hc <;> cases h <;> simp_all

/-- Host routing finds only a host that is permitted, UP and not yet tried (R70). -/
theorem route_passes {p : HostSet} {req : Option Computer} {tried : HostSet} {h : Computer}
    (hr : s.route n p req tried = some h) :
    p.has h = true ∧ (s.host h).up = true ∧ tried.has h = false ∧ (req = none ∨ req = some h) := by
  unfold State.route at hr
  split at hr
  · simp only [Option.ite_none_right_eq_some, Option.some.injEq, Bool.and_eq_true, Bool.not_eq_true'] at hr
    obtain ⟨⟨⟨hp, hu⟩, ht⟩, rfl⟩ := hr
    exact ⟨hp, hu, ht, .inr rfl⟩
  · have := choose_passes hr
    simp only [Bool.and_eq_true, Bool.not_eq_true'] at this
    exact ⟨this.1.1, this.1.2, this.2, .inl rfl⟩

theorem rerouteCandidate_up {h : Computer} (hr : s.rerouteCandidate n = some h) : (s.host h).up = true := by
  unfold State.rerouteCandidate at hr
  split at hr
  · cases hr
  · split at hr
    · exact (route_passes hr).2.1
    · cases hr

theorem queueFull_modSes (s : State) (n : LineNo) (f : Session → Session) (k : Link) :
    (s.modSes n f).queueFull k = s.queueFull k := by
  simp [State.queueFull]

/-- A SIGN_ON offer attempt at a full queue is re-routed at most once: it ends with the offer at a host that is UP and
has room, or with the line returned to SIGN_ON (R79, R84). -/
theorem signOnAttempt_full (s : State) (n : LineNo) {h : Computer} (hq : s.queueFull h.link = true) :
    ∃ k tried, (∃ g, (s.host g).up = true ∧ s.queueFull g.link = false ∧
        s.signOnAttempt n h 2 =
          (s.modSes n fun r => { r with offerAttempts := k, tried := tried }).postOffer n g .signOn) ∨
      s.signOnAttempt n h 2 = (s.modSes n fun r => { r with offerAttempts := k, tried := tried }).returnToSignOn n := by
  unfold State.signOnAttempt
  simp only [queueFull_modSes, hq, Bool.not_true, Bool.false_eq_true, if_false]
  rw [AccountOrders.modSes_congr (s := s) (g := fun r =>
    { r with offerAttempts := (s.ses n).offerAttempts + 1, tried := (s.ses n).tried.add h }) rfl]
  split
  next g hg =>
    have hgup : (s.host g).up = true := by simpa using rerouteCandidate_up hg
    refine ⟨(s.ses n).offerAttempts + 2, ((s.ses n).tried.add h).add g, ?_⟩
    unfold State.signOnAttempt
    dsimp only
    rw [modSes_modSes]
    rw [AccountOrders.modSes_congr (s := s) (g := fun r =>
      { r with offerAttempts := (s.ses n).offerAttempts + 2, tried := ((s.ses n).tried.add h).add g }) rfl]
    cases hqg : s.queueFull g.link with
    | false =>
      refine .inl ⟨g, hgup, hqg, ?_⟩
      rw [queueFull_modSes, hqg]; rfl
    | true =>
      refine .inr ?_
      rw [queueFull_modSes, hqg]
      have hnone : (s.modSes n fun r => { r with
          offerAttempts := (s.ses n).offerAttempts + 2, tried := ((s.ses n).tried.add h).add g }).rerouteCandidate n =
          none := by
        unfold State.rerouteCandidate
        simp
      simp only [hnone]
      rfl
  · exact ⟨_, _, .inr rfl⟩

/-- A SIGN_ON offer attempt to a host that is UP ends with the offer at a host that is UP and has room, or with the line
returned to SIGN_ON: the fuel does not run out, for two attempts are all that are made (R79, R84). -/
theorem signOnAttempt_cases (s : State) (n : LineNo) {h : Computer} (hup : (s.host h).up = true) :
    ∃ k tried, (∃ g, (s.host g).up = true ∧ s.queueFull g.link = false ∧
        s.signOnAttempt n h 2 =
          (s.modSes n fun r => { r with offerAttempts := k, tried := tried }).postOffer n g .signOn) ∨
      s.signOnAttempt n h 2 = (s.modSes n fun r => { r with offerAttempts := k, tried := tried }).returnToSignOn n := by
  cases hq : s.queueFull h.link with
  | true => exact signOnAttempt_full s n hq
  | false =>
    refine ⟨(s.ses n).offerAttempts + 1, (s.ses n).tried.add h, .inl ⟨h, hup, hq, ?_⟩⟩
    unfold State.signOnAttempt
    simp only [queueFull_modSes, hq, Bool.not_false, if_true]
    rw [AccountOrders.modSes_congr (g := fun r =>
      { r with offerAttempts := (s.ses n).offerAttempts + 1, tried := (s.ses n).tried.add h }) rfl]

/-- An adoption search ends with nothing found, or with the offer at a host that is UP and has room (R93, R94). -/
theorem adoptionSearch_cases (s : State) (n : LineNo) (fuel : Nat) :
    ∃ dec, s.adoptionSearch n fuel = s.modSes n (fun r => { r with declined := dec }) ∨
      ∃ g, (s.ses n).offer = none ∧ (s.host g).up = true ∧ s.queueFull g.link = false ∧
        s.adoptionSearch n fuel = (s.modSes n fun r => { r with declined := dec }).postOffer n g .adopt := by
  have hself : s = s.modSes n fun r => { r with declined := (s.ses n).declined } :=
    (AccountOrders.modSes_eq_self rfl).symm
  induction fuel generalizing s with
  | zero => exact ⟨(s.ses n).declined, .inl hself⟩
  | succ k ih =>
    unfold State.adoptionSearch
    split
    next h hh =>
      have hoff : (s.ses n).offer = none := by
        unfold State.adoptionCandidate at hh
        split at hh
        · cases hh
        next hno => simpa using hno
      have hup : (s.host h).up = true := by
        unfold State.adoptionCandidate at hh
        rw [if_neg (by simp [hoff])] at hh
        have := choose_passes hh
        simp only [Bool.and_eq_true] at this
        exact this.1.1
      cases hq : s.queueFull h.link with
      | false =>
        refine ⟨(s.ses n).declined, .inr ⟨h, hoff, hup, hq, ?_⟩⟩
        rw [← hself]; rfl
      | true =>
        obtain ⟨dec, hd | ⟨g, h1, h2, h3, h4⟩⟩ := ih (s.addDeclined n h) (AccountOrders.modSes_eq_self rfl).symm
        · refine ⟨dec, .inl ?_⟩
          simp only [Bool.not_true, Bool.false_eq_true, if_false]
          rw [hd, State.addDeclined, modSes_modSes]
        · refine ⟨dec, .inr ⟨g, hoff, by simpa [State.addDeclined] using h2,
            by simpa [State.addDeclined, State.queueFull] using h3, ?_⟩⟩
          simp only [Bool.not_true, Bool.false_eq_true, if_false]
          rw [h4, State.addDeclined, modSes_modSes]
    · exact ⟨(s.ses n).declined, .inl hself⟩

/-- An ADOPT attempt at a full queue ends as an adoption search does (R92, R79). -/
theorem adoptAttempt_full (s : State) (n : LineNo) {h : Computer} (hq : s.queueFull h.link = true) :
    ∃ dec, s.adoptAttempt n h = s.modSes n (fun r => { r with declined := dec }) ∨
      ∃ g, (s.host g).up = true ∧ s.queueFull g.link = false ∧
        s.adoptAttempt n h = (s.modSes n fun r => { r with declined := dec }).postOffer n g .adopt := by
  unfold State.adoptAttempt
  simp only [hq, Bool.not_true, Bool.false_eq_true, if_false]
  obtain ⟨dec, hd | ⟨g, h1, h2, h3, h4⟩⟩ := adoptionSearch_cases (s.addDeclined n h) n 2
  · exact ⟨dec, .inl (by rw [hd, State.addDeclined, modSes_modSes])⟩
  · refine ⟨dec, .inr ⟨g, by simpa [State.addDeclined] using h2, by simpa [State.addDeclined, State.queueFull] using h3, ?_⟩⟩
    rw [h4, State.addDeclined, modSes_modSes]

/-- An ADOPT attempt ends with nothing found, or with the offer at a host that is UP and has room (R92). -/
theorem adoptAttempt_cases (s : State) (n : LineNo) {h : Computer}
    (hup : (s.host h).up = true) :
    ∃ dec, s.adoptAttempt n h = s.modSes n (fun r => { r with declined := dec }) ∨
      ∃ g, (s.host g).up = true ∧ s.queueFull g.link = false ∧
        s.adoptAttempt n h = (s.modSes n fun r => { r with declined := dec }).postOffer n g .adopt := by
  cases hq : s.queueFull h.link with
  | true => exact adoptAttempt_full s n hq
  | false =>
    refine ⟨(s.ses n).declined, .inr ⟨h, hup, hq, ?_⟩⟩
    unfold State.adoptAttempt
    rw [AccountOrders.modSes_eq_self rfl, hq]
    rfl

/-! ### Offers posted and declined -/

/-- An offer posted to a host that is UP and has room (R79). -/
theorem Still.postOffer (h : Still n s t) {g : Computer} (hup : (t.host g).up = true) (hroom : t.queueFull g.link = false)
    (kind : OfferKind) : Still n s (t.postOffer n g kind) := by
  unfold State.postOffer
  refine Still.ses (h.trans ?_) _
  exact {
    reach := (reaches.refl n t).pushNotice _ _
    booked := .of_eq (by simp [State.pushNotice])
    reservations := by simp [State.pushNotice]
    records := by simp [State.pushNotice]
    serial := by simp [State.pushNotice]
    notices := noticeLaw_pushNotice _ (by simp [State.reachable, link_host?, hup]) hroom }

theorem ses_postOffer (t : State) (n : LineNo) (g : Computer) (kind : OfferKind) :
    (t.postOffer n g kind).ses n = { t.ses n with
      toggle := !(t.ses n).toggle, offer := some ⟨g, kind⟩, offerTimer := .running (t.params.offerLimit * 1000) } := by
  simp [State.postOffer, State.pushNotice]

theorem unit_postOffer (t : State) (n m : LineNo) (g : Computer) (kind : OfferKind) :
    (t.postOffer n g kind).unit m = t.unit m := by
  simp [State.postOffer, State.pushNotice]

/-- A pending offer replaced by one of its kind at a host that is UP and has room: the record changes in what the laws
do not name besides. -/
theorem shift_reoffer {o : Offer} {g : Computer} {f : Session → Session} (ho : (s.ses n).offer = some o)
    (hf : Alike (s.ses n) { f (s.ses n) with offer := some o }) (hup : (s.host g).up = true)
    (hroom : s.queueFull g.link = false) {kind : OfferKind} (hk : offerShaped (s.ses n) → kind = o.kind) :
    Shift n s ((s.modSes n f).postOffer n g kind) := by
  have hses := ses_postOffer (s.modSes n f) n g kind
  rw [State.ses_modSes_self] at hses
  refine Shift.of_still (((Still.refl n s).ses f).postOffer (by simpa using hup)
    (by rw [queueFull_modSes]; exact hroom) kind) ?_ ?_ ?_ ?_ ?_ ?_ ?_ <;> rw [hses]
  · intro hs
    have := hk hs
    unfold offerShaped at hs ⊢
    rw [ho] at hs
    dsimp only
    rw [this, show (f (s.ses n)).state = (s.ses n).state from hf.state]
    exact hs
  · rintro o' ⟨⟩
    exact .inr hup
  · exact fun hs => .inl ⟨hf.state.symm.trans hs, hf.owner⟩
  · exact fun _ h => hf.fifos h
  · exact fun _ h => hf.fractionSound h
  · exact fun _ h => hf.outputSound (by rw [unit_postOffer, State.unit_modSes]) (by rw [unit_postOffer, State.unit_modSes]) h
  · intro _
    dsimp only
    rw [show (f (s.ses n)).state = (s.ses n).state from hf.state]
    exact ⟨rfl, fun _ => hf.account⟩

/-- A HELD line without an offer is offered for adoption to a host that is UP and has room (R93). -/
theorem shift_adoptOffer {g : Computer} {dec : HostSet} (hheld : (s.ses n).state = .held)
    (hup : (s.host g).up = true) (hroom : s.queueFull g.link = false) :
    Shift n s ((s.modSes n fun r => { r with declined := dec }).postOffer n g .adopt) := by
  have hses := ses_postOffer (s.modSes n fun r => { r with declined := dec }) n g .adopt
  rw [State.ses_modSes_self] at hses
  refine Shift.of_still (((Still.refl n s).ses _).postOffer (by simpa using hup)
    (by rw [queueFull_modSes]; exact hroom) .adopt) ?_ ?_ ?_ ?_ ?_ ?_ ?_ <;> rw [hses]
  · intro _
    exact .inr ⟨hheld, rfl⟩
  · rintro o' ⟨⟩
    exact .inr hup
  · intro hs; rw [hheld] at hs; cases hs
  · exact fun _ h => h
  · exact fun _ h => h
  · rw [unit_postOffer, State.unit_modSes]; exact fun _ h => h
  · exact fun _ => ⟨rfl, fun _ => rfl⟩

/-! ### Refusals and returns to SIGN_ON -/

theorem Keeps.slight (h : Keeps s t) (h' : Slight n t u) : Keeps s u := h.trans h'.keeps

/-- A refusal on a line in SIGN_ON (R74, R75). -/
theorem Keeps.refuse (h : Keeps s t) (hs : (t.ses n).state = .signOn) (slot : Fin 16) : Keeps s (t.refuse n slot) := by
  unfold State.refuse
  have htold : Slight n t ((t.modSes n fun r => { r with attempts := satInc 7 r.attempts, buffer := [] }).requestMessage n
      slot) := ((Slight.refl n t).ses' (.same rfl rfl)).requestMessage slot
  refine Keeps.ite (fun _ => (h.slight htold).clearRequest n _) fun _ => ?_
  have hmore := htold.requestMessage slotPrompt
  refine h.slight (hmore.ses' (.of rfl (fun hout => ?_) id))
  rw [hmore.ses.state, hs] at hout
  cases hout

/-- A line's record as it is back in SIGN_ON, its session gone (R84). -/
structure SignOnAgain (r r' : Session) : Prop where
  state : r'.state = .signOn
  offer : r'.offer = none
  f : r'.f = r.f
  tx : r'.tx = r.tx
  rx : r'.rx = r.rx
  feed : r'.feed = r.feed

/-- An OFFERED line that loses its session to SIGN_ON. -/
theorem shift_signOnAgain (h : Leaves n s t) (hoff : offerShaped (s.ses n) → (s.ses n).state = .offered)
    (hr : SignOnAgain (s.ses n) (t.ses n)) (hu : t.unit n = s.unit n) : Shift n s t := by
  refine Shift.of_leaves h (fun _ => offerShaped_of_none hr.offer (by rw [hr.state]; decide)) ?_ ?_ ?_ ?_
    (fun hs => by rw [hoff hs]; rfl) (by rw [hr.state]; rfl)
  · intro o ho; rw [hr.offer] at ho; cases ho
  · rintro hs ⟨h1, -, h3, h4, h5⟩
    have hrx : (s.ses n).rx = [] := by
      by_contra hne
      rw [hoff hs] at h1
      simpa using h1 hne
    refine ⟨by simp [hr.rx, hrx], by simp [hr.state, LineState.txEmpty], by rw [hr.rx]; exact h3,
      by rw [hr.tx]; exact h4, by rw [hr.feed]; exact h5⟩
  · rintro hs ⟨hlt, hzero⟩
    rw [hoff hs] at hzero
    have : (t.ses n).f = 0 := by rw [hr.f]; exact hzero (by decide) (by decide)
    exact ⟨by omega, fun _ _ => this⟩
  · rintro hs ⟨hans, htrdy⟩
    rw [hoff hs] at hans htrdy
    simp [outputSound, hu, hans, htrdy, hr.state, LineState.active]

/-- The return to SIGN_ON of a line whose SIGN_ON offer is gone, with its attempts counted (R84). -/
theorem keeps_returnToSignOn {f : Session → Session} (hoff : offerShaped (s.ses n) → (s.ses n).state = .offered)
    (hf : ∀ r, (f r).account = r.account ∧ (f r).offer = none ∧ (f r).f = r.f ∧ (f r).tx = r.tx ∧ (f r).rx = r.rx ∧
      (f r).feed = r.feed) : Keeps s ((s.modSes n f).returnToSignOn n) := by
  obtain ⟨hacc, hoffer, hff, htx, hrx, hfeed⟩ := hf (s.ses n)
  unfold State.returnToSignOn
  refine Keeps.refuse (Shift.keeps (n := n) (shift_signOnAgain ?_ hoff ?_ ?_)) (by simp) _
  · exact (Leaves.of_still ((Still.refl n s).ses f) (by simpa using hacc) (leaves_releaseAdmission _)).still
      ((Still.refl n _).ses _)
  · refine ⟨?_, ?_, ?_, ?_, ?_, ?_⟩ <;> simp [hoffer, hff, htx, hrx, hfeed]
  · simp

/-- The decline of a pending SIGN_ON offer (R84). -/
theorem Keeps.declineSignOn (h : Keeps s t) {o : Offer} (ho : (t.ses n).offer = some o)
    (hk : o.kind = .signOn ∨ (t.ses n).state = .offered) : Keeps s (t.declineSignOn n) := by
  have hoff : offerShaped (t.ses n) → (t.ses n).state = .offered := fun hs => hk.elim (fun hk => hs.offered ho hk) id
  have hkind : offerShaped (t.ses n) → OfferKind.signOn = o.kind := fun hs => by
    obtain ⟨g, hg⟩ := hs.offer_of_offered (hoff hs)
    rw [ho] at hg
    rw [Option.some.injEq] at hg
    rw [hg]
  refine h.trans ?_
  unfold State.declineSignOn State.dropOffer
  dsimp only
  split
  next g hg =>
    have hup : (t.host g).up = true := by simpa using rerouteCandidate_up hg
    obtain ⟨k, tried, ⟨g', hup', hroom, he⟩ | he⟩ := signOnAttempt_cases
      (t.modSes n fun r => { r with offer := none, offerTimer := .stopped }) n (h := g) (by simpa using hup)
    · rw [he, modSes_modSes]
      refine Shift.keeps (n := n) (shift_reoffer ho ⟨rfl, rfl, ho.symm, rfl, rfl, rfl, fun _ => rfl, id⟩ (by simpa using hup') ?_ hkind)
      rw [queueFull_modSes] at hroom; exact hroom
    · rw [he, modSes_modSes]
      exact keeps_returnToSignOn hoff fun r => ⟨rfl, rfl, rfl, rfl, rfl, rfl⟩
  · exact keeps_returnToSignOn hoff fun r => ⟨rfl, rfl, rfl, rfl, rfl, rfl⟩

/-! ### Adoption -/

/-- The adoption search of a HELD line keeps the laws (R93). -/
theorem Keeps.adoptionSearch (h : Keeps s t) (hs : (t.ses n).state = .held) (fuel : Nat) :
    Keeps s (t.adoptionSearch n fuel) := by
  refine h.trans ?_
  obtain ⟨dec, he | ⟨g, -, hup, hroom, he⟩⟩ := adoptionSearch_cases t n fuel
  · rw [he]; exact ((Slight.refl n t).ses' (.same rfl rfl)).keeps
  · rw [he]; exact (shift_adoptOffer hs hup hroom).keeps

theorem Keeps.adoptAttempt (h : Keeps s t) {g : Computer} (hs : (t.ses n).state = .held)
    (hup : (t.host g).up = true) : Keeps s (t.adoptAttempt n g) := by
  refine h.trans ?_
  obtain ⟨dec, he | ⟨g', hup', hroom, he⟩⟩ := adoptAttempt_cases t n hup
  · rw [he]; exact ((Slight.refl n t).ses' (.same rfl rfl)).keeps
  · rw [he]; exact (shift_adoptOffer hs hup' hroom).keeps

/-- An ADOPT offer taken back, the record changed in what the laws do not name besides. -/
theorem shift_dropAdopt {f : Session → Session} (hne : offerShaped (s.ses n) → (s.ses n).state ≠ .offered)
    (hf : Alike (s.ses n) { f (s.ses n) with offer := (s.ses n).offer }) (hnone : (f (s.ses n)).offer = none) :
    Shift n s (s.modSes n f) := by
  have hstate : (f (s.ses n)).state = (s.ses n).state := hf.state
  refine Shift.of_still ((Still.refl n s).ses f) ?_ ?_ ?_ ?_ ?_ ?_ ?_ <;> rw [State.ses_modSes_self]
  · exact fun hs => offerShaped_of_none hnone (by rw [hstate]; exact hne hs)
  · intro o ho; rw [hnone] at ho; cases ho
  · exact fun hs => .inl ⟨by rw [← hstate]; exact hs, hf.owner⟩
  · exact fun _ h => hf.fifos h
  · exact fun _ h => hf.fractionSound h
  · rw [State.unit_modSes]; exact fun _ h => hf.outputSound rfl rfl h
  · exact fun _ => ⟨by rw [hstate], fun _ => hf.account⟩

/-- The decline of a pending ADOPT offer (R94). -/
theorem Keeps.declineAdopt (h : Keeps s t) {o : Offer} (ho : (t.ses n).offer = some o) (hk : o.kind = .adopt)
    (g : Computer) : Keeps s (t.declineAdopt n g) := by
  refine h.trans ?_
  unfold State.declineAdopt State.addDeclined State.dropOffer
  rw [modSes_modSes]
  obtain ⟨dec, he | ⟨g', -, hup, hroom, he⟩⟩ := adoptionSearch_cases (t.modSes n fun r =>
    { r with offer := none, offerTimer := .stopped, declined := r.declined.add g }) n 2
  · rw [he, modSes_modSes]
    exact (shift_dropAdopt (fun hs => by rw [hs.held ho hk]; decide) (.same rfl rfl) rfl).keeps
  · rw [he, modSes_modSes]
    rw [queueFull_modSes] at hroom
    exact (shift_reoffer ho ⟨rfl, rfl, ho.symm, rfl, rfl, rfl, fun _ => rfl, id⟩ (by simpa using hup) hroom fun _ => hk.symm).keeps

theorem Keeps.declineOffer (h : Keeps s t) {o : Offer} (ho : (t.ses n).offer = some o) :
    Keeps s (t.declineOffer n o) := by
  unfold State.declineOffer
  split
  next hk => exact h.declineSignOn ho (.inl hk)
  next hk => exact h.declineAdopt ho hk _

/-- An offer to a lost host is withdrawn (R90, step 3). -/
theorem Keeps.withdrawLost (h : Keeps s t) (n : LineNo) (g : Computer) : Keeps s (t.withdrawLost n g) := by
  unfold State.withdrawLost
  split
  next o ho =>
    refine Keeps.ite (fun _ => Keeps.ite (fun hs => h.declineSignOn ho (.inr hs)) fun hs => ?_) fun _ => h
    exact h.trans (shift_dropAdopt (fun _ => hs) (.same rfl rfl) rfl).keeps
  · exact h

/-- Entry to HELD from CONNECTED (R91). -/
theorem Keeps.heldEntry (h : Keeps s t) (hs : (t.ses n).state = .connected) (g : Computer) :
    Keeps s (t.heldEntry n g) := by
  have hheld : Shift n t (t.modSes n fun r =>
      { r with state := .held, prevOwner := some g, owner := none, idleTimer := .stopped }) := by
    refine Shift.of_still ((Still.refl n t).ses _) ?_ ?_ ?_ ?_ ?_ ?_ ?_ <;> rw [State.ses_modSes_self]
    · exact fun hsh => offerShaped_of_none (hsh.offer_eq_none (by rw [hs]; decide) (by rw [hs]; decide)) (by simp)
    · exact fun o ho => .inl ⟨o, ho, rfl⟩
    · intro hc; cases hc
    · rintro - ⟨-, -, h3, h4, h5⟩
      exact ⟨fun _ => .inr rfl, by simp [LineState.txEmpty], h3, h4, h5⟩
    · exact fun _ ⟨hlt, _⟩ => ⟨hlt, fun _ hne => absurd rfl hne⟩
    · rintro - ⟨hans, htrdy⟩
      rw [hs] at hans htrdy
      simp [outputSound, hans, htrdy, LineState.active]
    · exact fun _ => ⟨by rw [hs]; rfl, fun _ => rfl⟩
  have htold := (Slight.refl n (t.modSes n fun r =>
    { r with state := .held, prevOwner := some g, owner := none, idleTimer := .stopped })).requestMessage slotHolding
  have htimed := fun x : Timer => htold.ses' (f := fun r => { r with stateTimer := x })
    (.of rfl (fun hout => by rw [htold.ses.state] at hout; simp at hout) id)
  have hall := (h.trans hheld.keeps).slight (htimed (.start (t.params.holdLimit * 60000)))
  exact Keeps.ite (fun _ => hall.clearRequest n _) fun _ => hall

end Sys2Proof.Keeping
end

section
/-! PROOFS. Acceptance, admission and the characters of a sign-on keep the laws. -/

namespace Sys2Proof.Keeping


open Sys2Proof.Machine

variable {n : LineNo} {s t u : State}

/-! ### Acceptance -/

/-- The record of a line whose offer has been taken by a host, in what the laws name. -/
structure Taken (g : Computer) (r r' : Session) : Prop where
  state : r'.state = r.state
  offer : r'.offer = none
  owner : r'.owner = some g
  account : r'.account = r.account
  f : r'.f = r.f
  rx : r'.rx = r.rx
  tx : r'.tx = r.tx
  feed : r'.feed = r.feed

/-- A line enters CONNECTED from the offer it had, taken by a host that is UP, after slight changes to its record
(R82, R83). -/
theorem shift_connect {o : Offer} {g : Computer} {f : Session → Session} (ho : (s.ses n).offer = some o)
    (hf : Taken g (s.ses n) (f (s.ses n))) (h : Slight n (s.modSes n f) t) (hup : (s.host g).up = true) :
    Shift n s (t.connect n) := by
  have hsl := h.ses
  rw [State.ses_modSes_self] at hsl
  have hses : (t.connect n).ses n = { t.ses n with
      state := .connected, stateTimer := .stopped, idleTimer := .start (t.params.idleLimit * 60000) } := by
    simp [State.connect, State.restartIdle]
  have hunit : (t.connect n).unit n = t.unit n := by simp [State.connect, State.restartIdle]
  have hans : (t.unit n).ans = (s.unit n).ans := by simpa using h.ans
  have htrdy : (t.unit n).trdy = (s.unit n).trdy := by simpa using h.trdy
  have hoffer : (t.ses n).offer = none := hsl.offer.trans hf.offer
  have hsession : offerShaped (s.ses n) → (s.ses n).state = .offered ∨ (s.ses n).state = .held := by
    intro hsh
    by_contra hne
    rw [not_or] at hne
    rw [hsh.offer_eq_none hne.1 hne.2] at ho
    cases ho
  have hstill : Still n s (t.connect n) := by
    unfold State.connect State.restartIdle
    exact ((((Still.refl n s).ses f).trans h.toStill).ses _).ses _
  refine Shift.of_still hstill ?_ ?_ ?_ ?_ ?_ ?_ ?_ <;> rw [hses]
  · exact fun _ => offerShaped_of_none hoffer (by simp)
  · intro o' ho'; rw [show _ = _ from hoffer] at ho'; cases ho'
  · exact fun _ => .inr ⟨g, hsl.owner.trans hf.owner, hup⟩
  · intro _ hs
    have hfs : (f (s.ses n)).fifosSound := by
      unfold Session.fifosSound at hs ⊢
      rw [hf.state, hf.rx, hf.tx, hf.feed]
      exact hs
    obtain ⟨-, -, h3, h4, h5⟩ := hsl.fifos hfs
    exact ⟨fun _ => .inl rfl, by simp [LineState.txEmpty], h3, h4, h5⟩
  · rintro - ⟨hlt, -⟩
    have : (t.ses n).f = (s.ses n).f := hsl.f.trans hf.f
    exact ⟨show (t.ses n).f < 60000 by omega, fun hne => absurd rfl hne⟩
  · rintro hsh ⟨ha, htr⟩
    rw [hunit]
    refine ⟨?_, ?_⟩
    · rw [hans, ha]
      rcases hsession hsh with he | he <;> rw [he] <;> rfl
    · rw [htrdy, htr]
      rcases hsession hsh with he | he <;> rw [he]
  · intro hsh
    refine ⟨?_, fun _ => hsl.account.trans hf.account⟩
    rcases hsession hsh with he | he <;> rw [he] <;> rfl

theorem slight_chargeFee {t : State} (h : Slight n s t) : Slight n s (t.chargeFee n).1 := by
  unfold State.chargeFee
  dsimp only
  refine Slight.ses' (Slight.chargeUnits (Slight.ses' h ?_) _) ?_ <;> exact .same rfl rfl

/-- ACCEPT of a pending offer by a host that is UP (R82, R83). -/
theorem Keeps.acceptOffer (h : Keeps s t) {o : Offer} (ho : (t.ses n).offer = some o)
    (hup : (t.host o.target).up = true) : Keeps s (t.acceptOffer n o) := by
  refine h.trans ?_
  unfold State.acceptOffer
  split
  · unfold State.acceptSignOn State.dropOffer
    rw [modSes_modSes]
    have hc := (shift_connect ho (f := fun r =>
        { r with offer := none, offerTimer := .stopped, owner := some o.target, firstHost := some o.target }) ⟨rfl, rfl, rfl, rfl, rfl, rfl, rfl, rfl⟩
      ((slight_chargeFee (.refl n _)).requestMessage slotWelcome) hup).keeps
    exact Keeps.ite (fun _ => hc.clearRequest n _) fun _ => hc
  · unfold State.acceptAdopt State.dropOffer
    rw [modSes_modSes]
    exact (shift_connect ho (f := fun r => { r with
        offer := none, offerTimer := .stopped, stateTimer := .stopped, owner := some o.target
        adoptions := satInc 255 r.adoptions, declined := .empty }) ⟨rfl, rfl, rfl, rfl, rfl, rfl, rfl, rfl⟩
      ((Slight.refl n _).requestMessage slotResumed) hup).keeps

/-! ### Admission -/

/-- What an evaluation that all seven checks pass has found (R66). -/
theorem evaluation_ok {number : Nat} {req : Option Computer} {g : Computer}
    (he : s.evaluation n = .ok (number, req, g)) :
    (∃ e, s.account? number = some e ∧ e.active < e.limit) ∧ (s.host g).up = true ∧
      s.records.length + s.reservations < 32 := by
  unfold State.evaluation at he
  split at he
  · cases he
  next number' req' hp =>
    unfold State.checkAccount at he
    split at he
    · cases he
    next e hacc =>
      split at he
      · cases he
      split at he
      · cases he
      split at he
      · cases he
      split at he
      · cases he
      next hlim =>
      split at he
      · cases he
      next g' hg =>
      split at he
      · cases he
      next hsum =>
      simp only [Except.ok.injEq, Prod.mk.injEq] at he
      obtain ⟨rfl, rfl, rfl⟩ := he
      exact ⟨⟨e, hacc, by omega⟩, (route_passes hg).2.1, by simpa [State.recordSum] using hsum⟩

/-- The part with a caller's reservation made and its account counted, before the offer attempt (R73). -/
def admittedTo (s : State) (n : LineNo) (number : Nat) (req : Option Computer) : State :=
  (({ s with reservations := s.reservations + 1 }.modAccount number fun e =>
      { e with active := e.active + 1 }).modSes n fun r =>
    { r with account := some number, requested := req, buffer := [], state := .offered, stateTimer := .stopped,
             offerAttempts := 0, tried := .empty })

theorem admitCaller_eq (s : State) (n : LineNo) (number : Nat) (req : Option Computer) (g : Computer) :
    s.admitCaller n number req g = (admittedTo s n number req).signOnAttempt n g 2 := rfl

theorem reaches_admittedTo (s : State) (n : LineNo) (number : Nat) (req : Option Computer) :
    reaches n s (admittedTo s n number req) :=
  (((reaches.refl n s).reservations _).account _ _).ses _

theorem port_admittedTo (s : State) (n : LineNo) (number : Nat) (req : Option Computer) (k : Link) :
    (admittedTo s n number req).port k = s.port k := by
  cases k <;> rfl

/-- The count of one entry grows by one. -/
theorem booked_admittedTo (s : State) (n : LineNo) (number : Nat) (req : Option Computer) :
    Booked (fun e => if number = e.number then e.active + 1 else e.active) s (admittedTo s n number req) := by
  refine ⟨_, rfl, fun e => ?_⟩
  by_cases he : e.number = number
  · simp [he]
  · simp [he, Ne.symm he]

theorem noticeLaw_admittedTo (s : State) (n : LineNo) (number : Nat) (req : Option Computer) (hl : noticeLaw s) :
    noticeLaw (admittedTo s n number req) :=
  noticeLaw_of_eq (fun k => by cases k <;> rfl) (fun g => by cases g <;> rfl) hl

theorem ses_admittedTo (s : State) (n : LineNo) (number : Nat) (req : Option Computer) :
    (admittedTo s n number req).ses n = { s.ses n with
      account := some number, requested := req, buffer := [], state := .offered, stateTimer := .stopped
      offerAttempts := 0, tried := .empty } := by
  unfold admittedTo
  rw [State.ses_modSes_self]
  rfl

/-- A caller admitted and offered to a host that is UP and has room (R73, R79). -/
theorem shift_admitted {number : Nat} {req : Option Computer} {g : Computer} {f : Session → Session}
    (hs : (s.ses n).state = .signOn) (hentry : ∃ e, s.account? number = some e ∧ e.active < e.limit)
    (hsum : s.records.length + s.reservations < 32) (hup : (s.host g).up = true)
    (hf : ∀ r, Alike r (f r)) (hroom : s.queueFull g.link = false) :
    Shift n s (((admittedTo s n number req).modSes n f).postOffer n g .signOn) := by
  have hq : ((admittedTo s n number req).modSes n f).queueFull g.link = false := by
    rw [queueFull_modSes, State.queueFull, port_admittedTo]; exact hroom
  have hup' : (((admittedTo s n number req).modSes n f).host g).up = true := by
    rw [State.host_modSes, reaches_host (reaches_admittedTo s n number req)]; exact hup
  have hpost : Still n (admittedTo s n number req) (((admittedTo s n number req).modSes n f).postOffer n g .signOn) :=
    ((Still.refl n _).ses f).postOffer hup' hq .signOn
  have hses := ses_postOffer ((admittedTo s n number req).modSes n f) n g .signOn
  have hunit : (((admittedTo s n number req).modSes n f).postOffer n g .signOn).unit n = s.unit n := by
    rw [unit_postOffer, State.unit_modSes]; simp [admittedTo]; rfl
  rw [State.ses_modSes_self, ses_admittedTo] at hses
  have hlike := hf { s.ses n with
    account := some number, requested := req, buffer := [], state := .offered, stateTimer := .stopped
    offerAttempts := 0, tried := .empty }
  revert hses
  generalize f _ = r at hlike
  generalize ((admittedTo s n number req).modSes n f).postOffer n g .signOn = v at hpost hunit
  intro hses
  have hstate : r.state = .offered := hlike.state
  have hbook : Booked (fun e => if number = e.number then e.active + 1 else e.active) s v :=
    Booked.trans_kept (booked_admittedTo s n number req) hpost.booked
  have hrec : v.records = s.records := hpost.records
  have hser : v.serial = s.serial := hpost.serial
  have hres : v.reservations = s.reservations + 1 := hpost.reservations
  exact {
    reach := (reaches_admittedTo s n number req).trans hpost.reach
    shape := fun _ => by rw [hses]; exact .inl ⟨hstate, rfl⟩
    target := by rw [hses]; rintro o ⟨⟩; exact .inr hup
    owner := by rw [hses]; intro hc; rw [show _ = _ from hstate] at hc; cases hc
    fifos := by
      rw [hses]
      rintro - ⟨h1, h2, h3, h4, h5⟩
      have hrx : (s.ses n).rx = [] := by
        by_contra hne
        simpa [hs] using h1 hne
      exact hlike.fifos ⟨by simp [hrx], by simp [LineState.txEmpty], h3, h4, h5⟩
    fraction := by
      rw [hses]
      rintro - ⟨hlt, hzero⟩
      have : r.f = 0 := hlike.f.trans (hzero (by rw [hs]; decide) (by rw [hs]; decide))
      exact ⟨show r.f < 60000 by omega, fun _ _ => this⟩
    outputs := by
      rw [hses, hunit]
      rintro - ⟨hans, htrdy⟩
      rw [hs] at hans htrdy
      simp [outputSound, hstate, hans, htrdy, LineState.active]
    booked := ⟨_, hbook⟩
    records := recordLaw_of_eq hrec hser
    notices := fun hl => hpost.notices (noticeLaw_admittedTo s n number req hl)
    ledger := fun _ => .joined number (by rw [hs]; rfl) (by rw [hses, show _ = _ from hstate]; rfl)
      (by rw [hses]; exact hlike.account) hres (by rw [hrec]) hsum hentry hbook }

/-- A caller whose offers were all refused by full queues: nothing is reserved, and the line is refused (R79, R84). -/
theorem keeps_admittedReturned {number : Nat} {req : Option Computer} {k : Nat} {tried : HostSet}
    (hs : (s.ses n).state = .signOn) :
    Keeps s (((admittedTo s n number req).modSes n fun r =>
      { r with offerAttempts := k, tried := tried }).returnToSignOn n) := by
  unfold State.returnToSignOn
  refine Keeps.refuse (Shift.keeps (n := n) ?_) (by simp) _
  have hadm : ((admittedTo s n number req).modSes n fun r =>
      { r with offerAttempts := k, tried := tried }).ses n = { s.ses n with
        account := some number, requested := req, buffer := [], state := .offered, stateTimer := .stopped
        offerAttempts := k, tried := tried } := by
    rw [State.ses_modSes_self, ses_admittedTo]
  have hleave := leaves_releaseAdmission (n := n) ((admittedTo s n number req).modSes n fun r =>
      { r with offerAttempts := k, tried := tried })
  have hstill : Still n s (((admittedTo s n number req).modSes n fun r =>
      { r with offerAttempts := k, tried := tried }).releaseAdmission n) := {
    reach := ((reaches_admittedTo s n number req).ses _).trans hleave.reach
    booked := by
      have hb := hleave.booked
      rw [hadm] at hb
      have hcount : Booked (fun e => if number = e.number then e.active + 1 else e.active) s
          ((admittedTo s n number req).modSes n fun r => { r with offerAttempts := k, tried := tried }) :=
        booked_admittedTo s n number req
      have := Booked.trans (b := fun a c => if some number = some a then c - 1 else c) hcount hb
      convert this using 2 with e
      by_cases he : number = e.number <;> simp [he]
    reservations := by rw [hleave.reservations]; rfl
    records := by simp [admittedTo]
    serial := by simp [admittedTo]
    notices := fun hl => hleave.notices (noticeLaw_of_eq (fun j => by simp) (fun g => by simp)
      (noticeLaw_admittedTo s n number req hl)) }
  refine Shift.of_still (hstill.ses _) ?_ ?_ ?_ ?_ ?_ ?_ ?_ <;>
    rw [State.ses_modSes_self, State.ses_releaseAdmission, hadm]
  · exact fun hsh => offerShaped_of_none (hsh.offer_eq_none (by rw [hs]; decide) (by rw [hs]; decide)) (by simp)
  · exact fun o ho => .inl ⟨o, ho, rfl⟩
  · intro hc; cases hc
  · rintro - ⟨h1, h2, h3, h4, h5⟩
    have hrx : (s.ses n).rx = [] := by
      by_contra hne
      simpa [hs] using h1 hne
    exact ⟨by simp [hrx], by simp [LineState.txEmpty], h3, h4, h5⟩
  · rintro - ⟨hlt, hzero⟩
    exact ⟨hlt, fun _ _ => hzero (by rw [hs]; decide) (by rw [hs]; decide)⟩
  · rintro - ⟨hans, htrdy⟩
    rw [hs] at hans htrdy
    have hu : (admittedTo s n number req).unit n = s.unit n := by simp [admittedTo]; rfl
    simp [outputSound, hans, htrdy, LineState.active, hu]
  · exact fun _ => ⟨by rw [hs], fun h => by rw [hs] at h; cases h⟩

/-- Admission of a caller whom all checks pass (R73). -/
theorem Keeps.admitCaller (h : Keeps s t) {number : Nat} {req : Option Computer} {g : Computer}
    (hs : (t.ses n).state = .signOn) (he : t.evaluation n = .ok (number, req, g)) :
    Keeps s (t.admitCaller n number req g) := by
  refine h.trans ?_
  obtain ⟨hentry, hup, hsum⟩ := evaluation_ok he
  rw [admitCaller_eq]
  have hhost : ∀ c, (admittedTo t n number req).host c = t.host c := reaches_host (reaches_admittedTo t n number req)
  obtain ⟨k, tried, ⟨g', hup', hroom, he'⟩ | he'⟩ :=
    signOnAttempt_cases (admittedTo t n number req) n (h := g) (by rw [hhost]; exact hup)
  · rw [he']
    exact (shift_admitted hs hentry hsum (by rw [← hhost]; exact hup') (fun r => .same (r' := { r with offerAttempts := k, tried := tried }) rfl rfl)
      (by rw [State.queueFull, port_admittedTo] at hroom; exact hroom)).keeps
  · rw [he']; exact keeps_admittedReturned hs

/-! ### Characters -/

/-- CR ends the sign-on line (R66). -/
theorem Keeps.endOfLine (h : Keeps s t) (hs : (t.ses n).state = .signOn) : Keeps s (t.endOfLine n) := by
  have hshown := (Slight.refl n t).echoAll [chCr, chLf] (by rw [hs]; rfl)
  have hstate := hshown.ses.state.trans hs
  unfold State.endOfLine
  dsimp only
  split
  · exact (h.slight hshown).refuse hstate _
  next he => exact (h.slight hshown).admitCaller hstate he

/-- A character taken in SIGN_ON (R62). -/
theorem Keeps.signOnChar (h : Keeps s t) (hs : (t.ses n).state = .signOn) (c : Byte) : Keeps s (t.signOnChar n c) := by
  have htx : (t.ses n).state.txEmpty = false := by rw [hs]; rfl
  have hbuf : ∀ f : Session → Session, ((t.ses n).state = .signOn → (f (t.ses n)).state = .signOn) →
      ((t.modSes n f).ses n).state.txEmpty = false := fun f hf => by rw [State.ses_modSes_self, hf hs]; rfl
  refine Keeps.ite (fun _ => h.slight (Slight.ite (fun _ => ?_) fun _ => (Slight.refl n t).echo _ htx)) fun _ =>
    Keeps.ite (fun _ => h.slight (Slight.ite (fun _ => (Slight.refl n t).echo _ htx) fun _ => ?_)) fun _ =>
      Keeps.ite (fun _ => h.slight (n := n) ?_) fun _ => Keeps.ite (fun _ => h.endOfLine hs) fun _ =>
        Keeps.ite (fun _ => h.slight ((Slight.refl n t).echo _ htx)) fun _ => h
  · exact ((Slight.refl n t).ses' (.same rfl rfl)).echo _ (hbuf _ id)
  · exact ((Slight.refl n t).ses' (.same rfl rfl)).echoAll _ (hbuf _ id)
  · exact (((Slight.refl n t).ses' (.same rfl rfl)).echoAll _ (hbuf _ id)).requestMessage _

theorem Keeps.deliver (h : Keeps s t) (n : LineNo) (c : Byte) : Keeps s (t.deliver n c) := by
  unfold State.deliver
  split
  next hs => exact h.signOnChar hs c
  next hs => exact h.slight ((Slight.refl n t).receivePlace c (.inl hs))
  next hs => exact h.slight ((Slight.refl n t).receivePlace c (.inr hs))
  · exact h

end Sys2Proof.Keeping
end

section
/-! PROOFS. Changes that leave every line's record alike, and the links: a host link going DOWN and coming UP, the frames
and their orders. -/

namespace Sys2Proof.Keeping


open Sys2Proof.Machine

variable {n : LineNo} {s t u : State}

/-! ### Changes that leave the lines alike -/

theorem countLines_congr {p : Session → Bool} (h : ∀ m, p (t.ses m) = p (s.ses m)) :
    t.countLines (fun _ l => p l.ses) = s.countLines fun _ l => p l.ses := by
  refine List.countP_congr fun m _ => ?_
  show p (t.ses m) = true ↔ p (s.ses m) = true
  rw [h m]

/-- Records alike name the same accounts. -/
theorem Alike.names {r r' : Session} (h : Alike r r') (a : Nat) : r'.names a = r.names a := by
  simp [Session.names, h.state, h.account]

/-- A change that leaves every line's record and outputs alike. -/
theorem Core.of_alike (hses : ∀ m, Alike (s.ses m) (t.ses m)) (hans : ∀ m, (t.unit m).ans = (s.unit m).ans)
    (htrdy : ∀ m, (t.unit m).trdy = (s.unit m).trdy) (table : tableLaw s → tableLaw t)
    (balance : balanceLaw s → balanceLaw t) (active : tableLaw s → activeLaw s → activeLaw t)
    (clock : clockLaw s → clockLaw t) (records : recordLaw s → recordLaw t)
    (length : t.records.length ≤ s.records.length) (reservations : t.reservations = s.reservations)
    (notices : noticeLaw s → noticeLaw t) : Core s t where
  shape hs m := (hses m).offerShaped (hs m)
  fifos _ hl m := (hses m).fifos (hl m)
  table := table
  balance := balance
  active _ := active
  fraction _ hl m := (hses m).fractionSound (hl m)
  clock := clock
  records := records
  reservations _ hl := by
    refine ⟨?_, ?_⟩
    · rw [reservations, ← hl.1]
      exact countLines_congr (p := fun r => r.state.hasSession) fun m => by rw [(hses m).state]
    · have := hl.2
      omega
  notices := notices
  outputs _ hl m := (hses m).outputSound (hans m) (htrdy m) (hl m)

/-- The counts of active sessions where the table and the sessions are the same. -/
theorem activeLaw_of_alike (hses : ∀ m, Alike (s.ses m) (t.ses m)) (hacc : t.accounts = s.accounts)
    (hl : activeLaw s) : activeLaw t := by
  refine ⟨fun e he => ?_, fun m hm => ?_⟩
  · rw [hacc] at he
    obtain ⟨h1, h2, h3⟩ := hl.1 e he
    exact ⟨h1.trans (countLines_congr (p := fun r => r.names e.number) fun m => (hses m).names _).symm, h2, h3⟩
  · rw [(hses m).state] at hm
    have := hl.2 m hm
    unfold State.accountOf State.account? at this ⊢
    rw [hacc, (hses m).account]
    exact this

/-- Of a change of the hosts' states and of what the laws do not name: no link goes DOWN. -/
theorem Keeps.of_core (h : Core s t) (hses : ∀ m, Alike (s.ses m) (t.ses m))
    (hup : ∀ g, (s.host g).up = true → (t.host g).up = true) : Keeps s t where
  core := h
  offers ex hl m o ho := by
    rw [(hses m).offer] at ho
    exact (hl m o ho).imp_left (hup _)
  owners ex hl m hm := by
    rw [(hses m).state] at hm
    rw [(hses m).owner]
    exact (hl m hm).imp_left fun ⟨g, hg, hgu⟩ => ⟨g, hg, hup g hgu⟩

/-- A change that leaves the lines alike and the accounts, the records and the counts as they are. -/
theorem Core.of_same (hses : ∀ m, Alike (s.ses m) (t.ses m)) (hans : ∀ m, (t.unit m).ans = (s.unit m).ans)
    (htrdy : ∀ m, (t.unit m).trdy = (s.unit m).trdy) (hacc : t.accounts = s.accounts)
    (hclock : clockLaw s → clockLaw t) (hrec : t.records = s.records) (hser : t.serial = s.serial)
    (hres : t.reservations = s.reservations) (notices : noticeLaw s → noticeLaw t) : Core s t :=
  .of_alike hses hans htrdy (fun hl => by unfold tableLaw; rw [hacc]; exact hl)
    (fun hl => by unfold balanceLaw; rw [hacc]; exact hl) (fun _ => activeLaw_of_alike hses hacc) hclock
    (recordLaw_of_eq hrec hser) (by rw [hrec]) hres notices

/-- A change of a link's port that does not lengthen its notice queue. -/
theorem noticeLaw_modPort {k : Link} {f : LinkPort → LinkPort}
    (hf : (f (s.port k)).notices.length ≤ (s.port k).notices.length) (hl : noticeLaw s) : noticeLaw (s.modPort k f) := by
  obtain ⟨hh, ha⟩ := hl
  refine ⟨fun h => ?_, ?_⟩
  · obtain ⟨hlen, hdown⟩ := hh h
    by_cases hk : h.link = k
    · subst hk
      rw [State.port_modPort_self, State.host_modPort]
      refine ⟨by omega, fun hu => ?_⟩
      have := hdown hu
      rw [this] at hf
      exact List.length_eq_zero_iff.1 (by simpa using hf)
    · rw [State.port_modPort_ne _ _ _ _ hk, State.host_modPort]
      exact ⟨hlen, hdown⟩
  · cases k with
    | acct => exact hf.trans ha
    | _ => exact ha

theorem Keeps.modPort (h : Keeps s t) {k : Link} {f : LinkPort → LinkPort}
    (hf : (f (t.port k)).notices.length ≤ (t.port k).notices.length) : Keeps s (t.modPort k f) :=
  h.trans <| .of_core (.of_same (fun m => by rw [State.ses_modPort]; exact .refl _) (by simp) (by simp) (by simp)
    (by unfold clockLaw; simp) (by simp) (by simp) (by simp) (noticeLaw_modPort hf))
    (fun m => by rw [State.ses_modPort]; exact .refl _) (by simp)

theorem Keeps.setReply (h : Keeps s t) (k : Link) (r : Reply) : Keeps s (t.setReply k r) := h.modPort le_rfl

/-- A change of one host link's state that leaves an UP link UP, and does not take a link DOWN. -/
theorem Keeps.modHost (h : Keeps s t) {g : Computer} {f : HostLink → HostLink}
    (hf : (t.host g).up = true → (f (t.host g)).up = true) (hdown : (f (t.host g)).up = false → (t.host g).up = false) :
    Keeps s (t.modHost g f) := by
  refine h.trans <| .of_core (.of_same (fun m => by rw [State.ses_modHost]; exact .refl _) (by simp) (by simp) (by simp)
    (by unfold clockLaw; simp) (by simp) (by simp) (by simp) fun hl => ⟨fun c => ?_, by simpa using hl.2⟩)
    (fun m => by rw [State.ses_modHost]; exact .refl _) fun c hc => ?_
  · rw [State.port_modHost]
    refine ⟨(hl.1 c).1, fun hu => (hl.1 c).2 ?_⟩
    by_cases hcg : c = g
    · subst hcg; rw [State.host_modHost_self] at hu; exact hdown hu
    · rw [State.host_modHost_ne _ _ _ _ hcg] at hu; exact hu
  · by_cases hcg : c = g
    · subst hcg; rw [State.host_modHost_self]; exact hf hc
    · rw [State.host_modHost_ne _ _ _ _ hcg]; exact hc

theorem Keeps.postNotice (h : Keeps s t) (k : Link) (m : Notice) : Keeps s (t.postNotice k m) :=
  h.slight (n := 0) (.post_of k m)

theorem Keeps.forLines (h : Keeps s t) {f : State → LineNo → State} (hf : ∀ u n, Keeps u (f u n)) :
    Keeps s (t.forLines f) :=
  State.forLines_induct (I := fun _ u => Keeps s u) h fun _ n u _ hu => hu.trans (hf u n)

/-! ### A host link goes DOWN -/

/-- The offer of one line, UP or none before a change that keeps the laws, is UP or none after it. -/
theorem Keeps.offer_up (h : Keeps s t) (hs : ∀ o, (s.ses n).offer = some o → (s.host o.target).up = true) (o : Offer)
    (ho : (t.ses n).offer = some o) : (t.host o.target).up = true := by
  have := h.offers (fun m _ => m ≠ n) (fun m o' ho' => by
    by_cases hm : m = n
    · subst hm; exact .inl (hs o' ho')
    · exact .inr hm) n o ho
  simpa using this

/-- The owner of one line, UP if it is CONNECTED before a change that keeps the laws, is so after it. -/
theorem Keeps.owner_up (h : Keeps s t)
    (hs : (s.ses n).state = .connected → ∃ g, (s.ses n).owner = some g ∧ (s.host g).up = true)
    (ht : (t.ses n).state = .connected) : ∃ g, (t.ses n).owner = some g ∧ (t.host g).up = true := by
  have := h.owners (fun m _ => m ≠ n) (fun m hm => by
    by_cases hmn : m = n
    · subst hmn; exact .inl (hs hm)
    · exact .inr hmn) n ht
  simpa using this

/-- The part with a host link just DOWN, its port wiped (R90). -/
def downed (s : State) (h : Computer) : State :=
  (s.modHost h fun _ => ⟨false, .stopped⟩).modPort h.link fun p => { p with notices := [], lost := false, cursor := none }

theorem host_downed_self (s : State) (h : Computer) : ((downed s h).host h).up = false := by simp [downed]

theorem ses_downed (s : State) (h : Computer) (m : LineNo) : (downed s h).ses m = s.ses m := by simp [downed]

theorem noticeLaw_downed (h : Computer) (hl : noticeLaw s) : noticeLaw (downed s h) := by
  refine ⟨fun g => ?_, ?_⟩
  · by_cases hg : g = h
    · subst hg; simp [downed]
    · have hk : g.link ≠ h.link := by cases g <;> cases h <;> simp_all [Computer.link]
      simpa [downed, State.port_modPort_ne _ _ _ _ hk, State.host_modHost_ne _ _ _ _ hg] using hl.1 g
  · have : (downed s h).portAcct = s.portAcct := by cases h <;> rfl
    rw [this]; exact hl.2

theorem core_downed (s : State) (h : Computer) : Core s (downed s h) :=
  .of_same (fun m => by rw [ses_downed]; exact .refl _) (by simp [downed]) (by simp [downed]) (by simp [downed])
    (by unfold clockLaw; simp [downed]) (by simp [downed]) (by simp [downed]) (by simp [downed]) (noticeLaw_downed h)

/-- The lines of the lost host are HELD (R90, step 2). -/
def heldLines (s : State) (h : Computer) : State :=
  s.forLines fun t n => if (t.ses n).ownedBy h then t.heldEntry n h else t

/-- The offers to the lost host end (R90, step 3). -/
def withdrawnLines (s : State) (h : Computer) : State := s.forLines fun t n => t.withdrawLost n h

/-- The HELD lines are searched for adoption (R90, step 5). -/
def soughtLines (s : State) : State :=
  s.forLines fun t n => if (t.ses n).state = .held then t.adoptionSearch n 2 else t

theorem linkDown_eq (s : State) (h : Computer) :
    s.linkDown h =
      soughtLines ((withdrawnLines (heldLines (downed s h) h) h).postNotice .acct (.hostDown h)) := rfl

theorem ownedBy_iff (r : Session) (h : Computer) : r.ownedBy h = true ↔ r.state = .connected ∧ r.owner = some h := by
  simp [Session.ownedBy]

theorem keeps_heldLine (t : State) (n : LineNo) (h : Computer) :
    Keeps t (if (t.ses n).ownedBy h then t.heldEntry n h else t) :=
  Keeps.ite (fun ho => (Keeps.refl t).heldEntry ((ownedBy_iff _ _).1 ho).1 h) fun _ => .refl t

theorem keeps_soughtLines (s : State) : Keeps s (soughtLines s) :=
  (Keeps.refl s).forLines fun u _ => Keeps.ite (fun hs => (Keeps.refl u).adoptionSearch hs 2) fun _ => .refl u

theorem reaches_heldLine (t : State) (n : LineNo) (h : Computer) :
    reaches n t (if (t.ses n).ownedBy h then t.heldEntry n h else t) :=
  reaches.ite (fun _ => (reaches.refl n t).heldEntry h) fun _ => .refl n t

/-- A line that a lost host's held entry has been through is not CONNECTED to it. -/
theorem owner_heldLine (t : State) (n : LineNo) (h : Computer) (hdown : (t.host h).up = false)
    (ht : ((if (t.ses n).ownedBy h then t.heldEntry n h else t).ses n).state = .connected) :
    ((if (t.ses n).ownedBy h then t.heldEntry n h else t).ses n).owner ≠ some h := by
  intro hown
  by_cases ho : (t.ses n).ownedBy h = true
  · rw [if_pos ho] at ht hown
    have hmid : (((t.modSes n fun r =>
        { r with state := .held, prevOwner := some h, owner := none, idleTimer := .stopped }).requestMessage n
          slotHolding).modSes n fun r => { r with stateTimer := .start (t.params.holdLimit * 60000) }).ses n =
        { ((t.modSes n fun r =>
          { r with state := .held, prevOwner := some h, owner := none, idleTimer := .stopped }).requestMessage n
            slotHolding).ses n with stateTimer := .start (t.params.holdLimit * 60000) } := by simp
    have hstate := ((Slight.refl n (t.modSes n fun r =>
      { r with state := .held, prevOwner := some h, owner := none, idleTimer := .stopped })).requestMessage
        slotHolding).ses.state
    rw [State.ses_modSes_self] at hstate
    unfold State.heldEntry at ht hown
    dsimp only at ht hown
    by_cases hl : t.params.holdLimit = 0
    · rw [if_pos hl] at ht hown
      obtain ⟨g, hg, hup⟩ := ((Keeps.refl _).clearRequest n .hostLost).owner_up (n := n)
        (fun hc => by rw [hmid] at hc; rw [show _ = _ from hstate] at hc; cases hc) ht
      rw [hown] at hg
      cases hg
      rw [reaches_host (((reaches.refl n _).clearRequest _)), State.host_modSes, State.requestMessage, State.host_modSes,
        State.host_modSes, hdown] at hup
      cases hup
    · rw [if_neg hl, hmid] at ht
      rw [show _ = _ from hstate] at ht
      cases ht
  · rw [if_neg ho] at ht hown
    exact ho ((ownedBy_iff _ _).2 ⟨ht, hown⟩)

/-- After the held entries no line is CONNECTED to the lost host. -/
theorem ownersBut_heldLines {ex : LineNo → Option Computer → Prop} {h : Computer} (hdown : (s.host h).up = false)
    (hl : ownersBut (fun n o => ex n o ∨ o = some h) s) : ownersBut ex (heldLines s h) := by
  have := State.forLines_induct (s := s) (f := fun t n => if (t.ses n).ownedBy h then t.heldEntry n h else t)
    (I := fun done t => (t.host h).up = false ∧ ownersBut (fun n o => ex n o ∨ o = some h ∧ n ∉ done) t)
    ⟨hdown, by simpa using hl⟩ (by
      rintro done n t - ⟨hd, ht⟩
      refine ⟨by rw [reaches_host (reaches_heldLine t n h)]; exact hd, fun m hm => ?_⟩
      have hkept := (keeps_heldLine t n h).owners _ ht m hm
      by_cases hmn : m = n
      · subst hmn
        have hne := owner_heldLine t m h hd hm
        rcases hkept with hk | hk | ⟨hk, -⟩
        · exact .inl hk
        · exact .inr (.inl hk)
        · exact absurd hk hne
      · rcases hkept with hk | hk | ⟨hk, hk'⟩
        · exact .inl hk
        · exact .inr (.inl hk)
        · exact .inr (.inr ⟨hk, by simp [hk', hmn]⟩))
  intro m hm
  simpa [heldLines, State.mem_allLines] using this.2 m hm

theorem offer_returnToSignOn_up (u : State) (n : LineNo) (hu : (u.ses n).offer = none) (o : Offer)
    (ho : ((u.returnToSignOn n).ses n).offer = some o) : ((u.returnToSignOn n).host o.target).up = true := by
  unfold State.returnToSignOn at ho ⊢
  exact ((Keeps.refl _).refuse (n := n) (by simp) slotDeclined).offer_up (fun o' ho' => by simp [hu] at ho') o ho

/-- What a SIGN_ON offer's decline leaves pending is UP. -/
theorem offer_declineSignOn_up (t : State) (n : LineNo) (o : Offer) (ho : ((t.declineSignOn n).ses n).offer = some o) :
    ((t.declineSignOn n).host o.target).up = true := by
  unfold State.declineSignOn State.dropOffer at ho ⊢
  dsimp only at ho ⊢
  split at ho
  next g hg =>
    have hup : (t.host g).up = true := by simpa using rerouteCandidate_up hg
    obtain ⟨k, tried, ⟨g', hup', hroom, he⟩ | he⟩ := signOnAttempt_cases
      (t.modSes n fun r => { r with offer := none, offerTimer := .stopped }) n (h := g) (by simpa using hup)
    · rw [he, ses_postOffer, Option.some.injEq] at ho
      subst ho
      rw [he]
      simpa [State.postOffer, State.pushNotice] using hup'
    · rw [he] at ho ⊢
      exact offer_returnToSignOn_up _ n (by simp) o ho
  · exact offer_returnToSignOn_up _ n (by simp) o ho

/-- A line that the withdrawal of a lost host's offers has been through has no offer there. -/
theorem offer_withdrawLost (t : State) (n : LineNo) (h : Computer) (hdown : (t.host h).up = false) (o : Offer)
    (ho : ((t.withdrawLost n h).ses n).offer = some o) : o.target ≠ h := by
  rintro rfl
  unfold State.withdrawLost at ho
  split at ho
  next o' ho' =>
    split at ho
    · split at ho
      · have := offer_declineSignOn_up t n o ho
        rw [reaches_host ((reaches.refl n t).declineSignOn), hdown] at this
        cases this
      · simp [State.dropOffer] at ho
    next hne =>
      rw [ho'] at ho
      cases ho
      exact hne rfl
  next ho' => rw [ho'] at ho; cases ho

/-- After the withdrawals no offer is at the lost host. -/
theorem offersBut_withdrawnLines {ex : LineNo → Computer → Prop} {h : Computer} (hdown : (s.host h).up = false)
    (hl : offersBut (fun n g => ex n g ∨ g = h) s) : offersBut ex (withdrawnLines s h) := by
  have := State.forLines_induct (s := s) (f := fun t n => t.withdrawLost n h)
    (I := fun done t => (t.host h).up = false ∧ offersBut (fun n g => ex n g ∨ g = h ∧ n ∉ done) t)
    ⟨hdown, by simpa using hl⟩ (by
      rintro done n t - ⟨hd, ht⟩
      refine ⟨by rw [reaches_host ((reaches.refl n t).withdrawLost h)]; exact hd, fun m o ho => ?_⟩
      have hkept := ((Keeps.refl t).withdrawLost n h).offers _ ht m o ho
      rcases hkept with hk | hk | ⟨hk, hk'⟩
      · exact .inl hk
      · exact .inr (.inl hk)
      · by_cases hmn : m = n
        · subst hmn
          exact absurd hk (offer_withdrawLost t m h hd o ho)
        · exact .inr (.inr ⟨hk, by simp [hk', hmn]⟩))
  intro m o ho
  simpa [withdrawnLines, State.mem_allLines] using this.2 m o ho

theorem host_heldLines (s : State) (h g : Computer) : (heldLines s h).host g = s.host g :=
  State.forLines_induct (I := fun _ t => t.host g = s.host g) rfl
    fun _ n t _ ht => (reaches_host (reaches_heldLine t n h) g).trans ht

/-- A host link that goes DOWN keeps the laws (R90). -/
theorem keeps_linkDown (s : State) (h : Computer) : Keeps s (s.linkDown h) := by
  rw [linkDown_eq]
  have hheld : Keeps (downed s h) (heldLines (downed s h) h) := (Keeps.refl _).forLines fun t n => keeps_heldLine t n h
  have hwith : Keeps (heldLines (downed s h) h) (withdrawnLines (heldLines (downed s h) h) h) :=
    (Keeps.refl _).forLines fun t n => (Keeps.refl t).withdrawLost n h
  have hrest : Keeps (withdrawnLines (heldLines (downed s h) h) h)
      (soughtLines ((withdrawnLines (heldLines (downed s h) h) h).postNotice .acct (.hostDown h))) :=
    ((Keeps.refl _).postNotice _ _).trans (keeps_soughtLines _)
  have hother : ∀ g, g ≠ h → (downed s h).host g = s.host g := fun g hg => by
    simp [downed, State.host_modHost_ne _ _ _ _ hg]
  refine ⟨(core_downed s h).trans ((hheld.trans hwith).trans hrest).core, fun ex hl => ?_, fun ex hl => ?_⟩
  · refine hrest.offers ex (offersBut_withdrawnLines ?_ (hheld.offers _ fun m o ho => ?_))
    · rw [host_heldLines]; exact host_downed_self s h
    · rw [ses_downed] at ho
      by_cases hg : o.target = h
      · exact .inr (.inr hg)
      · rw [hother _ hg]; exact (hl m o ho).imp_right .inl
  · refine (hwith.trans hrest).owners ex (ownersBut_heldLines (host_downed_self s h) fun m hm => ?_)
    rw [ses_downed] at hm ⊢
    rcases hl m hm with ⟨g, hg, hup⟩ | hex
    · by_cases hgh : g = h
      · subst hgh; exact .inr (.inr hg)
      · exact .inl ⟨g, hg, by rw [hother _ hgh]; exact hup⟩
    · exact .inr (.inl hex)

theorem Keeps.linkDown (hk : Keeps s t) (h : Computer) : Keeps s (t.linkDown h) := hk.trans (keeps_linkDown t h)

/-! ### A host link comes UP -/

/-- A host link that comes UP keeps the laws (R92). -/
theorem Keeps.linkUp (hk : Keeps s t) (h : Computer) : Keeps s (t.linkUp h) := by
  refine hk.trans ?_
  unfold State.linkUp
  have hup : Keeps t (t.modHost h fun _ => ⟨true, .running (t.params.hostSilence * 1000)⟩) :=
    (Keeps.refl t).modHost (fun _ => rfl) (fun hf => by cases hf)
  have hforgiven : ∀ u : State, Keeps t u → (u.host h).up = true →
      Keeps t (u.forLines fun v n => v.modSes n fun r => { r with declined := r.declined.remove h }) ∧
        ((u.forLines fun v n => v.modSes n fun r => { r with declined := r.declined.remove h }).host h).up = true :=
    fun u hu huh => State.forLines_induct (I := fun _ v => Keeps t v ∧ (v.host h).up = true) ⟨hu, huh⟩
      fun _ n v _ ⟨h1, h2⟩ => ⟨h1.slight (n := n) (.ses_of (.same rfl rfl)), by rw [State.host_modSes]; exact h2⟩
  obtain ⟨hf, hfh⟩ := hforgiven _ hup (by simp)
  refine (State.forLines_induct (I := fun _ v => Keeps t v ∧ (v.host h).up = true)
    ⟨hf.postNotice _ _, by rw [State.host_postNotice]; exact hfh⟩ fun _ n v _ ⟨h1, h2⟩ => ?_).1
  split
  next hc => exact ⟨h1.adoptAttempt hc.1 h2, by rw [reaches_host ((reaches.refl n v).adoptAttempt h)]; exact h2⟩
  · exact ⟨h1, h2⟩

/-! ### Frames -/

theorem Keeps.beginExchange (h : Keeps s t) (k : Link) : Keeps s (t.beginExchange k) :=
  Keeps.ite (fun _ => h.modPort le_rfl) fun _ => h.modPort le_rfl

theorem Keeps.inExchange (h : Keeps s t) (k : Link) : Keeps s (t.inExchange k) :=
  Keeps.ite (fun _ => h.beginExchange k) fun _ => h

theorem Keeps.endExchange (h : Keeps s t) (k : Link) : Keeps s (t.endExchange k) := h.modPort le_rfl

theorem Keeps.takeFrame (h : Keeps s t) {k : Link} {f : State → State} (hf : ∀ u, Keeps u (f u)) :
    Keeps s (t.takeFrame k f) := by
  have hb := h.inExchange k
  exact Keeps.ite (fun _ => hb.endExchange k) fun _ => (hb.endExchange k).trans (hf _)

theorem Keeps.linkActivity (h : Keeps s t) (k : Link) : Keeps s (t.linkActivity k) := by
  unfold State.linkActivity
  split
  next g hg =>
    exact Keeps.ite (fun hu => h.modHost (fun _ => hu) fun hd => hd) fun _ => h.linkUp g
  · exact h

/-- Link activity leaves its own host link UP (R88). -/
theorem linkActivity_up (t : State) {k : Link} {h : Computer} (hk : k.host? = some h) :
    ((t.linkActivity k).host h).up = true := by
  unfold State.linkActivity
  rw [hk]
  dsimp only
  split
  next hu => simpa using hu
  · unfold State.linkUp
    refine State.forLines_induct (I := fun _ v => (v.host h).up = true) ?_ fun _ n v _ hv => ?_
    · rw [State.host_postNotice]
      exact State.forLines_induct (I := fun _ v => (v.host h).up = true) (by simp)
        fun _ n v _ hv => by rw [State.host_modSes]; exact hv
    · split
      · rw [reaches_host ((reaches.refl n v).adoptAttempt h)]; exact hv
      · exact hv

/-- An order that keeps the laws on every part whose link has been active. -/
theorem Keeps.takeOrder (h : Keeps s t) {k : Link} {order : State → State × Reply}
    (ho : ∀ u, (∀ g, k.host? = some g → (u.host g).up = true) → Keeps u (order u).1) :
    Keeps s (t.takeOrder k order) :=
  h.takeFrame fun u => ((((Keeps.refl u).linkActivity k).trans
    (ho _ fun _ hg => linkActivity_up u hg)).setReply k _)

theorem Keeps.hostOrder (h : Keeps s t) {k : Link} {order : Computer → State → State × Reply}
    (ho : ∀ g u, (u.host g).up = true → Keeps u (order g u).1) : Keeps s (t.hostOrder k order) := by
  refine h.takeOrder fun u hu => ?_
  split
  next g hg => exact ho g u (hu g hg)
  · exact .refl u

theorem Keeps.acctOrder (h : Keeps s t) {k : Link} {order : State → State × Reply} (ho : ∀ u, Keeps u (order u).1) :
    Keeps s (t.acctOrder k order) := by
  refine h.takeOrder fun u _ => ?_
  split
  · exact .refl u
  · exact ho u

theorem Keeps.onLine {sel : Byte} {act : LineNo → State × Reply} (ha : ∀ n, Keeps s (act n).1) :
    Keeps s (s.onLine sel act).1 := by
  unfold State.onLine
  split
  · exact ha _
  · exact .refl s

theorem Keeps.onCursor {k : Link} {act : Account → State × Reply}
    (ha : ∀ e, s.account? e.number = some e → Keeps s (act e).1) : Keeps s (s.onCursor k act).1 := by
  unfold State.onCursor
  split
  next e he =>
    obtain ⟨a, -, hacc⟩ := Option.bind_eq_some_iff.1 he
    refine ha e ?_
    rw [(account?_eq_some hacc).2]
    exact hacc
  · exact .refl s

end Sys2Proof.Keeping
end

section
/-! PROOFS. The events of a line keep the laws: those of a line with no session, and those that clear, decline, receive
and send. -/

namespace Sys2Proof.Keeping


open Sys2Proof.Machine

variable {n : LineNo} {s t u : State}

/-! ### Changes of a line that has no session -/

/-- The record of a line that has no session after a change, in what the laws name. -/
structure Quiet (r r' : Session) : Prop where
  session : r'.state.hasSession = false
  offer : r'.offer = none ∨ r'.offer = r.offer
  f : r'.f = 0 ∨ r'.f = r.f
  fifos : r.fifosSound → r'.fifosSound

/-- The FIFOs of a record whose state alone changes. -/
theorem fifosSound_of_state {r r' : Session} (hs : r.state.hasSession = false) (hrx : r'.rx = r.rx) (htx : r'.tx = r.tx)
    (hfeed : r'.feed = r.feed) (hempty : r'.state.txEmpty = true → r.state.txEmpty = true) (h : r.fifosSound) :
    r'.fifosSound := by
  obtain ⟨h1, h2, h3, h4, h5⟩ := h
  refine ⟨fun hne => ?_, fun he => htx.trans (h2 (hempty he)), by rwa [hrx], by rwa [htx], by rwa [hfeed]⟩
  rw [hrx] at hne
  rcases h1 hne with he | he <;> rw [he] at hs <;> cases hs

theorem ne_of_sessionless {st : LineState} (h : st.hasSession = false) :
    st ≠ .offered ∧ st ≠ .connected ∧ st ≠ .held := by
  cases st <;> simp_all [LineState.hasSession]

/-- A change on a line that has a session neither before nor after. -/
theorem shift_quiet (h : Still n s t) (hs : (s.ses n).state.hasSession = false) (hq : Quiet (s.ses n) (t.ses n))
    (hout : outputSound (s.ses n) (s.unit n) → outputSound (t.ses n) (t.unit n)) : Shift n s t := by
  obtain ⟨hno, hnc, hnh⟩ := ne_of_sessionless hs
  obtain ⟨hno', hnc', -⟩ := ne_of_sessionless hq.session
  refine Shift.of_still h (fun hsh => ?_) (fun o ho => ?_) (fun hc => absurd hc hnc') (fun _ => hq.fifos)
    (fun _ hf => ?_) (fun _ => hout) fun _ => ⟨hq.session.trans hs.symm, fun he => by rw [hs] at he; cases he⟩
  · refine offerShaped_of_none ?_ hno'
    rcases hq.offer with ho | ho
    · exact ho
    · exact ho.trans (hsh.offer_eq_none hno hnh)
  · rcases hq.offer with ho' | ho'
    · rw [ho'] at ho; cases ho
    · exact .inl ⟨o, by rw [← ho']; exact ho, rfl⟩
  · have hzero : (s.ses n).f = 0 := hf.2 hnc hnh
    have : (t.ses n).f = 0 := by rcases hq.f with h0 | h0 <;> simp [h0, hzero]
    exact ⟨by omega, fun _ _ => this⟩

theorem Ended.quiet {r r' : Session} (h : Ended r r') : Quiet r r' :=
  ⟨h.hasSession, .inl h.offer, h.f, h.fifos⟩

/-! ### Rest, the guard and the hang-up -/

theorem shift_outEntry (hs : (s.ses n).state.hasSession = false) : Shift n s (s.outEntry n) := by
  have hses : (s.outEntry n).ses n = outRecord (s.ses n) := by simp [State.outEntry, outRecord]
  refine shift_quiet (Still.refl n s).outEntry hs ?_ fun _ => ?_
  · rw [hses]; exact (ended_outRecord _).quiet
  · rw [hses]; exact outputSound_outRecord _ (by simp [State.outEntry]) (by simp [State.outEntry])

theorem shift_idleEntry (hs : (s.ses n).state.hasSession = false)
    (hoff : outputSound (s.ses n) (s.unit n) → (s.unit n).ans = false) : Shift n s (s.idleEntry n) := by
  have hses : (s.idleEntry n).ses n = idleRecord (s.ses n) := by simp [State.idleEntry, State.startRing, idleRecord]
  refine shift_quiet (Still.refl n s).idleEntry hs ?_ fun ho => ?_
  · rw [hses]; exact (ended_idleRecord _).quiet
  · rw [hses]
    exact outputSound_idleRecord _ (by simpa [State.idleEntry, State.startRing] using hoff ho)
      (by simp [State.idleEntry, State.startRing])

theorem Keeps.outEntry (h : Keeps s t) (hs : (t.ses n).state.hasSession = false) : Keeps s (t.outEntry n) :=
  h.trans (shift_outEntry hs).keeps

/-- A line whose ANS is off by its state comes to rest. -/
theorem Keeps.guardEnd (h : Keeps s t) (hs : (t.ses n).state.hasSession = false)
    (hoff : outputSound (t.ses n) (t.unit n) → (t.unit n).ans = false) : Keeps s (t.guardEnd n) := by
  unfold State.guardEnd
  exact Keeps.ite (fun _ => h.outEntry hs) fun _ => h.trans (shift_idleEntry hs hoff).keeps

/-- The hang-up of a CLEARING line, before its guard is judged (R14). -/
theorem shift_guarded (hs : (s.ses n).state = .clearing) {g : Timer} {f : LineUnit → LineUnit}
    (ha : (f (s.unit n)).ans = false) (ht : (f (s.unit n)).trdy = false) :
    Shift n s ((s.modUnit n f).modSes n fun r => { r with phase := .guard, stateTimer := g }) := by
  refine shift_quiet (((Still.refl n s).unit f).ses _) (by rw [hs]; rfl) ?_ fun _ => ?_
  · rw [State.ses_modSes_self, State.ses_modUnit]
    exact ⟨by rw [hs]; rfl, .inr rfl, .inr rfl, id⟩
  · rw [State.ses_modSes_self, State.ses_modUnit, State.unit_modSes, State.unit_modUnit_self]
    simp [outputSound, hs, ha, ht, LineState.active, Session.draining]

theorem Keeps.hangUp (h : Keeps s t) (hs : (t.ses n).state = .clearing) : Keeps s (t.hangUp n) := by
  unfold State.hangUp
  have hg := h.trans (shift_guarded hs (g := .start (t.params.guardTime * 1000)) (f := fun u =>
    { u with ans := false, trdy := false, carrier := .stopped, speed := .stopped, receiver := .stopped,
             transmitter := .idle, flow := none }) rfl rfl).keeps
  exact Keeps.ite (fun _ => hg.guardEnd (by simp [hs, LineState.hasSession]) fun _ => by simp) fun _ => hg

/-! ### Ringing and the answer -/

theorem Keeps.unit (h : Keeps s t) {f : LineUnit → LineUnit} (ha : (f (t.unit n)).ans = (t.unit n).ans)
    (ht : (f (t.unit n)).trdy = (t.unit n).trdy) : Keeps s (t.modUnit n f) := h.slight (.unit_of ha ht)

theorem Keeps.modRing (h : Keeps s t) (f : Ring → Ring) : Keeps s (t.modRing n f) := h.unit rfl rfl

theorem Keeps.ses (h : Keeps s t) {f : Session → Session} (hf : Alike (t.ses n) (f (t.ses n))) : Keeps s (t.modSes n f) :=
  h.slight (.ses_of hf)

/-- The outputs of a line that is IDLE or RINGING (R21). -/
theorem outputSound_onHook {r : Session} {u : LineUnit} (hs : r.state = .idle ∨ r.state = .ringing) :
    outputSound r u ↔ u.ans = false ∧ u.trdy = true := by
  unfold outputSound
  rcases hs with he | he <;> simp [he, LineState.active, Session.draining, beq_eq_decide]

/-- A line that changes between IDLE and RINGING. -/
theorem shift_ringing {f : Session → Session} (hs : (s.ses n).state = .idle ∨ (s.ses n).state = .ringing)
    (hf : (f (s.ses n)).state = .idle ∨ (f (s.ses n)).state = .ringing) (hoffer : (f (s.ses n)).offer = (s.ses n).offer)
    (hfrac : (f (s.ses n)).f = (s.ses n).f) (hrx : (f (s.ses n)).rx = (s.ses n).rx)
    (htx : (f (s.ses n)).tx = (s.ses n).tx) (hfeed : (f (s.ses n)).feed = (s.ses n).feed) :
    Shift n s (s.modSes n f) := by
  have hno : (s.ses n).state.hasSession = false := by rcases hs with he | he <;> rw [he] <;> rfl
  refine shift_quiet ((Still.refl n s).ses f) hno ?_ fun ho => ?_
  · rw [State.ses_modSes_self]
    refine ⟨by rcases hf with he | he <;> rw [he] <;> rfl, .inr hoffer, .inr hfrac,
      fifosSound_of_state hno hrx htx hfeed fun _ => ?_⟩
    rcases hs with he | he <;> rw [he] <;> rfl
  · rw [State.ses_modSes_self, State.unit_modSes]
    exact (outputSound_onHook hf).2 ((outputSound_onHook hs).1 ho)

theorem Keeps.ringingToIdle (h : Keeps s t) (n : LineNo) : Keeps s (t.ringingToIdle n) :=
  Keeps.ite (fun hs => h.trans (shift_ringing (.inr hs) (.inl rfl) rfl rfl rfl rfl rfl).keeps) fun _ => h

theorem state_of_ringRuns (h : s.ringRuns n = true) : (s.ses n).state = .idle ∨ (s.ses n).state = .ringing := by
  simp only [State.ringRuns, Bool.and_eq_true, Bool.or_eq_true, beq_iff_eq] at h
  exact h.1

theorem ringRuns_of_ringIn {c : RingCond} (h : s.ringIn n c = true) : s.ringRuns n = true := by
  simp only [State.ringIn, Bool.and_eq_true] at h
  exact h.1

theorem Keeps.falseBurst (h : Keeps s t) (n : LineNo) : Keeps s (t.falseBurst n) := by
  unfold State.falseBurst
  exact Keeps.ses (Keeps.ringingToIdle (Keeps.unit (n := n) h (by rfl) (by rfl)) n) (.same rfl rfl)

theorem Keeps.judgeFalse (h : Keeps s t) (n : LineNo) (lasted : Nat) : Keeps s (t.judgeFalse n lasted) :=
  Keeps.ite (fun _ => h.falseBurst n) fun _ => h

theorem Keeps.answerCall (h : Keeps s t) (hs : (t.ses n).state = .ringing) : Keeps s (t.answerCall n) := by
  unfold State.answerCall
  have hno : (t.ses n).state.hasSession = false := by rw [hs]; rfl
  refine h.trans (shift_quiet (((Still.refl n t).ses _).unit _) hno ?_ fun ho => ?_).keeps
  · rw [State.ses_modUnit, State.ses_modSes_self]
    exact ⟨rfl, .inr rfl, .inr rfl, fifosSound_of_state hno rfl rfl rfl fun _ => by rw [hs]; rfl⟩
  · rw [State.ses_modUnit, State.ses_modSes_self, State.unit_modUnit_self, State.unit_modSes]
    obtain ⟨-, htrdy⟩ := ho
    rw [hs] at htrdy
    exact ⟨rfl, htrdy⟩

theorem Keeps.judgeRings (h : Keeps s t) (hs : (t.ses n).state = .ringing) : Keeps s (t.judgeRings n) :=
  Keeps.ite (fun _ => h.answerCall hs) fun _ => h.ses (.of rfl (fun ho => by rw [hs] at ho; cases ho) id)

theorem Keeps.countRing (h : Keeps s t) (hs : (t.ses n).state = .idle ∨ (t.ses n).state = .ringing) (onTime : Nat) :
    Keeps s (t.countRing n onTime) := by
  unfold State.countRing
  exact h.trans (shift_ringing hs (.inr rfl) rfl rfl rfl rfl rfl).keeps

theorem Keeps.startRing (h : Keeps s t) (n : LineNo) : Keeps s (t.startRing n) := h.unit rfl rfl

/-! ### Speed detection -/

theorem Keeps.failAttempt (h : Keeps s t) (hs : (t.ses n).state = .speedHunt) : Keeps s (t.failAttempt n) := by
  unfold State.failAttempt State.giveUp State.startSpeedWait
  have hc : Slight n t (t.modSes n fun r => { r with speedUsed := satInc 5 r.speedUsed }) := .ses_of (.same rfl rfl)
  refine Keeps.ite (fun _ => (h.slight (hc.raiseFault _)).clearRequest n _) fun _ => ?_
  refine h.slight ((hc.ses' ?_).unit rfl rfl)
  exact .of rfl (fun ho => by simp [hs] at ho) id

theorem Keeps.attemptSucceeds (h : Keeps s t) (hs : (t.ses n).state = .speedHunt) (r : Rate) :
    Keeps s (t.attemptSucceeds n r) := by
  unfold State.attemptSucceeds
  have hsl : Slight n t (((((t.modSes n fun x => { x with rate := some r }).modUnit n fun u =>
      { u with receiver := .hunting, speed := .stopped }).requestMessage n slotBanner).requestMessage n slotPrompt)) :=
    (((Slight.ses_of (.same rfl rfl)).unit rfl rfl).requestMessage _).requestMessage _
  have hst := hsl.ses.state.trans hs
  dsimp only
  generalize ((((t.modSes n fun x => { x with rate := some r }).modUnit n fun u =>
      { u with receiver := .hunting, speed := .stopped }).requestMessage n slotBanner).requestMessage n slotPrompt) = v
    at hsl hst ⊢
  have hno : (v.ses n).state.hasSession = false := by rw [hst]; rfl
  refine (h.slight hsl).trans (shift_quiet ((Still.refl n v).ses _) hno ?_ fun ho => ?_).keeps
  · rw [State.ses_modSes_self]
    exact ⟨rfl, .inr rfl, .inr rfl, fifosSound_of_state hno rfl rfl rfl fun hf => by cases hf⟩
  · rw [State.ses_modSes_self, State.unit_modSes]
    unfold outputSound at ho ⊢
    simpa [hst, LineState.active, Session.draining] using ho

theorem state_of_attempt {x : Speed} (h : s.attempt n = x) (hx : x ≠ .stopped) : (s.ses n).state = .speedHunt := by
  unfold State.attempt at h
  split at h
  · assumption
  · exact absurd h.symm hx

end Sys2Proof.Keeping
end

section
/-! PROOFS. The orders on lines and on the service keep the laws. -/

namespace Sys2Proof.Keeping


open Sys2Proof.Machine

variable {n : LineNo} {s t u : State}

/-! ### Host orders -/

theorem Keeps.actOnVerdict (h : Keeps s t) {o : Offer} (ho : (t.ses n).offer = some o)
    (hup : (t.host o.target).up = true) (verdict : Byte) : Keeps s (t.actOnVerdict n o verdict) :=
  Keeps.ite (fun _ => h.acceptOffer ho hup) fun _ => h.declineOffer ho

theorem Keeps.answerLine (h : Keeps s t) {g : Computer} (hup : (t.host g).up = true) (n : LineNo) (toggle verdict : Byte) :
    Keeps s (t.answerLine g n toggle verdict).1 := by
  unfold State.answerLine
  split
  · exact h
  split
  next o ho =>
    split
    · exact h
    next htarget =>
      split
      · exact h
      · exact h.actOnVerdict ho (by rw [not_not.1 htarget]; exact hup) verdict
  · exact h

theorem Keeps.receiveLine (h : Keeps s t) (n : LineNo) : Keeps s (t.receiveLine n).1 := by
  unfold State.receiveLine
  split
  · exact h
  next c rest hrx =>
    refine h.slight ((Slight.ses_of ?_).judgeLowWater)
    refine .of rfl (fun _ => rfl) (fun ⟨h1, h2, h3, h4, h5⟩ => ?_)
    rw [hrx] at h1 h3
    refine ⟨fun _ => h1 (by simp), h2, ?_, h4, h5⟩
    simp only [List.length_drop, List.length_cons] at h3 ⊢
    omega

theorem slight_sendLine {t : State} (hs : (t.ses n).state = .connected) (cs : List Byte) :
    Slight n t (t.sendLine n cs).1 := by
  have hroom : t.sendRoom n cs.length ≠ 0 →
      (t.ses n).tx.length + (cs.take (t.sendRoom n cs.length)).length ≤ fifoSize := by
    intro hne
    unfold State.sendRoom at hne ⊢
    split at hne
    next hf => rw [if_pos hf, List.length_take]; omega
    · exact absurd rfl hne
  unfold State.sendLine
  dsimp only
  split
  next h0 => rw [h0]; exact .refl n t
  next hne => exact ((Slight.refl n t).placeAll _ (hroom hne) (by rw [hs]; rfl)).restartIdle

/-! ### Line control -/

theorem shift_settle {g : Timer} {b : Bool} (hs : (s.ses n).state = .outOfService) (hb : b = g.isRunning) :
    Shift n s ((s.modUnit n fun u => { u with trdy := b }).modSes n fun r => { r with stateTimer := g }) := by
  refine shift_quiet (((Still.refl n s).unit _).ses _) (by rw [hs]; rfl) ?_ fun ho => ?_
  · rw [State.ses_modSes_self, State.ses_modUnit]
    exact ⟨by rw [hs]; rfl, .inr rfl, .inr rfl, id⟩
  · rw [State.ses_modSes_self, State.ses_modUnit, State.unit_modSes, State.unit_modUnit_self]
    obtain ⟨hans, -⟩ := ho
    refine ⟨hans, ?_⟩
    simp [hs, hb]

theorem Keeps.enableLine (h : Keeps s t) (n : LineNo) : Keeps s (t.enableLine n).1 := by
  unfold State.enableLine
  split
  · exact h
  next hs =>
    split
    · exact h
    split
    · exact h
    · exact h.trans (shift_settle (g := .running 250) (not_not.1 hs) rfl).keeps

theorem Keeps.setDisablePending (h : Keeps s t) (n : LineNo) : Keeps s (t.setDisablePending n) := h.ses (.same rfl rfl)

theorem Keeps.disableLine (h : Keeps s t) (n : LineNo) : Keeps s (t.disableLine n) := by
  unfold State.disableLine
  split
  next hs => exact h.outEntry (by rw [hs]; rfl)
  next hs => exact h.outEntry (by rw [hs]; rfl)
  · exact h.setDisablePending n
  next hs => exact Keeps.ite (fun _ => h.trans (shift_settle (g := .stopped) hs rfl).keeps) fun _ => h
  all_goals exact (h.setDisablePending n).clearRequest n _

theorem Keeps.clearLine (h : Keeps s t) (n : LineNo) : Keeps s (t.clearLine n).1 := by
  unfold State.clearLine
  split
  · exact h
  · exact (h.ringingToIdle n).modRing fun d => d.toRearm false
  · exact h
  · exact h
  all_goals exact h.clearRequest n _

/-! ### The service state -/

theorem Keeps.service (h : Keeps s t) (v : Service) : Keeps s { t with service := v } :=
  h.trans <| .of_core (.of_same (fun _ => .refl _) (fun _ => rfl) (fun _ => rfl) rfl id rfl rfl rfl
    (noticeLaw_of_eq (fun k => by cases k <;> rfl) fun g => by cases g <;> rfl)) (fun _ => .refl _)
    fun g => by cases g <;> exact id

theorem Keeps.judgeDrained (h : Keeps s t) : Keeps s t.judgeDrained :=
  Keeps.ite (fun _ => (h.service _).postNotice _ _) fun _ => h

theorem Keeps.stopRinging (h : Keeps s t) : Keeps s t.stopRinging :=
  h.forLines fun u n => by
    split
    · exact ((Keeps.refl u).ringingToIdle n).unit rfl rfl
    · exact ((Keeps.refl u).ringingToIdle n).unit rfl rfl
    · exact .refl u

theorem Keeps.startRinging (h : Keeps s t) : Keeps s t.startRinging :=
  h.forLines fun u n => Keeps.ite (fun _ => (Keeps.refl u).startRing n) fun _ => .refl u

theorem Keeps.openService (h : Keeps s t) : Keeps s t.openService := by
  unfold State.openService
  split
  · exact h
  · exact (h.service _).startRinging
  · exact (h.service _).startRinging

theorem Keeps.drainService (h : Keeps s t) : Keeps s t.drainService.1 := by
  unfold State.drainService
  split
  · exact h
  · exact h
  · dsimp only
    exact (h.service _).stopRinging.judgeDrained

theorem Keeps.closeService (h : Keeps s t) : Keeps s t.closeService := by
  unfold State.closeService
  split
  · exact h
  all_goals exact (h.service .closed).stopRinging.forLines fun u n => (Keeps.refl u).clearRequest n .serviceClosed

/-! ### Modem loss -/

theorem Keeps.emptyOut (h : Keeps s t) (n : LineNo) : Keeps s (t.emptyOut n) := h.slight (Slight.refl n t).emptyOut

theorem Keeps.raiseFault (h : Keeps s t) (n : LineNo) (k : FaultKind) : Keeps s (raiseFault t n k) :=
  h.slight ((Slight.refl n t).raiseFault k)

theorem Keeps.loseModem (h : Keeps s t) (n : LineNo) : Keeps s (t.loseModem n) := by
  have hd : Keeps s (t.modSes n fun r => { r with disablePending := true }) := h.ses (.same rfl rfl)
  unfold State.loseModem
  split
  next hs => exact h.outEntry (by rw [hs]; rfl)
  next hs => exact h.outEntry (by rw [hs]; rfl)
  · exact h
  next hs => exact Keeps.ite (fun _ => (hd.emptyOut n).hangUp (by simp [State.emptyOut, hs])) fun _ => hd
  all_goals exact hd.clearRequest n _

/-! ### The Account Table -/

theorem insertAccount_perm (e : Account) (l : List Account) : (insertAccount e l).Perm (e :: l) := by
  induction l with
  | nil => exact .refl _
  | cons x rest ih =>
    unfold insertAccount
    split
    · exact .refl _
    · exact (ih.cons x).trans (.swap e x rest)

theorem mem_insertAccount {e x : Account} {l : List Account} : x ∈ insertAccount e l ↔ x = e ∨ x ∈ l := by
  rw [(insertAccount_perm e l).mem_iff, List.mem_cons]

/-- An entry whose number is new joins an ascending table in its place (R116). -/
theorem sorted_insertAccount {e : Account} {l : List Account} (hl : l.Pairwise fun x y => x.number < y.number)
    (hne : ∀ x ∈ l, x.number ≠ e.number) : (insertAccount e l).Pairwise fun x y => x.number < y.number := by
  induction l with
  | nil => simp [insertAccount]
  | cons x rest ih =>
    obtain ⟨hx, hrest⟩ := List.pairwise_cons.1 hl
    unfold insertAccount
    split
    next hlt =>
      refine List.pairwise_cons.2 ⟨fun y hy => ?_, hl⟩
      rcases List.mem_cons.1 hy with rfl | hy
      · exact hlt
      · exact hlt.trans (hx y hy)
    next hge =>
      have hxe := hne x (by simp)
      refine List.pairwise_cons.2 ⟨fun y hy => ?_, ih hrest fun y hy => hne y (by simp [hy])⟩
      rcases mem_insertAccount.1 hy with rfl | hy
      · omega
      · exact hx y hy

theorem tableLaw_insert {e : Account} (hl : tableLaw s) (hne : ∀ x ∈ s.accounts, x.number ≠ e.number)
    (hroom : s.accounts.length < 128) (hn : e.number ≤ 999999) :
    tableLaw { s with accounts := insertAccount e s.accounts } := by
  obtain ⟨-, hsorted, hrange⟩ := hl
  refine ⟨?_, sorted_insertAccount hsorted hne, fun x hx => ?_⟩
  · show (insertAccount e s.accounts).length ≤ 128
    rw [(insertAccount_perm e s.accounts).length_eq]
    exact hroom
  · rcases mem_insertAccount.1 hx with rfl | hx
    · exact hn
    · exact hrange x hx

/-- A change of the table alone. -/
theorem keeps_accounts {l : List Account} (table : tableLaw s → tableLaw { s with accounts := l })
    (balance : balanceLaw s → balanceLaw { s with accounts := l })
    (active : tableLaw s → activeLaw s → activeLaw { s with accounts := l }) : Keeps s { s with accounts := l } :=
  .of_core (.of_alike (fun _ => .refl _) (fun _ => rfl) (fun _ => rfl) table balance active id id le_rfl rfl
    (noticeLaw_of_eq (fun k => by cases k <;> rfl) fun g => by cases g <;> rfl)) (fun _ => .refl _)
    fun g => by cases g <;> exact id

/-- No session names a number that is not in the table (R123). -/
theorem countLines_names_absent (hl : activeLaw s) {a : Nat} (ha : ∀ x ∈ s.accounts, x.number ≠ a) :
    s.countLines (fun _ l => l.ses.names a) = 0 := by
  rw [State.countLines_eq_zero]
  intro m
  by_contra hne
  have hnames : (s.ses m).names a = true := by rw [← Bool.not_eq_false]; exact hne
  simp only [Session.names, Bool.and_eq_true, beq_iff_eq] at hnames
  obtain ⟨hsession, haccount⟩ := hnames
  have := hl.2 m hsession
  rw [State.accountOf, haccount, Option.bind_some, account?_isSome_iff] at this
  obtain ⟨e, he, hea⟩ := this
  exact ha e he hea

/-- The named account of every session is present in a table with no number less. -/
theorem accountOf_isSome_mono {l : List Account} (hm : ∀ a, (∃ e ∈ s.accounts, e.number = a) →
    (∃ m, (s.ses m).names a = true) → ∃ e ∈ l, e.number = a)
    (hl : ∀ m, (s.ses m).state.hasSession = true → (s.accountOf m).isSome = true) (m : LineNo)
    (hs : (s.ses m).state.hasSession = true) : (({ s with accounts := l } : State).accountOf m).isSome = true := by
  have hsome := hl m hs
  unfold State.accountOf at hsome ⊢
  cases ha : (s.ses m).account with
  | none => rw [ha] at hsome; cases hsome
  | some a =>
    rw [ha, Option.bind_some, account?_isSome_iff] at hsome
    show (((s.ses m).account).bind _).isSome = true
    rw [ha, Option.bind_some, account?_isSome_iff]
    exact hm a hsome ⟨m, by simp [Session.names, hs, ha]⟩

/-- ACCOUNT CREATE's entry (R116, R110). -/
theorem keeps_insert {a : Nat} (ha : a ≤ 999999) (hne : s.account? a = none) (hroom : s.accounts.length < 128) :
    Keeps s { s with accounts := insertAccount (Account.fresh a) s.accounts } := by
  have habsent : ∀ x ∈ s.accounts, x.number ≠ (Account.fresh a).number := by
    intro x hx hxa
    have := (account?_isSome_iff s a).2 ⟨x, hx, hxa⟩
    rw [hne] at this
    cases this
  refine keeps_accounts (fun hl => tableLaw_insert hl habsent hroom ha) (fun hl e he => ?_) fun _ hl => ⟨fun e he => ?_, ?_⟩
  · rcases mem_insertAccount.1 he with rfl | he
    · exact Nat.zero_le _
    · exact hl e he
  · rcases mem_insertAccount.1 he with rfl | he
    · exact ⟨(countLines_names_absent hl habsent).symm, Nat.zero_le _, by show 1 ≤ 4; omega⟩
    · exact hl.1 e he
  · exact accountOf_isSome_mono (s := s) (fun b ⟨x, hx, hxb⟩ _ => ⟨x, mem_insertAccount.2 (.inr hx), hxb⟩) hl.2

/-- The removal of an entry with no active session (R122). -/
theorem keeps_filter {e : Account} (hacc : s.account? e.number = some e) (hzero : e.active = 0) :
    Keeps s { s with accounts := s.accounts.filter fun x => x.number != e.number } := by
  have hmem := (account?_eq_some hacc).1
  refine keeps_accounts (fun ⟨h1, h2, h3⟩ => ⟨?_, h2.filter _, fun x hx => h3 x (List.mem_filter.1 hx).1⟩)
    (fun hl x hx => hl x (List.mem_filter.1 hx).1) fun _ hl => ⟨fun x hx => hl.1 x (List.mem_filter.1 hx).1, ?_⟩
  · exact (List.length_filter_le _ _).trans h1
  · refine accountOf_isSome_mono (s := s) (fun b ⟨x, hx, hxb⟩ ⟨m, hm⟩ => ⟨x, List.mem_filter.2 ⟨hx, ?_⟩, hxb⟩) hl.2
    have hnone : (s.ses m).names e.number = false :=
      (State.countLines_eq_zero s _).1 ((hl.1 e hmem).1.symm.trans hzero) m
    rw [bne_iff_ne, hxb]
    rintro rfl
    rw [hm] at hnone
    cases hnone

/-- A change of the entry with a number, of no number or active count, to a balance in range and a limit not below the
active count. -/
theorem keeps_modAccount {a : Nat} {f : Account → Account} (hnum : ∀ x, x.number = a → (f x).number = a)
    (hbal : balanceLaw s → ∀ x ∈ s.accounts, x.number = a → (f x).balance ≤ 16777215)
    (hact : tableLaw s → ∀ x ∈ s.accounts, x.number = a → x.active ≤ x.limit → x.limit ≤ 4 →
      (f x).active = x.active ∧ x.active ≤ (f x).limit ∧ (f x).limit ≤ 4) : Keeps s (s.modAccount a f) := by
  have hnumber : ∀ x, (if x.number == a then f x else x).number = x.number := by
    intro x
    split
    next hx => rw [beq_iff_eq] at hx; rw [hnum x hx, hx]
    · rfl
  refine keeps_accounts (fun ⟨h1, h2, h3⟩ => ⟨by simpa using h1, ?_, ?_⟩) (fun hl e he => ?_)
    fun ht hl => ⟨fun e he => ?_, ?_⟩
  · refine List.pairwise_map.2 (h2.imp fun {x y} hxy => ?_)
    rw [hnumber, hnumber]; exact hxy
  · intro e he
    obtain ⟨x, hx, rfl⟩ := List.mem_map.1 he
    rw [hnumber]; exact h3 x hx
  · obtain ⟨x, hx, rfl⟩ := List.mem_map.1 he
    split
    next hxa => exact hbal hl x hx (beq_iff_eq.1 hxa)
    · exact hl x hx
  · obtain ⟨x, hx, rfl⟩ := List.mem_map.1 he
    obtain ⟨h1, h2, h3⟩ := hl.1 x hx
    rw [hnumber]
    split
    next hxa =>
      obtain ⟨ha, hle, hlim⟩ := hact ht x hx (beq_iff_eq.1 hxa) h2 h3
      rw [ha]
      exact ⟨h1, hle, hlim⟩
    · exact ⟨h1, h2, h3⟩
  · exact accountOf_isSome_mono (s := s) (fun b ⟨x, hx, hxb⟩ _ => ⟨_, List.mem_map_of_mem hx, (hnumber x).trans hxb⟩) hl.2

theorem Keeps.judgeBalance (h : Keeps s t) (a : Nat) : Keeps s (t.judgeBalance a) := by
  unfold State.judgeBalance
  split
  · exact Keeps.ite (fun _ => h.forLines fun u n => Keeps.ite (fun _ => (Keeps.refl u).ses (.same rfl rfl)) fun _ => .refl u)
      fun _ => h
  · exact h

/-- What ACCOUNT SET writes leaves the number and the active count, keeps the balance in range, and holds the limit at or
above the active count (R117). -/
theorem withField_sound {e e' : Account} {field v : Nat} {c : Bool} (h : e.withField field v = some (e', c)) :
    e'.number = e.number ∧ e'.active = e.active ∧ (e.balance ≤ 16777215 → e'.balance ≤ 16777215) ∧
      (e.active ≤ e.limit → e.limit ≤ 4 → e.active ≤ e'.limit ∧ e'.limit ≤ 4) := by
  unfold Account.withField at h
  split at h
  case h_4 =>
    simp only [Option.some.injEq, Prod.mk.injEq] at h
    obtain ⟨rfl, -⟩ := h
    refine ⟨rfl, rfl, id, fun h1 h2 => ?_⟩
    simp only [clamp]
    omega
  case h_2 =>
    simp only [Option.some.injEq, Prod.mk.injEq] at h
    obtain ⟨rfl, -⟩ := h
    exact ⟨rfl, rfl, fun _ => Nat.min_le_right _ _, fun h1 h2 => ⟨h1, h2⟩⟩
  all_goals
    (repeat' split at h) <;> simp only [Option.some.injEq, Prod.mk.injEq, reduceCtorEq] at h
    all_goals obtain ⟨rfl, -⟩ := h; exact ⟨rfl, rfl, id, fun h1 h2 => ⟨h1, h2⟩⟩

end Sys2Proof.Keeping
end

section
/-! PROOFS. Every command and every step keeps the laws: the changes that pass the lines by, the second boundary, the
passing of time and the device reset, then one line for each command. -/

namespace Sys2Proof.Keeping


open Sys2Proof.Machine

variable {n : LineNo} {s t u : State}

/-! ### Changes that pass the lines by -/

/-- A change of what the laws do not name, but for a clock that stays in range and records taken. -/
theorem keeps_elsewhere_of
    (h : (t.lines, t.portA, t.portB, t.portAcct, t.hostA, t.hostB, t.accounts, t.reservations, t.serial) =
      (s.lines, s.portA, s.portB, s.portAcct, s.hostA, s.hostB, s.accounts, s.reservations, s.serial))
    (clock : s.clock.minute < 10080 ∧ s.clock.second < 60 → t.clock.minute < 10080 ∧ t.clock.second < 60)
    (records : serialsRun s.serial s.records → serialsRun t.serial t.records)
    (length : t.records.length ≤ s.records.length) : Keeps s t := by
  simp only [Prod.mk.injEq] at h
  obtain ⟨lines, portA, portB, portAcct, hostA, hostB, accounts, reservations, serial⟩ := h
  have hline : ∀ m, t.line m = s.line m := fun m => by unfold State.line; rw [lines]
  have hses : ∀ m, Alike (s.ses m) (t.ses m) := fun m => by unfold State.ses; rw [hline]; exact .refl _
  have hhost : ∀ g, t.host g = s.host g := fun g => by cases g <;> assumption
  refine .of_core (.of_alike hses (fun m => by unfold State.unit; rw [hline]) (fun m => by unfold State.unit; rw [hline])
    (fun hl => by unfold tableLaw; rw [accounts]; exact hl) (fun hl => by unfold balanceLaw; rw [accounts]; exact hl)
    (fun _ => activeLaw_of_alike hses accounts) clock
    (fun ⟨hrun, hlt⟩ => ⟨records hrun, serial ▸ hlt⟩) length reservations
    (noticeLaw_of_eq (fun k => ?_) fun g => by rw [hhost])) hses fun g hg => by rw [hhost]; exact hg
  cases k
  · exact congrArg LinkPort.notices portA
  · exact congrArg LinkPort.notices portB
  · exact congrArg LinkPort.notices portAcct

/-- A change of what the laws do not name. -/
theorem keeps_elsewhere
    (h : (t.lines, t.portA, t.portB, t.portAcct, t.hostA, t.hostB, t.accounts, t.reservations, t.serial) =
      (s.lines, s.portA, s.portB, s.portAcct, s.hostA, s.hostB, s.accounts, s.reservations, s.serial))
    (h' : (t.clock.minute, t.clock.second, t.records) = (s.clock.minute, s.clock.second, s.records)) : Keeps s t := by
  simp only [Prod.mk.injEq] at h'
  obtain ⟨hmin, hsec, hrec⟩ := h'
  refine keeps_elsewhere_of h (fun hc => by rwa [hmin, hsec]) (fun hr => ?_) (by rw [hrec])
  simp only [Prod.mk.injEq] at h
  rw [hrec, h.2.2.2.2.2.2.2.2]
  exact hr

/-- A change of one line that leaves its record and its outputs alike. -/
theorem keeps_modLine {f : Line → Line} (hses : Alike (s.line n).ses (f (s.line n)).ses)
    (hans : (f (s.line n)).unit.ans = (s.line n).unit.ans) (htrdy : (f (s.line n)).unit.trdy = (s.line n).unit.trdy) :
    Keeps s (s.modLine n f) := by
  have hline : ∀ {P : Line → Line → Prop}, (∀ l, P l l) → P (s.line n) (f (s.line n)) →
      ∀ m, P (s.line m) ((s.modLine n f).line m) := by
    intro P hrefl hself m
    by_cases hm : m = n
    · subst hm; rw [State.line_modLine_self]; exact hself
    · rw [State.line_modLine_ne s n m f hm]; exact hrefl _
  have hall : ∀ m, Alike (s.ses m) ((s.modLine n f).ses m) :=
    hline (P := fun l l' => Alike l.ses l'.ses) (fun _ => .refl _) hses
  exact .of_core (.of_same hall (hline (P := fun l l' => l'.unit.ans = l.unit.ans) (fun _ => rfl) hans)
    (hline (P := fun l l' => l'.unit.trdy = l.unit.trdy) (fun _ => rfl) htrdy) rfl id rfl rfl rfl
    (noticeLaw_of_eq (fun k => by rw [State.port_modLine]) fun g => by rw [State.host_modLine])) hall
    fun g hg => by rw [State.host_modLine]; exact hg

/-! ### The second boundary -/

/-- The clock one second on reads a time of the week (R125). -/
theorem clockLaw_advance {c : Clock} (h : c.minute < 10080 ∧ c.second < 60) :
    c.advance.minute < 10080 ∧ c.advance.second < 60 := by
  unfold Clock.advance
  split
  next hlt => exact ⟨h.1, hlt⟩
  · refine ⟨?_, Nat.zero_lt_succ _⟩
    dsimp only
    split <;> omega

/-- The second counted of a CONNECTED line leaves less than a unit in its fraction (R135, step 4). -/
theorem shift_accrueSecond (hs : (s.ses n).state = .connected) (band : Fin 4) : Shift n s (s.accrueSecond n band) := by
  unfold State.accrueSecond
  refine Shift.of_still ((Still.refl n s).ses _) ?_ ?_ ?_ ?_ ?_ ?_ ?_ <;> rw [State.ses_modSes_self]
  · exact id
  · exact fun o ho => .inl ⟨o, ho, rfl⟩
  · exact fun hc => .inl ⟨hc, rfl⟩
  · exact fun _ => id
  · exact fun _ _ => ⟨Nat.mod_lt _ (by omega), fun hne => absurd hs hne⟩
  · rw [State.unit_modSes]
    exact fun _ => id
  · exact fun _ => ⟨rfl, fun _ => rfl⟩

theorem keeps_accrueLine (s : State) (n : LineNo) (band : Fin 4) : Keeps s (State.accrueLine band s n) := by
  unfold State.accrueLine
  split
  next hs =>
    unfold State.billLine
    have hc := (shift_accrueSecond hs band).keeps.slight ((Slight.refl n _).chargeUnits (s.unitsDue n band))
    exact Keeps.ite (fun _ => hc.clearRequest n _) fun _ => hc
  · exact (Keeps.refl s).ses (.same rfl rfl)
  · exact .refl s

/-! ### Time -/

theorem isRunning_tick (x : Timer) : x.tick.isRunning = x.isRunning := by
  cases x with
  | stopped => rfl
  | running k => cases k <;> rfl

theorem alike_tickTimers (r : Session) : Alike r r.tickTimers := .of rfl (fun _ => isRunning_tick _) id

theorem outputs_judgeRing (p : Params) (v : LineUnit) :
    (v.judgeRing p).ans = v.ans ∧ (v.judgeRing p).trdy = v.trdy := by
  unfold LineUnit.judgeRing
  split
  · exact ⟨rfl, rfl⟩
  · split <;> exact ⟨rfl, rfl⟩

theorem keeps_lineMs (s : State) (n : LineNo) : Keeps s (s.lineMs n) :=
  keeps_modLine (alike_tickTimers _) (outputs_judgeRing _ _).1 (outputs_judgeRing _ _).2

theorem keeps_lineTick (s : State) (n : LineNo) (v : Levels) : Keeps s (s.lineTick n v) := by
  unfold State.lineTick
  exact keeps_modLine (by exact .same rfl rfl) rfl rfl

theorem keeps_millisecond (s : State) : Keeps s s.millisecond := by
  have hj : Keeps s (s.forLines State.lineMs) := (Keeps.refl s).forLines keeps_lineMs
  unfold State.millisecond
  generalize s.forLines State.lineMs = judged at hj ⊢
  have ha := hj.modHost (g := .a) (f := fun x => { x with silence := x.silence.tick }) id id
  have hb := ha.modHost (g := .b) (f := fun x => { x with silence := x.silence.tick }) id id
  exact hb.trans (keeps_elsewhere rfl rfl)

theorem keeps_sampled (s : State) (n : LineNo) (v : Levels) : Keeps s (s.modUnit n (LineUnit.sampled v)) :=
  (Keeps.refl s).unit rfl rfl

theorem keeps_advance (v : LineNo → Levels) (s : State) : Keeps s (s.advance v) := by
  have hc : Keeps s { s with ticks := s.ticks + 1 } := keeps_elsewhere rfl rfl
  have hs := hc.forLines fun u n => keeps_sampled u n (v n)
  have ht := hc.forLines fun u n => keeps_lineTick u n (v n)
  unfold State.advance
  dsimp only
  generalize ({ s with ticks := s.ticks + 1 } : State) = counted at hs ht ⊢
  generalize (counted.forLines fun t n => t.lineTick n (v n)) = ticked at ht ⊢
  split
  · exact hs
  split
  · have hm : Keeps s { ticked with msPhase := s.msPhase + tickPeriods - msPeriods } := ht.trans (keeps_elsewhere rfl rfl)
    exact hm.trans (keeps_millisecond _)
  · exact ht.trans (keeps_elsewhere rfl rfl)

/-! ### Reset -/

theorem ses_afterReset {l : Vector Line 16} (hs : s.lines = mapEach Line.afterReset l) (n : LineNo) :
    s.ses n = Session.reset := by
  simp [State.ses, State.line, hs, mapEach, Line.afterReset, Line.reset]

theorem unit_afterReset {l : Vector Line 16} (hs : s.lines = mapEach Line.afterReset l) (n : LineNo) :
    (s.unit n).ans = false ∧ (s.unit n).trdy = false := by
  simp [State.unit, State.line, hs, mapEach, Line.afterReset, Line.reset, LineUnit.reset]

theorem notices_inReset (p : LinkPort) : p.inReset.notices = [] := by
  unfold LinkPort.inReset
  split <;> rfl

/-- What device reset leaves is lawful (R1, R5). -/
theorem lawful_of_reset (hses : ∀ n, t.ses n = Session.reset)
    (hunit : ∀ n, (t.unit n).ans = false ∧ (t.unit n).trdy = false) (hacc : t.accounts = []) (hrec : t.records = [])
    (hser : t.serial = 0) (hres : t.reservations = 0) (hclock : t.clock.minute = 0 ∧ t.clock.second = 0)
    (hnotices : ∀ k, (t.port k).notices = []) : lawful t := by
  refine ⟨fun n => ?_, fun n => ?_, fun n hn => ?_, by simp [tableLaw, hacc], by simp [balanceLaw, hacc],
    ⟨by simp [hacc], fun n hn => ?_⟩, fun n => ?_, ⟨by rw [hrec]; trivial, by omega⟩, ⟨?_, by rw [hrec, hres]; decide⟩,
    ⟨fun h => by simp [hnotices], ?_⟩, fun n => ?_, by unfold clockLaw; omega⟩
  · rw [hses]; exact ⟨by simp [Session.reset], fun _ => rfl, by decide, by decide, by decide⟩
  · rw [hses]; simp [offerSound, Session.reset]
  · rw [hses] at hn; cases hn
  · rw [hses] at hn; cases hn
  · rw [hses]; exact ⟨by decide, fun _ _ => rfl⟩
  · rw [hres, State.countLines_eq_zero]
    intro n
    show (t.ses n).state.hasSession = false
    rw [hses]; rfl
  · have := hnotices .acct
    simp only [State.port] at this
    rw [this]; exact Nat.zero_le _
  · obtain ⟨ha, ht⟩ := hunit n
    rw [ha, ht, hses]
    exact ⟨rfl, rfl⟩

/-- What is lawful keeps the laws whatever stood before it. -/
theorem keeps_of_lawful (h : lawful t) (hses : ∀ n, t.ses n = Session.reset) : Keeps s t := by
  obtain ⟨hfifos, hoffer, -, htable, hbalance, hactive, hfraction, hrecords, hres, hnotices, hout, hclock⟩ := h
  exact {
    core := {
      shape := fun _ => ((offerLaw_iff t).1 hoffer).1
      fifos := fun _ _ => hfifos
      table := fun _ => htable
      balance := fun _ => hbalance
      active := fun _ _ _ => hactive
      fraction := fun _ _ => hfraction
      clock := fun _ => hclock
      records := fun _ => hrecords
      reservations := fun _ _ => hres
      notices := fun _ => hnotices
      outputs := fun _ _ => hout }
    offers := fun ex _ n o ho => by rw [hses] at ho; cases ho
    owners := fun ex _ n hn => by rw [hses] at hn; cases hn }

theorem keeps_deviceReset (h : execDeviceReset s = .next t) : Keeps s t := by
  cases h
  exact keeps_of_lawful (lawful_of_reset (ses_afterReset rfl) (unit_afterReset rfl) rfl rfl rfl rfl ⟨rfl, rfl⟩ fun k => by
    cases k <;> exact notices_inReset _) (ses_afterReset rfl)

end Sys2Proof.Keeping
end

section
/-! PROOFS. Every command and every step keeps the laws; the laws of the part. -/

namespace Sys2Proof.Keeping


open Sys2Proof.Machine

variable {s t u : State}

/-- A result whose state, where there is one, keeps the laws. -/
def KeptBy (s : State) (r : Result) : Prop := ∀ t, r = .next t → Keeps s t

theorem KeptBy.next (h : Keeps s t) : KeptBy s (.next t) := by
  intro u hu
  cases hu
  exact h

/-! ### Frames and link orders -/

theorem kept_resetEnd (s : State) : KeptBy s (execResetEnd s) := by
  refine .next (Keeps.ite (fun _ => ?_) fun _ => .refl s)
  have h : Keeps s { s with inReset := false, msPhase := 0, clock := { s.clock with phase := 0 } } := keeps_elsewhere rfl rfl
  exact ((h.modPort (k := .hostA) le_rfl).modPort (k := .hostB) le_rfl).modPort (k := .acct) le_rfl

theorem kept_status (s : State) (k : Link) : KeptBy s (execStatus k s) :=
  .next ((Keeps.refl s).takeOrder fun u _ => by dsimp only; exact (Keeps.refl u).modPort le_rfl)

theorem kept_noticeFetch (s : State) (k : Link) : KeptBy s (execNoticeFetch k s) := by
  refine .next ((Keeps.refl s).takeOrder fun u _ => ?_)
  split
  · exact .refl u
  next m rest hm =>
    dsimp only
    exact (Keeps.refl u).modPort (by rw [hm]; exact Nat.le_succ _)

theorem kept_noticeMask (s : State) (k : Link) (mask : Byte) : KeptBy s (execNoticeMask k mask s) :=
  .next ((Keeps.refl s).takeOrder fun u _ => by dsimp only; exact (Keeps.refl u).modPort le_rfl)

theorem kept_lineRead (s : State) (k : Link) (line group : Byte) : KeptBy s (execLineRead k line group s) :=
  .next ((Keeps.refl s).takeOrder fun u _ => Keeps.onLine fun _ => by split <;> exact .refl u)

theorem Keeps.setCursor (h : Keeps s t) (k : Link) (c : Option Nat) : Keeps s (t.setCursor k c) := h.modPort le_rfl

theorem kept_accountSelect (s : State) (k : Link) (number : Word32) : KeptBy s (execAccountSelect k number s) := by
  refine .next ((Keeps.refl s).takeOrder fun u _ => ?_)
  split
  · exact .refl u
  split
  · exact (Keeps.refl u).setCursor k _
  · exact (Keeps.refl u).setCursor k _

theorem kept_accountRead (s : State) (k : Link) (field : Byte) : KeptBy s (execAccountRead k field s) := by
  refine .next ((Keeps.refl s).takeOrder fun u _ => ?_)
  split
  · exact .refl u
  · exact Keeps.onCursor fun e _ => by split <;> exact .refl u

theorem kept_accountNext (s : State) (k : Link) : KeptBy s (execAccountNext k s) := by
  refine .next ((Keeps.refl s).takeOrder fun u _ => ?_)
  split
  · exact (Keeps.refl u).setCursor k _
  · exact (Keeps.refl u).setCursor k _

/-! ### Account orders -/

theorem kept_accountCreate (s : State) (k : Link) (number : Word32) : KeptBy s (execAccountCreate k number s) := by
  refine .next ((Keeps.refl s).acctOrder fun u => ?_)
  split
  · exact .refl u
  next hmax =>
    split
    · exact .refl u
    next hnone =>
      split
      · exact .refl u
      next hroom =>
        have hn : number.toNat ≤ 999999 := Nat.not_lt.1 hmax
        exact (keeps_insert hn (by simpa using hnone) (by omega)).setCursor .acct _

theorem kept_accountSet (s : State) (k : Link) (field : Byte) (value : Word32) :
    KeptBy s (execAccountSet k field value s) := by
  refine .next ((Keeps.refl s).acctOrder fun u => ?_)
  split
  · exact .refl u
  · refine Keeps.onCursor fun e he => ?_
    split
    next e' c hw =>
      obtain ⟨hnum, hact, hbal, hlim⟩ := withField_sound hw
      obtain ⟨hmem, -⟩ := account?_eq_some he
      have hwritten : Keeps u (u.modAccount e.number fun _ => e') := by
        refine keeps_modAccount (fun _ _ => hnum) (fun hl _ _ _ => hbal (hl e hmem)) fun ht x hx hxe h1 h2 => ?_
        obtain rfl := tableLaw_unique ht hx hmem hxe
        exact ⟨hact, hlim h1 h2⟩
      exact Keeps.ite (fun _ => hwritten.judgeBalance _) fun _ => hwritten
    · exact .refl u

theorem kept_accountCredit (s : State) (k : Link) (amount : Word32) : KeptBy s (execAccountCredit k amount s) :=
  .next ((Keeps.refl s).acctOrder fun u => Keeps.onCursor fun e _ => by
    have hadded : Keeps u (u.modAccount e.number fun e =>
        { e with balance := min (e.balance + amount.toNat) maxUnits }) :=
      keeps_modAccount (fun _ hx => hx) (fun _ _ _ _ => Nat.min_le_right _ _) fun _ _ _ _ h1 h2 => ⟨rfl, h1, h2⟩
    exact hadded.judgeBalance _)

theorem kept_accountRemove (s : State) (k : Link) : KeptBy s (execAccountRemove k s) := by
  refine .next ((Keeps.refl s).acctOrder fun u => Keeps.onCursor fun e he => ?_)
  split
  · exact .refl u
  next hzero =>
    dsimp only
    exact (((keeps_filter he (by omega)).modPort (k := .hostA) le_rfl).modPort (k := .hostB) le_rfl).modPort
      (k := .acct) le_rfl

/-! ### Host orders -/

theorem kept_receive (s : State) (k : Link) (line : Byte) : KeptBy s (execReceive k line s) :=
  .next ((Keeps.refl s).hostOrder fun g u _ => Keeps.onLine fun n => by
    split
    · exact (Keeps.refl u).receiveLine n
    · exact .refl u)

theorem kept_send (s : State) (k : Link) (line count c1 c2 c3 : Byte) : KeptBy s (execSend k line count c1 c2 c3 s) :=
  .next ((Keeps.refl s).hostOrder fun g u _ => Keeps.onLine fun n => by
    split
    · exact .refl u
    split
    next ho => exact (slight_sendLine ((ownedBy_iff _ _).1 ho).1 _).keeps
    · exact .refl u)

theorem kept_release (s : State) (k : Link) (line : Byte) : KeptBy s (execRelease k line s) :=
  .next ((Keeps.refl s).hostOrder fun g u _ => Keeps.onLine fun n => by
    split
    · exact (Keeps.refl u).clearRequest n _
    · exact .refl u)

theorem kept_detach (s : State) (k : Link) : KeptBy s (execDetach k s) :=
  .next ((Keeps.refl s).hostOrder fun g u _ => by dsimp only; exact (Keeps.refl u).linkDown g)

theorem kept_answer (s : State) (k : Link) (line toggle verdict : Byte) :
    KeptBy s (execAnswer k line toggle verdict s) :=
  .next ((Keeps.refl s).hostOrder fun _ u hup => Keeps.onLine fun n => (Keeps.refl u).answerLine hup n toggle verdict)

/-! ### Orders of the stations -/

theorem kept_chargeRead (s : State) (k : Link) (field : Byte) : KeptBy s (execChargeRead k field s) := by
  refine .next ((Keeps.refl s).acctOrder fun u => ?_)
  split
  · exact .refl u
  split
  · exact .refl u
  · split <;> exact .refl u

theorem serialsRun_tail {next : Nat} {r : ChargeRecord} {rest : List ChargeRecord} (h : serialsRun next (r :: rest)) :
    serialsRun next rest := by
  cases rest with
  | nil => trivial
  | cons r' rest => exact h.2

theorem kept_chargeTake (s : State) (k : Link) : KeptBy s (execChargeTake k s) := by
  refine .next ((Keeps.refl s).acctOrder fun u => ?_)
  split
  · exact .refl u
  next r rest hr =>
    exact keeps_elsewhere_of rfl (by exact id) (fun h => by rw [hr] at h; exact serialsRun_tail h)
      (by rw [hr]; exact Nat.le_succ _)

theorem kept_clockSet (s : State) (k : Link) (minute : BitVec 16) (second : Byte) :
    KeptBy s (execClockSet k minute second s) := by
  refine .next ((Keeps.refl s).acctOrder fun u => ?_)
  split
  · exact .refl u
  next hr => exact keeps_elsewhere_of rfl (fun _ => by dsimp only; omega) (by exact id) le_rfl

theorem keeps_modTariff (s : State) (f : Tariff → Tariff) : Keeps s (s.modTariff f) := keeps_elsewhere rfl rfl

theorem kept_tariffSet (s : State) (k : Link) (sel : Byte) (rate : Word32) : KeptBy s (execTariffSet k sel rate s) := by
  refine .next ((Keeps.refl s).acctOrder fun u => ?_)
  split
  · exact .refl u
  · dsimp only
    exact keeps_modTariff u _

theorem kept_bandSet (s : State) (k : Link) (hour : Byte) (band : Word32) : KeptBy s (execBandSet k hour band s) := by
  refine .next ((Keeps.refl s).acctOrder fun u => ?_)
  split
  · exact .refl u
  · dsimp only
    exact keeps_modTariff u _

theorem kept_classSet (s : State) (k : Link) (sel : Byte) (value : Word32) : KeptBy s (execClassSet k sel value s) := by
  refine .next ((Keeps.refl s).acctOrder fun u => ?_)
  split
  · split
    · dsimp only
      exact keeps_modTariff u _
    · exact .refl u
  · exact .refl u

theorem kept_messageWrite (s : State) (k : Link) (slot start c1 c2 c3 : Byte) :
    KeptBy s (execMessageWrite k slot start c1 c2 c3 s) := by
  refine .next ((Keeps.refl s).acctOrder fun u => ?_)
  split
  · split
    · exact .refl u
    · exact keeps_elsewhere rfl rfl
  · exact .refl u

theorem kept_paramSet (s : State) (k : Link) (code : Byte) (value : Word32) : KeptBy s (execParamSet k code value s) := by
  refine .next ((Keeps.refl s).acctOrder fun u => ?_)
  split
  · exact keeps_elsewhere rfl rfl
  · exact .refl u

/-! ### Supervision -/

theorem kept_lineClass (s : State) (k : Link) (line : Byte) (cls : Word32) : KeptBy s (execLineClass k line cls s) :=
  .next ((Keeps.refl s).acctOrder fun u => Keeps.onLine fun n => by
    split
    · exact .refl u
    · dsimp only
      exact (Keeps.refl u).slight (.sup_of _))

theorem keeps_zeroStatistic (s : State) (n : LineNo) (field : Nat) :
    Keeps s (s.modUnit n fun u => State.zeroStatistic u field) := by
  refine (Keeps.refl s).unit ?_ ?_ <;> unfold State.zeroStatistic <;> split <;> rfl

theorem kept_lineStats (s : State) (k : Link) (line field : Byte) : KeptBy s (execLineStats k line field s) :=
  .next ((Keeps.refl s).acctOrder fun u => Keeps.onLine fun n => by
    split
    · exact keeps_zeroStatistic u n _
    · exact .refl u)

theorem kept_faultNext (s : State) (k : Link) : KeptBy s (execFaultNext k s) :=
  .next ((Keeps.refl s).acctOrder fun u => by split <;> exact .refl u)

theorem kept_serviceOpen (s : State) (k : Link) (sel : Byte) : KeptBy s (execServiceOpen k sel s) :=
  .next ((Keeps.refl s).acctOrder fun u => by
    split
    · exact (Keeps.refl u).openService
    · exact .refl u)

/-! ### Timers -/

theorem kept_offerTimerExpiry (s : State) (n : LineNo) : KeptBy s (execOfferTimerExpiry n s) := by
  refine .next ?_
  split
  next o ho =>
    exact Keeps.ite (fun _ => ((Keeps.refl s).postNotice _ _).declineOffer (by simpa using ho)) fun _ => .refl s
  · exact .refl s

theorem kept_idleTimerExpiry (s : State) (n : LineNo) : KeptBy s (execIdleTimerExpiry n s) :=
  .next (Keeps.ite (fun _ => ((Keeps.refl s).ses (.same rfl rfl)).clearRequest n _) fun _ => .refl s)

theorem kept_graceTimerExpiry (s : State) (n : LineNo) : KeptBy s (execGraceTimerExpiry n s) :=
  .next (Keeps.ite (fun _ => ((Keeps.refl s).ses (.same rfl rfl)).clearRequest n _) fun _ => .refl s)

theorem state_of_timing {n : LineNo} {st : LineState} (h : s.timing n st = true) :
    (s.ses n).state = st ∧ (s.ses n).stateTimer.isRunning = true := by
  simpa [State.timing] using h

theorem state_of_draining {r : Session} (h : r.draining = true) : r.state = .clearing := by
  simp only [Session.draining, Bool.and_eq_true, beq_iff_eq] at h
  exact h.1

theorem kept_drainComplete (s : State) (n : LineNo) : KeptBy s (execDrainComplete n s) :=
  .next (Keeps.ite (fun hd => (Keeps.refl s).hangUp (state_of_draining hd.1)) fun _ => .refl s)

theorem kept_drainLimitExpiry (s : State) (n : LineNo) : KeptBy s (execDrainLimitExpiry n s) :=
  .next (Keeps.ite (fun hd => ((Keeps.refl s).emptyOut n).hangUp (by
    simpa [State.emptyOut] using state_of_draining hd.1)) fun _ => .refl s)

theorem kept_guardTimerExpiry (s : State) (n : LineNo) : KeptBy s (execGuardTimerExpiry n s) := by
  refine .next (Keeps.ite (fun ⟨ht, hp⟩ => ?_) fun _ => .refl s)
  obtain ⟨hs, -⟩ := state_of_timing ht
  refine (Keeps.refl s).guardEnd (by rw [hs]; rfl) fun ho => ?_
  rw [ho.1]
  simp [Session.draining, hs, hp, LineState.active]

theorem kept_settleTimerExpiry (s : State) (n : LineNo) (mrdy : Bool) : KeptBy s (execSettleTimerExpiry n mrdy s) := by
  refine .next (Keeps.ite (fun ht => ?_) fun _ => .refl s)
  obtain ⟨hs, -⟩ := state_of_timing ht
  have hj : Keeps s (s.modUnit n fun u => { u with mrdy := mrdy, mrdySeen := mrdy }) := (Keeps.refl s).unit rfl rfl
  refine Keeps.ite (fun _ => ?_) fun _ => ?_
  · have hw : Keeps s ((s.modUnit n fun u => { u with mrdy := mrdy, mrdySeen := mrdy }).modUnit n fun u =>
        { u with modem := .watching 0 }) := hj.unit rfl rfl
    refine hw.trans (shift_idleEntry (by simp [hs, LineState.hasSession]) fun ho => ?_).keeps
    rw [ho.1]
    simp [Session.draining, hs, LineState.active]
  · exact (hj.trans (shift_settle (g := .stopped) (by simp [hs]) rfl).keeps).raiseFault n _

theorem kept_modemLost (s : State) (n : LineNo) : KeptBy s (execModemLost n s) := by
  refine .next ?_
  split
  · exact (Keeps.raiseFault (Keeps.unit (n := n) (Keeps.refl s) rfl rfl) n _).loseModem n
  · exact .refl s

/-! ### Ringing -/

theorem keeps_rng (s : State) (n : LineNo) (b : Bool) :
    Keeps s (s.modUnit n fun u => { u with rng := b, rngSeen := b }) := (Keeps.refl s).unit rfl rfl

theorem kept_rngAsserted (s : State) (n : LineNo) : KeptBy s (execRngAsserted n s) :=
  .next (Keeps.ite (fun _ => Keeps.ite (fun _ => ((keeps_rng s n true).modRing _).judgeFalse n _)
    fun _ => (keeps_rng s n true).modRing _) fun _ => keeps_rng s n true)

theorem kept_rngDeasserted (s : State) (n : LineNo) : KeptBy s (execRngDeasserted n s) :=
  .next (Keeps.ite (fun _ => Keeps.ite (fun _ => ((keeps_rng s n false).modRing _).ringingToIdle n)
    fun _ => (keeps_rng s n false).modRing _) fun _ => keeps_rng s n false)

theorem kept_burstStart (s : State) (n : LineNo) (gap : Nat) : KeptBy s (execBurstStart n gap s) := by
  refine .next (Keeps.ite (fun _ => ?_) fun _ => .refl s)
  have hstarted : Keeps s (s.modRing n (Ring.startBurst s.params)) := (Keeps.refl s).modRing _
  refine Keeps.judgeFalse (Keeps.ite (fun hs => ?_) fun _ => hstarted) n _
  exact hstarted.ses (.of rfl (fun ho => by simp [State.modRing, hs] at ho) id)

theorem kept_burstEnd (s : State) (n : LineNo) (onTime : Nat) : KeptBy s (execBurstEnd n onTime s) := by
  refine .next (Keeps.ite (fun hr => ?_) fun _ => .refl s)
  have hs := state_of_ringRuns (ringRuns_of_ringIn hr)
  have hm : Keeps s (s.modRing n fun _ => Ring.rearmed ringRelease) := (Keeps.refl s).modRing _
  exact (hm.countRing (by simpa [State.modRing] using hs) onTime).judgeRings (by simp [State.countRing])

theorem kept_falseRing (s : State) (n : LineNo) : KeptBy s (execFalseRing n s) :=
  .next (Keeps.ite (fun _ => (Keeps.refl s).falseBurst n) fun _ => .refl s)

theorem kept_rearmComplete (s : State) (n : LineNo) (onTime : Nat) : KeptBy s (execRearmComplete n onTime s) := by
  have hm : Keeps s (s.modRing n fun _ => Ring.rearmed 0) := (Keeps.refl s).modRing _
  exact .next (Keeps.ite (fun _ => Keeps.ite (fun _ => hm.ses (.same rfl rfl)) fun _ => hm) fun _ => .refl s)

theorem kept_gapTimerExpiry (s : State) (n : LineNo) : KeptBy s (execGapTimerExpiry n s) := by
  refine .next (Keeps.ite (fun ⟨hs, _⟩ => ?_) fun _ => .refl s)
  have hstop : Keeps s (s.modSes n fun r => { r with stateTimer := .stopped }) :=
    (Keeps.refl s).ses (.of rfl (fun ho => by rw [hs] at ho; cases ho) id)
  dsimp only
  split
  · exact hstop.ringingToIdle n
  · exact hstop.modRing _
  · exact hstop

/-! ### Carrier and speed -/

theorem kept_carrierQualified (s : State) (n : LineNo) : KeptBy s (execCarrierQualified n s) := by
  refine .next ?_
  split
  next hs _ =>
    have hh : Keeps s (s.modUnit n fun u => { u with car := true, carrier := .watching 0 false false }) :=
      (Keeps.refl s).unit rfl rfl
    have hno : (s.ses n).state.hasSession = false := by rw [hs]; rfl
    have hunt : Shift n (s.modUnit n fun u => { u with car := true, carrier := .watching 0 false false })
        (((s.modUnit n fun u => { u with car := true, carrier := .watching 0 false false }).modSes n fun r =>
          { r with state := .speedHunt })) := by
      refine shift_quiet ((Still.refl n _).ses _) (by simpa using hno) ?_ fun ho => ?_
      · rw [State.ses_modSes_self, State.ses_modUnit]
        exact ⟨rfl, .inr rfl, .inr rfl, fifosSound_of_state hno rfl rfl rfl fun _ => by rw [hs]; rfl⟩
      · rw [State.ses_modSes_self, State.unit_modSes]
        unfold outputSound at ho ⊢
        simpa [hs, LineState.active] using ho
    have hwait := (hh.trans hunt.keeps).ses (n := n) (f := fun r =>
      { r with stateTimer := .running (s.params.speedWait * 1000) }) (.of rfl (fun ho => by simp at ho) id)
    exact hwait.unit rfl rfl
  · exact .refl s

theorem kept_carrierLimitExpiry (s : State) (n : LineNo) : KeptBy s (execCarrierLimitExpiry n s) :=
  .next (Keeps.ite (fun _ => ((Keeps.refl s).raiseFault n _).clearRequest n _) fun _ => .refl s)

theorem kept_carrierLost (s : State) (n : LineNo) : KeptBy s (execCarrierLost n s) := by
  refine .next ?_
  split
  · have hh : Keeps s (s.modUnit n fun u => { u with car := false, carrier := .watching 0 false true }) :=
      (Keeps.refl s).unit rfl rfl
    exact Keeps.ite (fun _ => hh.slight (Slight.refl n _).emptyFeed) fun _ => hh.clearRequest n _
  · exact .refl s

theorem kept_speedDetectorArm (s : State) (n : LineNo) : KeptBy s (execSpeedDetectorArm n s) := by
  refine .next ?_
  split
  · exact (Keeps.refl s).unit rfl rfl
  · exact (Keeps.refl s).unit rfl rfl
  · exact .refl s

theorem kept_autobaudStartBit (s : State) (n : LineNo) : KeptBy s (execAutobaudStartBit n s) := by
  refine .next (Keeps.ite (fun ha => ?_) fun _ => .refl s)
  have hs := state_of_attempt ha (by simp)
  have hh : Keeps s (s.modUnit n fun u => { u with rxd := false, speed := .measuring 1 }) := (Keeps.refl s).unit rfl rfl
  exact hh.ses (.of rfl (fun ho => by simp [hs] at ho) id)

theorem kept_wFinal (s : State) (n : LineNo) (w : Nat) : KeptBy s (execWFinal n w s) := by
  refine .next ?_
  split
  next v ha =>
    have hs := state_of_attempt ha (by simp)
    have hh : Keeps s (s.modUnit n fun u => { u with rxd := decide (w < 255) }) := (Keeps.refl s).unit rfl rfl
    have hst : ((s.modUnit n fun u => { u with rxd := decide (w < 255) }).ses n).state = .speedHunt := by simpa using hs
    dsimp only
    split
    · exact Keeps.ite (fun _ => hh.unit rfl rfl) fun _ => hh.failAttempt hst
    · exact hh.failAttempt hst
  · exact .refl s

theorem kept_autobaudStopBit (s : State) (n : LineNo) (bits : Byte) (stop : Bool) :
    KeptBy s (execAutobaudStopBit n bits stop s) := by
  refine .next ?_
  split
  next r _ _ _ ha =>
    have hs := state_of_attempt ha (by simp)
    have hh : Keeps s ((s.modUnit n fun u => { u with rxd := stop }).reportTraffic n) :=
      (Keeps.refl s).slight ((Slight.unit_of rfl rfl).reportTraffic)
    have hst : (((s.modUnit n fun u => { u with rxd := stop }).reportTraffic n).ses n).state = .speedHunt := by
      simpa [State.reportTraffic] using hs
    exact Keeps.ite (fun _ => hh.attemptSucceeds hst r) fun _ => hh.failAttempt hst
  · exact .refl s

theorem kept_speedWaitExpiry (s : State) (n : LineNo) : KeptBy s (execSpeedWaitExpiry n s) :=
  .next (Keeps.ite (fun h => (Keeps.refl s).failAttempt h.1) fun _ => .refl s)

/-! ### Characters -/

theorem kept_startBitSample (s : State) (n : LineNo) (mark : Bool) : KeptBy s (execStartBitSample n mark s) := by
  refine .next ?_
  split
  · exact (Keeps.refl s).unit rfl rfl
  · exact (Keeps.refl s).unit rfl rfl
  · exact .refl s

theorem Keeps.countCharError (h : Keeps s t) (n : LineNo) : Keeps s (t.countCharError n) :=
  Keeps.ite (fun _ => h.unit rfl rfl) fun _ => h

theorem kept_characterReceived (s : State) (n : LineNo) (bits : Byte) (stop : Bool) :
    KeptBy s (execCharacterReceived n bits stop s) := by
  refine .next ?_
  split
  · have hlit : Keeps s ((s.modUnit n fun u =>
        { u with rxd := stop, receiver := if stop then .hunting else .waitingForMark }).reportTraffic n) :=
      (Keeps.refl s).slight ((Slight.unit_of rfl rfl).reportTraffic)
    exact Keeps.ite (fun _ => hlit.deliver n _) fun _ => hlit.countCharError n
  · exact .refl s

theorem kept_returnToHunting (s : State) (n : LineNo) : KeptBy s (execReturnToHunting n s) :=
  .next (Keeps.ite (fun _ => (Keeps.refl s).unit rfl rfl) fun _ => .refl s)

theorem kept_transmitCharacterDone (s : State) (n : LineNo) : KeptBy s (execTransmitCharacterDone n s) := by
  refine .next ?_
  split
  · exact (Keeps.refl s).slight (((Slight.unit_of rfl rfl).reportTraffic).takeNext)
  · exact .refl s

/-! ### The second boundary -/

theorem kept_secondBoundary (s : State) : KeptBy s (execSecondBoundary s) := by
  refine .next (Keeps.ite (fun _ => .refl s) fun _ => ?_)
  have ha : Keeps s { s with clock := s.clock.advance } := keeps_elsewhere_of rfl clockLaw_advance (by exact id) le_rfl
  exact (ha.forLines fun u n => keeps_accrueLine u n _).trans (keeps_modTariff _ Tariff.install)

/-! ### Every command, every step -/

theorem kept_answered (s : State) (k : Link) (r : Reply) :
    KeptBy s (.next (s.takeOrder k fun t => t.answered r)) := .next ((Keeps.refl s).takeOrder fun u _ => .refl u)

/-- An order of the accounting link on one line. -/
theorem kept_acctLine (s : State) (k : Link) {line : Byte} {act : State → LineNo → State × Reply}
    (ha : ∀ u n, Keeps u (act u n).1) : KeptBy s (.next (s.acctOrder k fun t => t.onLine line fun n => act t n)) :=
  .next ((Keeps.refl s).acctOrder fun u => Keeps.onLine fun n => ha u n)

theorem kept_supervised (s : State) (k : Link) (line : Byte) (f : Supervised → Supervised) (r : Reply) :
    KeptBy s (.next (s.acctOrder k fun t => t.onLine line fun n => (t.modSup n f, r))) :=
  kept_acctLine s k fun u n => by dsimp only; exact (Slight.sup_of f).keeps

/-- Every command keeps the laws. -/
theorem kept_exec (i : Instr) (s : State) : KeptBy s (exec i s) := by
  cases i with
  | deviceReset => exact fun _ ht => keeps_deviceReset ht
  | exchangeStart k => exact .next ((Keeps.refl s).beginExchange k)
  | checkFail k => exact .next ((Keeps.refl s).takeFrame fun u => (Keeps.refl u).setReply k _)
  | shortFrame k => exact .next (((Keeps.refl s).inExchange k).endExchange k)
  | ignoredFrame k => exact .next ((Keeps.refl s).modPort le_rfl)
  | orderUnknown k code => exact kept_answered s k _
  | nop k => exact kept_answered s k _
  | status k => exact kept_status s k
  | noticeFetch k => exact kept_noticeFetch s k
  | noticeMask k mask => exact kept_noticeMask s k mask
  | lineRead k line group => exact kept_lineRead s k line group
  | clockRead k => exact .next ((Keeps.refl s).takeOrder fun u _ => .refl u)
  | accountSelect k number => exact kept_accountSelect s k number
  | accountRead k field => exact kept_accountRead s k field
  | accountNext k => exact kept_accountNext s k
  | answer k line toggle verdict => exact kept_answer s k line toggle verdict
  | rxScan k => exact .next ((Keeps.refl s).hostOrder fun _ u _ => .refl u)
  | receive k line => exact kept_receive s k line
  | send k line count c1 c2 c3 => exact kept_send s k line count c1 c2 c3
  | release k line => exact kept_release s k line
  | detach k => exact kept_detach s k
  | accountCreate k number => exact kept_accountCreate s k number
  | accountSet k field value => exact kept_accountSet s k field value
  | accountCredit k amount => exact kept_accountCredit s k amount
  | accountRemove k => exact kept_accountRemove s k
  | chargeRead k field => exact kept_chargeRead s k field
  | chargeTake k => exact kept_chargeTake s k
  | clockSet k minute second => exact kept_clockSet s k minute second
  | tariffSet k sel rate => exact kept_tariffSet s k sel rate
  | bandSet k hour band => exact kept_bandSet s k hour band
  | classSet k sel value => exact kept_classSet s k sel value
  | messageWrite k slot start c1 c2 c3 => exact kept_messageWrite s k slot start c1 c2 c3
  | paramSet k code value => exact kept_paramSet s k code value
  | lineEnable k line => exact kept_acctLine s k fun u n => (Keeps.refl u).enableLine n
  | lineDisable k line => exact kept_acctLine s k fun u n => (Keeps.refl u).disableLine n
  | lineClear k line => exact kept_acctLine s k fun u n => (Keeps.refl u).clearLine n
  | lineClass k line cls => exact kept_lineClass s k line cls
  | lineStats k line field => exact kept_lineStats s k line field
  | faultNext k => exact kept_faultNext s k
  | faultClear k line bits => exact kept_supervised s k line _ _
  | faultMask k line bits => exact kept_supervised s k line _ _
  | serviceOpen k sel => exact kept_serviceOpen s k sel
  | serviceDrain k => exact .next ((Keeps.refl s).acctOrder (order := State.drainService) fun u => (Keeps.refl u).drainService)
  | serviceClose k => exact .next ((Keeps.refl s).acctOrder (order := fun t => (t.closeService, replyOf .ok)) fun u => (Keeps.refl u).closeService)
  | silenceTimerExpiry h => exact .next (Keeps.ite (fun _ => (Keeps.refl s).linkDown h) fun _ => .refl s)
  | offerTimerExpiry n => exact kept_offerTimerExpiry s n
  | holdTimerExpiry n => exact .next (Keeps.ite (fun _ => (Keeps.refl s).clearRequest n _) fun _ => .refl s)
  | rngAsserted n => exact kept_rngAsserted s n
  | rngDeasserted n => exact kept_rngDeasserted s n
  | burstStart n gap => exact kept_burstStart s n gap
  | burstEnd n onTime => exact kept_burstEnd s n onTime
  | falseRing n => exact kept_falseRing s n
  | rearmComplete n onTime => exact kept_rearmComplete s n onTime
  | gapTimerExpiry n => exact kept_gapTimerExpiry s n
  | carrierQualified n => exact kept_carrierQualified s n
  | carrierLimitExpiry n => exact kept_carrierLimitExpiry s n
  | carrierLost n => exact kept_carrierLost s n
  | speedDetectorArm n => exact kept_speedDetectorArm s n
  | autobaudStartBit n => exact kept_autobaudStartBit s n
  | wFinal n w => exact kept_wFinal s n w
  | autobaudStopBit n bits stop => exact kept_autobaudStopBit s n bits stop
  | speedWaitExpiry n => exact kept_speedWaitExpiry s n
  | characterReceived n bits stop => exact kept_characterReceived s n bits stop
  | transmitCharacterDone n => exact kept_transmitCharacterDone s n
  | messageFeedStep n => exact .next ((Slight.refl n s).feedStep).keeps
  | idleTimerExpiry n => exact kept_idleTimerExpiry s n
  | signOnTimerExpiry n => exact .next (Keeps.ite (fun _ => (Keeps.refl s).clearRequest n _) fun _ => .refl s)
  | drainComplete n => exact kept_drainComplete s n
  | drainLimitExpiry n => exact kept_drainLimitExpiry s n
  | guardTimerExpiry n => exact kept_guardTimerExpiry s n
  | modemLost n => exact kept_modemLost s n
  | settleTimerExpiry n mrdy => exact kept_settleTimerExpiry s n mrdy
  | secondBoundary => exact kept_secondBoundary s
  | graceTimerExpiry n => exact kept_graceTimerExpiry s n
  | trafficTimerExpiry n => exact .next (Keeps.ite (fun _ => (Slight.sup_of _).keeps) fun _ => .refl s)
  | resetEnd => exact kept_resetEnd s
  | startBitSample n mark => exact kept_startBitSample s n mark
  | returnToHunting n => exact kept_returnToHunting s n

/-- Every step keeps the laws: it is a command, or time passes (log 2, log 4). -/
theorem keeps_step (h : step s = .next t) : Keeps s t := by
  unfold step at h
  split at h
  · unfold idle at h
    split at h
    · cases h; exact keeps_advance _ s
    · exact kept_exec _ s t h
    · have hp : Keeps s { s with picks := s.picks + 1 } := keeps_elsewhere rfl rfl
      exact hp.trans (kept_exec _ _ t h)
  next rest _ =>
    have hq : Keeps s { s with pending := rest } := keeps_elsewhere rfl rfl
    exact hq.trans (kept_exec _ _ t h)

theorem shaped_of_offerLaw (h : offerLaw s) : shaped s := ((offerLaw_iff s).1 h).1

/-! ### The laws -/

/-- Settles O5: a step keeps the shape of every offer, and that its target is UP, none being excused. -/
theorem offerLawKept : Obligations.OfferLawKept := by
  intro s t hl h
  obtain ⟨hs, ho⟩ := (offerLaw_iff s).1 hl
  exact (offerLaw_iff t).2 ⟨(keeps_step h).core.shape hs, (keeps_step h).offers _ ho⟩

/-- Settles O6: a step keeps that every owner is UP, none being excused. -/
theorem ownerLawKept : Obligations.OwnerLawKept := fun s t hl h =>
  (ownerLaw_iff t).2 ((keeps_step h).owners _ ((ownerLaw_iff s).1 hl))

/-- Settles O7: a line's FIFOs stay in their states and bounds over each change of its record. -/
theorem fifoLawKept : Obligations.FifoLawKept := fun _ _ ho hl h =>
  (keeps_step h).core.fifos (shaped_of_offerLaw ho) hl

/-- Settles O8: entries change in place, or one joins or leaves the ascending table. -/
theorem tableAndBalanceLawsKept : Obligations.TableAndBalanceLawsKept := fun _ _ ht hb h =>
  ⟨(keeps_step h).core.table ht, (keeps_step h).core.balance hb⟩

/-- Settles O9: a session joins or leaves its line together with its account's count. -/
theorem activeLawKept : Obligations.ActiveLawKept := fun _ _ ho ht hl h =>
  (keeps_step h).core.active (shaped_of_offerLaw ho) ht hl

/-- Settles O10: the fraction is kept below a unit as it accrues and goes with its session; the clock wraps. -/
theorem fractionAndClockLawsKept : Obligations.FractionAndClockLawsKept :=
  ⟨fun _ _ ho hl h => (keeps_step h).core.fraction (shaped_of_offerLaw ho) hl,
    fun _ _ hl h => (keeps_step h).core.clock hl⟩

/-- Settles O11: a record joins the queue with the counter's serial, which then goes on. -/
theorem recordLawKept : Obligations.RecordLawKept := fun _ _ hl h => (keeps_step h).core.records hl

/-- Settles O12: a session joins or leaves its line together with a reservation, whose place a record takes. -/
theorem reservationLawKept : Obligations.ReservationLawKept := fun _ _ ho hl h =>
  (keeps_step h).core.reservations (shaped_of_offerLaw ho) hl

/-- Settles O13: a notice is placed only where there is room, at a link that is not DOWN. -/
theorem noticeLawKept : Obligations.NoticeLawKept := fun _ _ hl h => (keeps_step h).core.notices hl

/-- Settles O14: the outputs change with the state of their line. -/
theorem outputLawKept : Obligations.OutputLawKept := fun _ _ ho hl h =>
  (keeps_step h).core.outputs (shaped_of_offerLaw ho) hl

end Sys2Proof.Keeping
end

section
/-! PROOFS. The step, what reset leaves, and the decoding of frames. -/

namespace Sys2Proof.StepAndFrames


open Sys2Proof.Machine

/-! ### The step -/

/-- Every command answers a next state: no arm faults or refuses. -/
theorem exec_next (c : Instr) (s : State) : ∃ t, exec c s = .next t := by
  cases c <;> exact ⟨_, rfl⟩

/-- Settles O1: the step's own cases, each command being answered. -/
theorem stepTakesFrontOrPassesTime : Obligations.StepTakesFrontOrPassesTime := by
  refine ⟨fun c rest s h => ?_, exec_next, fun s h hd => ?_, fun e s h hd => ?_⟩
  · simp [step, h]
  · simp [step, h, idle, hd]
  · simp [step, h, idle, hd]

/-! ### What reset leaves -/

theorem line_reset (n : LineNo) : State.reset.line n = Line.reset := by
  simp [State.line, State.reset]

theorem ses_reset (n : LineNo) : State.reset.ses n = Session.reset := by rw [State.ses, line_reset]; rfl
theorem unit_reset (n : LineNo) : State.reset.unit n = LineUnit.reset := by rw [State.unit, line_reset]; rfl
theorem sup_reset (n : LineNo) : State.reset.sup n = Supervised.reset := by rw [State.sup, line_reset]; rfl
theorem port_reset (k : Link) : State.reset.port k = LinkPort.reset := by cases k <;> rfl

theorem lawful_reset : lawful State.reset :=
  Keeping.lawful_of_reset ses_reset (fun n => by rw [unit_reset]; exact ⟨rfl, rfl⟩) rfl rfl rfl rfl ⟨rfl, rfl⟩
    fun k => by rw [port_reset]; rfl

/-- Settles O2: the reset state's fields, and the laws of a part that holds nothing. -/
theorem resetValues : Obligations.ResetValues := by
  refine ⟨fun n => ?_, fun n => ?_, fun k => ?_, fun h => ?_, rfl, rfl, rfl, rfl, rfl, rfl, rfl, fun i hi => ?_,
    fun i hi => ?_, fun i hi => ?_, fun i hi => ?_, rfl, lawful_reset⟩
  · rw [ses_reset]; rfl
  · rw [unit_reset, sup_reset]
    refine ⟨rfl, rfl, rfl, rfl, rfl, rfl, rfl, rfl, rfl, rfl, rfl, rfl, rfl, rfl, rfl, rfl, rfl, rfl, rfl, rfl, ?_, ?_⟩
    · simp [txd, unit_reset, LineUnit.reset]
    · show (State.reset.ses n).state.busy = false
      rw [ses_reset]; rfl
  · simp [attention, port_reset, LinkPort.reset]
  · cases h <;> rfl
  · simp [State.reset, Tariff.reset]
  · simp [State.reset, Tariff.reset]
  · simp [State.reset, Tariff.reset, PendingClass.empty, ClassSettings.reset]
  · simp [State.reset, Slot.reset]

/-! ### Decoding -/

/-- The four bytes of a 32-bit argument spell it. -/
theorem value_sealedValue (order sel : Byte) (v : Word32) : (Frame.sealedValue order sel v).value = v := by
  refine BitVec.eq_of_toNat_eq ?_
  simp only [Frame.sealedValue, Frame.sealed, Frame.value, append_toNat, BitVec.extractLsb'_toNat,
    Nat.shiftRight_eq_div_pow]
  omega

theorem halves_append (m : BitVec 16) : m.extractLsb' 8 8 ++ m.extractLsb' 0 8 = m := by
  refine BitVec.eq_of_toNat_eq ?_
  simp only [append_toNat, BitVec.extractLsb'_toNat, Nat.shiftRight_eq_div_pow]
  omega

/-- A code that is not of section 12.8.4 names no order. -/
theorem command_unlisted (k : Link) (f : Frame) (h : orderCodes.contains f.order.toNat = false) :
    f.command k = .orderUnknown k f.order := by
  unfold Frame.command
  split
  case h_37 => rfl
  all_goals
    next hc => rw [hc] at h; exact absurd h (by decide)

/-- The command of the frame that carries an order is that order. -/
theorem command_of_encode {i : Instr} {k : Link} {f : Frame} (hw : i.wellFormed = true)
    (h : Frame.encode i = some (k, f)) : f.command k = i := by
  cases i
  case orderUnknown j c =>
    obtain ⟨rfl, rfl⟩ : j = k ∧ Frame.sealed c 0 0 0 0 0 = f := by simpa [Frame.encode] using h
    exact command_unlisted j _ (by simpa [Instr.wellFormed, Frame.sealed] using hw)
  case serviceOpen j sel =>
    obtain ⟨rfl, rfl⟩ : j = k ∧ Frame.sealed 0x48 sel 0 0 0 0 = f := by simpa [Frame.encode] using h
    have hsel : sel ≠ 1 ∧ sel ≠ 2 := by
      constructor <;> rintro rfl <;> simp [Instr.wellFormed] at hw
    exact (if_neg hsel.1).trans (if_neg hsel.2)
  case clockSet j m c =>
    obtain ⟨rfl, rfl⟩ : j = k ∧ Frame.sealed 0x30 0 (m.extractLsb' 8 8) (m.extractLsb' 0 8) c 0 = f := by
      simpa [Frame.encode] using h
    simp [Frame.command, Frame.sealed, halves_append]
  case accountSelect | accountCreate | accountSet | accountCredit | tariffSet | bandSet | classSet | paramSet | lineClass =>
    simp only [Frame.encode, Option.some.injEq, Prod.mk.injEq] at h
    obtain ⟨rfl, rfl⟩ := h
    exact congrArg _ (value_sealedValue _ _ _)
  all_goals
    simp only [Frame.encode, Option.some.injEq, Prod.mk.injEq, reduceCtorEq] at h
  all_goals
    obtain ⟨rfl, rfl⟩ := h
    rfl

theorem checks_of_encode {i : Instr} {k : Link} {f : Frame} (h : Frame.encode i = some (k, f)) : f.checks = true := by
  cases i <;> simp only [Frame.encode, Option.some.injEq, Prod.mk.injEq, reduceCtorEq] at h
  all_goals
    obtain ⟨-, rfl⟩ := h
    exact Laws.sealed_checks ..

/-- Settles O3: the frame checks, and its bytes name the order and spell its operands. -/
theorem decodeOfEncode : Obligations.DecodeOfEncode := by
  intro i k f hw h
  have hc := checks_of_encode h
  refine ⟨?_, ?_⟩
  · simpa [Frame.checks, Frame.body] using hc
  · rw [Frame.decode, if_pos hc, command_of_encode hw h]

/-- Settles O4: each frame's sum and order code are evaluated. -/
theorem writtenFramesDecode : Obligations.WrittenFramesDecode := by
  intro k
  refine ⟨rfl, rfl, rfl, rfl, rfl, rfl, rfl, rfl⟩

end Sys2Proof.StepAndFrames
end

section
/-! PROOFS. Reset, the frames that carry no order, and the checks that every order meets first. -/

namespace Sys2Proof.Frames


open Sys2Proof.Machine

variable {s u : State} {k : Link} {h : Computer} {i : Instr} {f : Frame}

/-! ### Device reset and its end -/

theorem line_mapEach (s : State) {t : State} {g : Line → Line} (ht : t.lines = mapEach g s.lines) (n : LineNo) :
    t.line n = g (s.line n) := by
  simp [State.line, ht, mapEach]

theorem inReset_fields (p : LinkPort) :
    p.inReset.ready = false ∧ p.inReset.reply = ⟨.none, 0⟩ ∧ p.inReset.notices = [] ∧ p.inReset.mask = 0 ∧
      p.inReset.cursor = none ∧ p.inReset.lost = false ∧ (p.exchange = .none → p.inReset.exchange = .none) ∧
      (p.exchange ≠ .none → p.inReset.exchange = .ignored) := by
  unfold LinkPort.inReset
  split
  next he => exact ⟨rfl, rfl, rfl, rfl, rfl, rfl, fun _ => rfl, fun hne => absurd he hne⟩
  next he => exact ⟨rfl, rfl, rfl, rfl, rfl, rfl, fun hn => absurd hn he, fun _ => rfl⟩

theorem port_resetEnd_other (s : State) {p : Part} (hp : p ∉ [.port .hostA, .port .hostB, .port .acct, .reset, .clock, .time]) :
    p.same s { s with inReset := false, msPhase := 0, clock := { s.clock with phase := 0 } } := by
  cases p with
  | port k => cases k <;> exact absurd (by simp) hp
  | host h => cases h <;> rfl
  | reset | clock | time => exact absurd (by simp) hp
  | _ => rfl

/-- Settles O15: reset gives every part its reset value; its end asserts READY on the three ports. -/
theorem deviceResetAndItsEnd : Obligations.DeviceResetAndItsEnd := by
  refine ⟨fun s => ⟨_, rfl, rfl, fun n => ?_, fun k => ?_, fun h => ?_, rfl, rfl, rfl, rfl, rfl, rfl, rfl, rfl, rfl, rfl⟩,
    fun s hs => ?_, fun s hs => ?_⟩
  · have hline := line_mapEach s (t := { State.reset with
      lines := mapEach Line.afterReset s.lines, portA := s.portA.inReset, portB := s.portB.inReset,
      portAcct := s.portAcct.inReset, inReset := true, ticks := s.ticks, picks := s.picks, pending := s.pending }) rfl n
    exact ⟨congrArg Line.ses hline, congrArg Line.sup hline, congrArg Line.unit hline⟩
  · cases k <;> exact inReset_fields _
  · cases h <;> rfl
  · refine ⟨_, congrArg Host.Outcome.next (if_pos hs), rfl, fun k => ?_, rfl, fun p hp => ?_⟩
    · cases k <;> rfl
    · refine (unchangedBut.trans (unchangedBut.trans ?_ (unchangedBut_modPort _ _ ?_)) (unchangedBut_modPort _ _ ?_)).trans
        (unchangedBut_modPort _ _ ?_) p hp
      · exact fun q hq => port_resetEnd_other s hq
      all_goals simp
  · exact congrArg Host.Outcome.next (if_neg (by simp [hs]))

/-! ### The exchange -/

/-- The four data bytes of a reply spell its data. -/
theorem bytes_append (w : Word32) : byteAt w 2 ++ byteAt w 3 ++ byteAt w 4 ++ byteAt w 5 = w := by
  refine BitVec.eq_of_toNat_eq ?_
  simp only [byteAt, append_toNat, BitVec.extractLsb'_toNat, Nat.shiftRight_eq_div_pow]
  omega

theorem replyCode_number (c : ReplyCode) : c.code = BitVec.ofNat 8 (numberIn replyNumbers c) := by cases c <;> rfl

/-- Settles O16: the frame built is the status byte, the reply and their check byte. -/
theorem exchangeStartBuildsFrame : Obligations.ExchangeStartBuildsFrame := by
  refine ⟨fun k s hr => ?_, fun k s hr => ?_⟩
  · refine ⟨_, byteAt (s.port k).reply.data 2, byteAt (s.port k).reply.data 3, byteAt (s.port k).reply.data 4,
      byteAt (s.port k).reply.data 5, checkByte [statusByte s k, (s.port k).reply.code.code, byteAt (s.port k).reply.data 2,
        byteAt (s.port k).reply.data 3, byteAt (s.port k).reply.data 4, byteAt (s.port k).reply.data 5],
      congrArg Host.Outcome.next (if_pos hr), ?_, (bytes_append _).symm, ?_,
      unchangedBut_modPort _ s (by simp)⟩
    · rw [State.port_modPort_self, ← replyCode_number]
      rfl
    · rw [← replyCode_number]
      simp only [checkByte, List.foldl_cons, List.foldl_nil]
      generalize statusByte s k = a
      generalize (s.port k).reply.code.code = b
      generalize byteAt (s.port k).reply.data 2 = c
      generalize byteAt (s.port k).reply.data 3 = d
      generalize byteAt (s.port k).reply.data 4 = e
      generalize byteAt (s.port k).reply.data 5 = g
      bv_omega
  · exact ⟨_, congrArg Host.Outcome.next (if_neg (by simp [hr])), State.port_modPort_self .., unchangedBut_modPort _ s (by simp)⟩

/-! ### The status byte -/

/-- The bits of a byte put together from its weights. -/
theorem byteOf_bits (b7 b6 b3 b2 b1 b0 : Bool) (v : Service) :
    let w := byteOf (bitIf b7 128 + bitIf b6 64 + 16 * v.code + bitIf b3 8 + (bitIf b2 4 + bitIf b1 2 + bitIf b0 1))
    w.getLsbD 7 = b7 ∧ w.getLsbD 6 = b6 ∧ w.getLsbD 5 = decide (v = .draining) ∧ w.getLsbD 4 = decide (v = .opened) ∧
      w.getLsbD 3 = b3 ∧ w.getLsbD 2 = b2 ∧ w.getLsbD 1 = b1 ∧ w.getLsbD 0 = b0 := by
  cases v <;> revert b7 b6 b3 b2 b1 b0 <;> decide

/-- A fault is reportable by the bits of its flag and its mask (R162). -/
theorem reportable_iff (s : State) (n : LineNo) (c : FaultKind) :
    reportable s n c = true ↔ (s.sup n).faults.getLsbD c.code = true ∧ (s.sup n).masks.getLsbD c.code = false := by
  simp [reportable]

theorem mem_faultKinds (c : FaultKind) : c ∈ faultKinds := by cases c <;> decide

theorem nextFault_isSome (s : State) : (nextFault s).isSome = true ↔
    ∃ n i, i < 4 ∧ (s.sup n).faults.getLsbD i = true ∧ (s.sup n).masks.getLsbD i = false := by
  unfold nextFault
  rw [List.findSome?_isSome_iff]
  constructor
  · rintro ⟨c, -, hc⟩
    rw [Option.isSome_map, List.find?_isSome] at hc
    obtain ⟨n, -, hn⟩ := hc
    exact ⟨n, c.code, by cases c <;> decide, (reportable_iff s n c).1 hn⟩
  · rintro ⟨n, i, hi, hn⟩
    obtain ⟨c, rfl⟩ : ∃ c : FaultKind, c.code = i := by
      interval_cases i
      exacts [⟨.modemLost, rfl⟩, ⟨.modemAbsent, rfl⟩, ⟨.noCarrier, rfl⟩, ⟨.speedFail, rfl⟩]
    refine ⟨c, mem_faultKinds c, ?_⟩
    rw [Option.isSome_map, List.find?_isSome]
    exact ⟨n, State.mem_allLines n, (reportable_iff s n c).2 hn⟩

/-- The status byte of a host link by its weights. -/
theorem statusByte_host (s : State) {k : Link} {h : Computer} (hk : k.host? = some h) :
    statusByte s k = byteOf (bitIf (!(s.port k).notices.isEmpty) 128 + bitIf (s.port k).lost 64 + 16 * s.service.code
      + bitIf s.clock.set 8 + (bitIf (allLines.any fun n => (s.ses n).ownedBy h && !(s.ses n).rx.isEmpty) 4
        + bitIf (s.host h).up 2 + bitIf false 1)) := by
  simp [statusByte, hk, hostStatusBits, bitIf]

/-- The status byte of the accounting link by its weights. -/
theorem statusByte_acct (s : State) :
    statusByte s .acct = byteOf (bitIf (!(s.port .acct).notices.isEmpty) 128 + bitIf (s.port .acct).lost 64
      + 16 * s.service.code + bitIf s.clock.set 8 + (bitIf (!s.records.isEmpty) 4 + bitIf (nextFault s).isSome 2
        + bitIf (decide (16 ≤ s.recordSum)) 1)) := rfl

/-- Settles O17: each bit is the one of its weight. -/
theorem statusByteBits : Obligations.StatusByteBits := by
  intro s k
  cases hk : k.host? with
  | some h =>
    rw [statusByte_host s hk]
    obtain ⟨h7, h6, h5, h4, h3, h2, h1, h0⟩ := byteOf_bits (!(s.port k).notices.isEmpty) (s.port k).lost s.clock.set
      (allLines.any fun n => (s.ses n).ownedBy h && !(s.ses n).rx.isEmpty) (s.host h).up false s.service
    refine ⟨by rw [h7]; simp, h6, by rw [h5]; simp, by rw [h4]; simp, h3, fun g hg => ?_, fun ha => ?_⟩
    · cases hg
      refine ⟨?_, h1, h0⟩
      rw [h2]
      simp [List.any_eq_true, State.mem_allLines, Session.ownedBy, and_assoc]
    · subst ha; cases hk
  | none =>
    obtain rfl : k = .acct := by cases k <;> first | rfl | cases hk
    rw [statusByte_acct]
    obtain ⟨h7, h6, h5, h4, h3, h2, h1, h0⟩ := byteOf_bits (!(s.port .acct).notices.isEmpty) (s.port .acct).lost
      s.clock.set (!s.records.isEmpty) (nextFault s).isSome (decide (16 ≤ s.recordSum)) s.service
    refine ⟨by rw [h7]; simp, h6, by rw [h5]; simp, by rw [h4]; simp, h3, (fun g hg => by cases hg), fun _ => ⟨?_, ?_, ?_⟩⟩
    · rw [h2]; simp
    · rw [h1]; exact nextFault_isSome s
    · rw [h0, decide_eq_true_iff]; rfl

/-! ### Frames that do no work -/

theorem unchangedBut_takenPort (s : State) (k : Link) :
    unchangedBut [.port k] s (s.modPort k fun p => framePort s k p.reply) := unchangedBut_modPort _ s (by simp)

/-- The command of a frame with a code is the taking of an order on its link (R173). -/
theorem exec_takeOrder (he : Frame.encode i = some (k, f)) :
    ∃ order : State → State × Reply, ∀ s, exec i s = .next (s.takeOrder k order) := by
  cases i <;> simp only [Frame.encode, Option.some.injEq, Prod.mk.injEq, reduceCtorEq] at he
  all_goals
    obtain ⟨rfl, -⟩ := he
    exact ⟨_, fun _ => rfl⟩

/-- A frame that the part ignores has no order carried out (R172). -/
theorem takeFrame_ignored (s : State) {k : Link} (g : State → State) (hi : (s.port k).exchange = .ignored) :
    s.takeFrame k g = s.endExchange k := by
  unfold State.takeFrame State.inExchange
  simp [hi]

/-- A short frame taken: the exchange is over (R172). -/
theorem shortFrame_accepts (s : State) {k : Link} (ha : accepts s k) :
    (s.inExchange k).endExchange k = s.modPort k fun p => framePort s k p.reply := by
  have := State.takeFrame_accepts s k (f := id) ha
  unfold State.takeFrame at this
  dsimp only [id] at this
  split at this <;> exact this

/-- Settles O18: what is not a good frame taken leaves all but its link's port. -/
theorem failedFramesDoNoWork : Obligations.FailedFramesDoNoWork := by
  refine ⟨fun k s ha => ⟨_, rfl, ?_⟩, fun k s ha => ⟨_, rfl, ?_⟩, fun k s => ⟨_, rfl, ?_⟩, fun i k f s he hi => ?_⟩
  · rw [State.takeFrame_accepts s k ha]
    refine ⟨?_, (unchangedBut_takenPort s k).trans (unchangedBut_setReply _ _ _ (by simp))⟩
    simp [framePort, replyOf]
  · rw [shortFrame_accepts s ha]
    exact ⟨by simp, unchangedBut_takenPort s k⟩
  · exact ⟨State.port_modPort_self .., unchangedBut_modPort _ s (by simp)⟩
  · obtain ⟨order, ho⟩ := exec_takeOrder he
    refine ⟨_, ho s, ?_⟩
    rw [State.takeOrder, takeFrame_ignored s _ hi]
    exact ⟨State.port_modPort_self .., unchangedBut_modPort _ s (by simp)⟩

/-! ### Link activity -/

theorem host_forLines {f : State → LineNo → State} (s : State) (h : Computer)
    (hf : ∀ t n, (f t n).host h = t.host h) : (s.forLines f).host h = s.host h :=
  State.forLines_induct (I := fun _ t => t.host h = s.host h) rfl fun _ n t _ ht => (hf t n).trans ht

/-- A host link that comes UP has its silence timer at the limit (R92, R88). -/
theorem host_linkUp (s : State) (h : Computer) :
    (s.linkUp h).host h = ⟨true, .running (s.params.hostSilence * 1000)⟩ := by
  unfold State.linkUp
  rw [host_forLines _ h, State.host_postNotice, host_forLines _ h]
  · simp
  · intro t n; rw [State.host_modSes]
  · intro t n
    split
    · exact Keeping.reaches_host ((reaches.refl n t).adoptAttempt h) h
    · rfl

/-- Link activity leaves its host link UP with the silence timer at the limit (R88). -/
theorem host_linkActivity (s : State) {k : Link} {h : Computer} (hk : k.host? = some h) :
    (s.linkActivity k).host h = ⟨true, .running (s.params.hostSilence * 1000)⟩ := by
  unfold State.linkActivity
  simp only [hk]
  split
  next hu => simp [hu]
  · exact host_linkUp s h

theorem host_takeOrder (s : State) {k : Link} {h : Computer} {order : State → State × Reply} (hk : k.host? = some h)
    (ha : accepts s k) (ho : ∀ u, (order u).1.host h = u.host h) :
    (s.takeOrder k order).host h = ⟨true, .running (s.params.hostSilence * 1000)⟩ := by
  rw [State.takeOrder, State.takeFrame_accepts s k ha]
  simp only [State.setReply, State.host_modPort]
  rw [ho, host_linkActivity _ hk, State.params_modPort]

theorem host_onLine {s : State} {sel : Byte} {act : LineNo → State × Reply} {h : Computer}
    (ha : ∀ n, (act n).1.host h = s.host h) : (s.onLine sel act).1.host h = s.host h := by
  unfold State.onLine
  split
  · exact ha _
  · rfl

/-- An order of the accounting link is refused on a host link. -/
theorem acctOrder_host {s : State} {k : Link} {h : Computer} (hk : k.host? = some h) (order : State → State × Reply) :
    s.acctOrder k order = s.takeOrder k fun t => t.answered (replyOf .notPermitted) := by
  simp [State.acctOrder, hk, State.answered]

theorem hostOrder_host {s : State} {k : Link} {h : Computer} (hk : k.host? = some h)
    (order : Computer → State → State × Reply) : s.hostOrder k order = s.takeOrder k (order h) := by
  simp [State.hostOrder, hk]

/-! ### How far the host orders reach -/

theorem reaches_chargeFee {n : LineNo} {s t : State} (h : reaches n s t) : reaches n s (t.chargeFee n).1 := by
  unfold State.chargeFee
  dsimp only
  exact ((h.ses _).chargeUnits _).ses _

theorem reaches_connect {n : LineNo} {s t : State} (h : reaches n s t) : reaches n s (t.connect n) := (h.ses _).restartIdle

theorem reaches_acceptOffer {n : LineNo} {s t : State} (h : reaches n s t) (o : Offer) :
    reaches n s (t.acceptOffer n o) := by
  unfold State.acceptOffer
  split
  · have hc := reaches_connect ((reaches_chargeFee (h.dropOffer.ses fun r =>
      { r with owner := some o.target, firstHost := some o.target })).requestMessage slotWelcome)
    exact reaches.ite (fun _ => hc.clearRequest _) fun _ => hc
  · exact reaches_connect ((h.dropOffer.ses _).requestMessage _)

theorem reaches_answerLine (u : State) (g : Computer) (n : LineNo) (toggle verdict : Byte) :
    reaches n u (u.answerLine g n toggle verdict).1 := by
  unfold State.answerLine
  split
  · exact .refl n u
  split
  next o _ =>
    split
    · exact .refl n u
    split
    · exact .refl n u
    · exact reaches.ite (fun _ => reaches_acceptOffer (.refl n u) o) fun _ => (reaches.refl n u).declineOffer o
  · exact .refl n u

theorem reaches_receiveLine (u : State) (n : LineNo) : reaches n u (u.receiveLine n).1 := by
  unfold State.receiveLine
  split
  · exact .refl n u
  · exact ((reaches.refl n u).ses _).judgeLowWater

theorem reaches_sendLine (u : State) (n : LineNo) (cs : List Byte) : reaches n u (u.sendLine n cs).1 := by
  unfold State.sendLine
  exact reaches.ite (fun _ => (reaches.refl n u).placeAll _) fun _ => ((reaches.refl n u).placeAll _).restartIdle

/-- An order of a host link on one line, refused on lines the host does not own. -/
theorem host_owned {u : State} {n : LineNo} {g h : Computer} {done : State × Reply} {r : Reply}
    (hd : reaches n u done.1) : (if (u.ses n).ownedBy g then done else u.answered r).1.host h = u.host h := by
  split
  · exact Keeping.reaches_host hd h
  · rfl

/-- Every order but DETACH leaves the host links as link activity has left them. -/
theorem order_keeps_host (he : Frame.encode i = some (k, f)) (hk : k.host? = some h) (hne : i ≠ .detach k) :
    ∃ order : State → State × Reply, (∀ s, exec i s = .next (s.takeOrder k order)) ∧
      ∀ u, (order u).1.host h = u.host h := by
  cases i <;> simp only [Frame.encode, Option.some.injEq, Prod.mk.injEq, reduceCtorEq] at he
  all_goals obtain ⟨rfl, -⟩ := he
  case orderUnknown | nop | clockRead => exact ⟨_, fun _ => rfl, fun _ => rfl⟩
  case status | noticeMask => exact ⟨_, fun _ => rfl, fun u => State.host_modPort _ _ _ _⟩
  case noticeFetch =>
    refine ⟨_, fun _ => rfl, fun u => ?_⟩
    split
    · rfl
    · exact State.host_modPort _ _ _ _
  case lineRead =>
    refine ⟨_, fun _ => rfl, fun u => host_onLine fun n => ?_⟩
    split <;> rfl
  case accountSelect =>
    refine ⟨_, fun _ => rfl, fun u => ?_⟩
    split
    · rfl
    · split <;> exact State.host_modPort _ _ _ _
  case accountRead =>
    refine ⟨_, fun _ => rfl, fun u => ?_⟩
    split
    · rfl
    · unfold State.onCursor
      split
      · dsimp only
        split <;> rfl
      · rfl
  case accountNext =>
    refine ⟨_, fun _ => rfl, fun u => ?_⟩
    split <;> exact State.host_modPort _ _ _ _
  case answer =>
    exact ⟨_, fun s => congrArg Host.Outcome.next (hostOrder_host hk _), fun u => host_onLine fun n =>
      Keeping.reaches_host (reaches_answerLine u h n _ _) h⟩
  case rxScan => exact ⟨_, fun s => congrArg Host.Outcome.next (hostOrder_host hk _), fun _ => rfl⟩
  case receive =>
    exact ⟨_, fun s => congrArg Host.Outcome.next (hostOrder_host hk _), fun u => host_onLine fun n =>
      host_owned (reaches_receiveLine u n)⟩
  case send =>
    refine ⟨_, fun s => congrArg Host.Outcome.next (hostOrder_host hk _), fun u => host_onLine fun n => ?_⟩
    split
    · rfl
    · exact host_owned (reaches_sendLine u n _)
  case release =>
    exact ⟨_, fun s => congrArg Host.Outcome.next (hostOrder_host hk _), fun u => host_onLine fun n =>
      host_owned (done := (u.clearRequest n .hostReleased, replyOf .ok)) ((reaches.refl n u).clearRequest _)⟩
  case detach => exact absurd rfl hne
  all_goals exact ⟨_, fun s => congrArg Host.Outcome.next (acctOrder_host hk _), fun _ => rfl⟩

/-- Settles O19: link activity sets the timer, and no order but DETACH changes a host link. -/
theorem goodFrameKeepsHostUp : Obligations.GoodFrameKeepsHostUp := by
  intro i k h f s he hk ha hne
  obtain ⟨order, hexec, hhost⟩ := order_keeps_host he hk hne
  exact ⟨_, hexec s, host_takeOrder s hk ha hhost⟩

/-! ### The checks of every order -/

theorem not_acct {k : Link} (hk : k ≠ .acct) : ∃ h, k.host? = some h := by
  cases k
  exacts [⟨.a, rfl⟩, ⟨.b, rfl⟩, absurd rfl hk]

theorem acctOrder_refused {s : State} (hl : listens s k) (hk : k ≠ .acct) (order : State → State × Reply) :
    onlyAnswers k ⟨.notPermitted, 0⟩ s (s.acctOrder k order) := by
  obtain ⟨h, hh⟩ := not_acct hk
  rw [acctOrder_host hh]
  exact AccountOrders.takeOrder_onlyAnswers hl rfl

theorem hostOrder_refused {s : State} (hl : listens s k) (hk : k = .acct) (order : Computer → State → State × Reply) :
    onlyAnswers k ⟨.notPermitted, 0⟩ s (s.hostOrder k order) := by
  subst hk
  exact AccountOrders.takeOrder_onlyAnswers hl rfl

/-- A line selector above 15 is refused before the line is looked at (R174). -/
theorem onLine_refused {u : State} {sel : Byte} (hs : 15 < sel.toNat) (act : LineNo → State × Reply) :
    u.onLine sel act = u.answered ⟨.badArgument, 0⟩ := by
  have : lineSel sel = none := dif_neg (by omega)
  simp [State.onLine, this, State.answered, replyOf]

/-- The order of a line, on the link that takes it, with its selector above 15. -/
theorem lineOrder_refused {s : State} {sel : Byte} (hl : listens s k) (hs : 15 < sel.toNat)
    (act : State → LineNo → State × Reply) :
    onlyAnswers k ⟨.badArgument, 0⟩ s (s.takeOrder k fun t => t.onLine sel fun n => act t n) :=
  AccountOrders.takeOrder_onlyAnswers hl (onLine_refused hs _)

theorem hostLine_refused {s : State} {sel : Byte} (hl : listens s k) (hk : k ≠ .acct) (hs : 15 < sel.toNat)
    (act : Computer → State → LineNo → State × Reply) :
    onlyAnswers k ⟨.badArgument, 0⟩ s (s.hostOrder k fun h t => t.onLine sel fun n => act h t n) := by
  obtain ⟨h, hh⟩ := not_acct hk
  rw [hostOrder_host hh]
  exact lineOrder_refused hl hs _

theorem acctLine_refused {s : State} {sel : Byte} (hl : listens s k) (hk : k = .acct) (hs : 15 < sel.toNat)
    (act : State → LineNo → State × Reply) :
    onlyAnswers k ⟨.badArgument, 0⟩ s (s.acctOrder k fun t => t.onLine sel fun n => act t n) := by
  subst hk
  exact lineOrder_refused hl hs _

/-- Settles O20: the order's code says which links take it and whether it has a line selector. -/
theorem ordersRefusedFirst : Obligations.OrdersRefusedFirst := by
  refine ⟨fun i k f s he hu hcode hl => ?_, fun i k f s he hu hcode hsel hl => ?_⟩
  · cases i <;> simp only [Frame.encode, Option.some.injEq, Prod.mk.injEq, reduceCtorEq] at he
    all_goals obtain ⟨rfl, rfl⟩ := he
    case orderUnknown j c => exact absurd rfl (hu c)
    case answer | rxScan | receive | send | release | detach =>
      simp [Frame.sealed] at hcode
      exact ⟨_, rfl, hostOrder_refused hl hcode _⟩
    case nop | status | noticeFetch | noticeMask | lineRead | clockRead | accountSelect | accountRead | accountNext =>
      simp [Frame.sealedValue, Frame.sealed] at hcode
    all_goals
      simp [Frame.sealedValue, Frame.sealed] at hcode
      exact ⟨_, rfl, acctOrder_refused hl hcode _⟩
  · cases i <;> simp only [Frame.encode, Option.some.injEq, Prod.mk.injEq, reduceCtorEq] at he
    all_goals obtain ⟨rfl, rfl⟩ := he
    case orderUnknown j c => exact absurd rfl (hu c)
    case lineRead => exact ⟨_, rfl, lineOrder_refused hl hsel _⟩
    case answer | receive | send | release =>
      simp [Frame.sealed] at hcode
      exact ⟨_, rfl, hostLine_refused hl hcode hsel _⟩
    case lineEnable | lineDisable | lineClear | lineClass | lineStats | faultClear | faultMask =>
      simp [Frame.sealedValue, Frame.sealed] at hcode
      exact ⟨_, rfl, acctLine_refused hl hcode hsel _⟩
    all_goals simp [Frame.sealedValue, Frame.sealed] at hcode

end Sys2Proof.Frames
end

section
/-! PROOFS. The orders of every link, and the layouts of section 12.8. -/

namespace Sys2Proof.LinkOrders


open Sys2Proof.Machine

variable {s u : State} {k : Link}

/-! ### Orders that change their link's port -/

/-- An order that changes its link's port changes nothing else. -/
theorem takeOrder_modPort {order : State → State × Reply} {g : LinkPort → LinkPort} {r : Reply} {p : LinkPort}
    (hl : listens s k) (ho : order (s.heard k) = ((s.heard k).modPort k g, r))
    (hp : { g (framePort s k (s.port k).reply) with reply := r } = p) :
    carriedOut k p [] s (s.takeOrder k order) := by
  rw [State.takeOrder_listens s k hl, ho]
  refine carriedOut_heard ?_ (fun h _ => State.host_modPort _ _ h _) (unchangedBut_modPort _ _ (by simp))
  simpa using hp

theorem countLines_heard (s : State) (k : Link) (p : LineNo → Line → Bool) : (s.heard k).countLines p = s.countLines p := by
  simp [State.countLines]

theorem statusLines_heard (s : State) (j k : Link) : statusLines (s.heard j) k = statusLines s k := by
  unfold statusLines
  split <;> rw [countLines_heard]

/-- Settles O21: the counts are those of the part as heard, which the frame has not changed. -/
theorem nopStatusAndUnknownOrders : Obligations.NopStatusAndUnknownOrders := by
  intro k s hl
  refine ⟨⟨_, rfl, AccountOrders.takeOrder_onlyAnswers hl rfl⟩,
    fun c => ⟨_, rfl, AccountOrders.takeOrder_onlyAnswers hl rfl⟩, _, statusLines s k, rfl, fun h hk => ?_, fun hk => ?_, ?_⟩
  · simp only [statusLines, hk]
    rfl
  · subst hk
    show s.countLines (fun _ l => l.ses.state.busy) = _
    refine congrArg s.countLines (funext₂ fun _ l => ?_)
    cases l.ses.state <;> rfl
  · refine takeOrder_modPort hl rfl ?_
    simp [framePort, okWith, bytes4, byteOf, statusLines_heard]

/-! ### Notices -/

theorem getLsbD_maskBits (k : Link) (i : Nat) : (maskBits k).getLsbD i = decide (i < if k = .acct then 3 else 2) := by
  have h3 : (3 : Byte).getLsbD i = decide (i < 2) := by
    have := Nat.testBit_two_pow_sub_one 2 i
    simp only [BitVec.getLsbD] at this ⊢
    exact this
  have h7 : (7 : Byte).getLsbD i = decide (i < 3) := by
    have := Nat.testBit_two_pow_sub_one 3 i
    simp only [BitVec.getLsbD] at this ⊢
    exact this
  cases k
  · simpa [maskBits] using h3
  · simpa [maskBits] using h3
  · simpa [maskBits] using h7

/-- Settles O22: the oldest notice is taken off the port's queue, and the mask is written with the kinds' bits only. -/
theorem noticeOrders : Obligations.NoticeOrders := by
  intro k s hl
  refine ⟨fun hn => ⟨_, rfl, AccountOrders.takeOrder_onlyAnswers hl ?_⟩, fun m rest hn => ?_, fun mask => ?_⟩
  · simp [framePort, hn, replyOf]
  · have hat : ∀ t : State, (t.port k).notices = rest → (attention t k = true ↔ rest ≠ []) := by
      intro t ht
      rw [attention, ht]
      cases rest <;> simp
    suffices h : carriedOut k { framePort s k ⟨.ok, m.layout⟩ with notices := rest } [] s _ from
      ⟨_, rfl, h, hat _ (by rw [h.1])⟩
    refine takeOrder_modPort (g := fun p => { p with notices := rest }) (r := okWith m.layout) hl ?_ rfl
    simp [framePort, hn]
  · refine ⟨_, mask &&& maskBits k, rfl, fun i => ?_, takeOrder_modPort hl rfl rfl⟩
    rw [BitVec.getLsbD_and, getLsbD_maskBits]

theorem suppresses_iff (k : Link) (mask : Byte) (m : Notice) : suppresses k mask m = true ↔ masked k mask m := by
  unfold masked
  cases k <;> cases m <;> simp [suppresses]

theorem noticeRoom_eq (k : Link) : noticeRoom k = if k = .acct then 16 else 32 := by cases k <;> rfl

theorem reachable_of_linkIsUp (h : linkIsUp s k) : s.reachable k = true := by
  unfold State.reachable
  split
  next g hg => exact h g hg
  · rfl

theorem postNotice_masked {m : Notice} (h : masked k (s.port k).mask m) : s.postNotice k m = s :=
  if_pos ((suppresses_iff _ _ _).2 h)

theorem postNotice_down {h : Computer} {m : Notice} (hk : k.host? = some h) (hd : (s.host h).up = false) :
    s.postNotice k m = s := by
  unfold State.postNotice
  split
  · rfl
  · exact if_pos (by simp [State.reachable, hk, hd])

/-- A notice that is not masked, at a link that is not DOWN (R177). -/
theorem postNotice_open {m : Notice} (hm : ¬masked k (s.port k).mask m) (hu : linkIsUp s k) :
    s.postNotice k m = s.modPort k fun p =>
      if (s.port k).notices.length < (if k = .acct then 16 else 32) then { p with notices := p.notices ++ [m] }
      else { p with lost := true } := by
  have hs : suppresses k (s.port k).mask m = false := by
    rw [← Bool.not_eq_true]; exact fun h => hm ((suppresses_iff _ _ _).1 h)
  have hr := reachable_of_linkIsUp hu
  by_cases hroom : (s.port k).notices.length < if k = .acct then 16 else 32
  · simp [State.postNotice, hs, hr, State.queueFull, noticeRoom_eq, State.pushNotice, hroom, Nat.not_le.2 hroom]
  · simp [State.postNotice, hs, hr, State.queueFull, noticeRoom_eq, hroom, Nat.not_lt.1 hroom]

theorem noticePosting_first (k : Link) (m : Notice) (s : State) :
    (masked k (s.port k).mask m → s.postNotice k m = s) ∧
    (∀ h, k.host? = some h → (s.host h).up = false → s.postNotice k m = s) ∧
    (¬masked k (s.port k).mask m → linkIsUp s k →
      unchangedBut [.port k] s (s.postNotice k m) ∧
      (s.postNotice k m).port k =
        if (s.port k).notices.length < (if k = .acct then 16 else 32) then
          { s.port k with notices := (s.port k).notices ++ [m] }
        else { s.port k with lost := true }) := by
  refine ⟨postNotice_masked, fun h hk hd => postNotice_down hk hd, fun hm hu => ?_⟩
  rw [postNotice_open hm hu]
  exact ⟨unchangedBut_modPort _ s (by simp), by rw [State.port_modPort_self]⟩


end Sys2Proof.LinkOrders
end

section
/-! PROOFS. What a clear, a refusal and a return to SIGN_ON leave alone, and how a notice is posted (R177). -/

namespace Sys2Proof.Clears


open Sys2Proof.Machine Sys2Proof.LinkOrders Sys2Proof.Keeping

variable {s t : State} {n : LineNo}

/-- The parts that a line's coming to rest changes. -/
def restParts (n : LineNo) : List Part := [.session n, .unit n, .service, .port .acct]

theorem unchanged_ite {ps : List Part} {c : Prop} [Decidable c] {a b : State} (ha : c → unchangedBut ps s a)
    (hb : ¬c → unchangedBut ps s b) : unchangedBut ps s (if c then a else b) := by
  split
  · exact ha ‹_›
  · exact hb ‹_›

theorem rest_ses (f : Session → Session) (s : State) : unchangedBut (restParts n) s (s.modSes n f) :=
  unchangedBut_modSes f s (by simp [restParts])

theorem rest_unit (f : LineUnit → LineUnit) (s : State) : unchangedBut (restParts n) s (s.modUnit n f) :=
  unchangedBut_modUnit f s (by simp [restParts])

theorem rest_requestMessage (s : State) (n : LineNo) (slot : Fin 16) :
    unchangedBut (restParts n) s (s.requestMessage n slot) := rest_ses _ s

theorem rest_hangUp (s : State) (n : LineNo) : unchangedBut (restParts n) s (s.hangUp n) := by
  obtain ⟨hg, hr⟩ := s.hangUp_hungUp n
  by_cases h : s.params.guardTime = 0
  · exact (hr h).2.2.2.2.2.2.2
  · exact (hg h).2.2.mono (by simp +contextual [restParts])

theorem rest_drainContents (s : State) (n : LineNo) (c : Cause) : unchangedBut (restParts n) s (s.drainContents n c) :=
  unchanged_ite (fun _ => rest_ses _ s) fun _ => unchanged_ite (fun _ => rest_ses _ s) fun _ => unchangedBut_refl _ s

theorem rest_startDrain (s : State) (n : LineNo) (c : Cause) : unchangedBut (restParts n) s (s.startDrain n c) :=
  unchanged_ite (fun _ => (rest_ses _ s).trans (rest_hangUp _ n)) fun _ =>
    unchanged_ite (fun _ => ((rest_drainContents s n c).trans (rest_ses _ _)).trans (rest_hangUp _ n)) fun _ =>
      (rest_drainContents s n c).trans (rest_ses _ _)

theorem rest_takeClear (s : State) (n : LineNo) (c : Cause) : unchangedBut (restParts n) s (s.takeClear n c) := by
  unfold State.takeClear
  exact (rest_ses _ s).trans (rest_unit _ _)

theorem rest_finalMessage (s : State) (n : LineNo) (c : Cause) : unchangedBut (restParts n) s (s.finalMessage n c) := by
  unfold State.finalMessage
  split
  · exact unchanged_ite (fun _ => rest_ses _ s) fun _ => unchangedBut_refl _ s
  · exact unchangedBut_refl _ s

/-- An offer withdrawn without a word leaves all but its line alone. -/
theorem rest_withdrawOffer {was : LineState} {c : Cause} (hw : was ≠ .offered)
    (ho : (s.ses n).offer = none ∨ State.withdrawReason c = none) : unchangedBut (restParts n) s (s.withdrawOffer n was c) := by
  unfold State.withdrawOffer
  split
  next o h =>
    have hr : State.withdrawReason c = none := by simpa [h] using ho
    simp only [hr, if_neg hw]
    exact rest_ses _ s
  · exact unchangedBut_refl _ s

/-- A line that is in none of OFFERED, CONNECTED and HELD is cleared with nothing told to a host and nothing counted. -/
theorem rest_enterClearing {c : Cause} (hs : (s.ses n).state.hasSession = false)
    (ho : (s.ses n).offer = none ∨ State.withdrawReason c = none) : unchangedBut (restParts n) s (s.enterClearing n c) := by
  have hno : ¬((s.ses n).state = .connected ∨ (s.ses n).state = .held) := by
    rintro (h | h) <;> rw [h] at hs <;> cases hs
  have hw : (s.ses n).state ≠ .offered := by
    intro h; rw [h] at hs; cases hs
  have ho' : ((s.takeClear n c).ses n).offer = none ∨ State.withdrawReason c = none := by
    rwa [(takeClear_account s n c).2]
  unfold State.enterClearing
  simp only [if_neg hno]
  exact (((rest_takeClear s n c).trans (rest_withdrawOffer hw ho')).trans (rest_finalMessage _ n c)).trans
    (rest_startDrain _ n c)

theorem rest_clearRequest {c : Cause} (hs : (s.ses n).state.hasSession = false)
    (ho : (s.ses n).offer = none ∨ State.withdrawReason c = none) : unchangedBut (restParts n) s (s.clearRequest n c) :=
  unchanged_ite (fun _ => rest_enterClearing hs ho) fun _ => unchangedBut_refl _ s

theorem state_requestMessage (s : State) (n : LineNo) (slot : Fin 16) :
    ((s.requestMessage n slot).ses n).state = (s.ses n).state := by
  unfold State.requestMessage
  rw [State.ses_modSes_self]
  split <;> rfl

/-- A refusal leaves all but its line alone, and with its last attempt what the line's coming to rest changes. -/
theorem rest_refuse (slot : Fin 16) (hs : (s.ses n).state.hasSession = false) :
    unchangedBut (restParts n) s (s.refuse n slot) := by
  unfold State.refuse
  refine unchanged_ite (fun _ => ?_) fun _ => ?_
  · refine ((rest_ses _ s).trans (rest_requestMessage _ n slot)).trans (rest_clearRequest ?_ (.inr rfl))
    rw [state_requestMessage, State.ses_modSes_self]
    exact hs
  · exact (((rest_ses _ s).trans (rest_ses _ _)).trans (rest_ses _ _)).trans (rest_ses _ _)

theorem rest_returnToSignOn (s : State) (n : LineNo) :
    unchangedBut (.accounts :: .reservations :: restParts n) s (s.returnToSignOn n) := by
  have hsub : ∀ p ∈ restParts n, p ∈ Part.accounts :: Part.reservations :: restParts n := by simp +contextual
  have hrel : unchangedBut (.accounts :: .reservations :: restParts n) s (s.releaseAdmission n) := by
    intro p hp
    cases p <;> simp [Part.same] at hp ⊢ <;> simp [State.releaseAdmission]
  unfold State.returnToSignOn
  exact (hrel.trans ((rest_ses _ _).mono hsub)).trans ((rest_refuse _ (by simp [LineState.hasSession])).mono hsub)

/-! ### An offer attempt at a full queue (R79) -/

theorem port_link_restParts (h : Computer) (n : LineNo) : Part.port h.link ∉ restParts n := by
  cases h <;> simp [restParts, Computer.link]

theorem port_returnToSignOn (s : State) (n : LineNo) (h : Computer) :
    (s.returnToSignOn n).port h.link = s.port h.link :=
  rest_returnToSignOn s n (.port h.link) (by simp [port_link_restParts])

theorem link_ne {g h : Computer} (hne : g ≠ h) : g.link ≠ h.link := by
  cases g <;> cases h <;> first | exact absurd rfl hne | decide

theorem port_postOffer_ne {g h : Computer} (hne : h ≠ g) (kind : OfferKind) :
    (s.postOffer n g kind).port h.link = s.port h.link := by
  simp [State.postOffer, State.pushNotice, State.port_modPort_ne _ _ _ _ (link_ne hne)]

theorem has_add {d : HostSet} {g h : Computer} (hd : d.has h = true) : (d.add g).has h = true := by
  cases g <;> cases h <;> simp_all [HostSet.has, HostSet.add]

theorem has_add_self (d : HostSet) (h : Computer) : (d.add h).has h = true := by cases h <;> rfl

/-- An adoption search forgives no host (R94). -/
theorem declined_adoptionSearch {h : Computer} (fuel : Nat) (hd : (s.ses n).declined.has h = true) :
    ((s.adoptionSearch n fuel).ses n).declined.has h = true := by
  induction fuel generalizing s with
  | zero => exact hd
  | succ k ih =>
    unfold State.adoptionSearch
    split
    · split
      · rw [ses_postOffer]; exact hd
      · exact ih (by rw [State.addDeclined, State.ses_modSes_self]; exact has_add hd)
    · exact hd

theorem queueFull_link (s : State) (h : Computer) :
    s.queueFull h.link = true ↔ 32 ≤ (s.port h.link).notices.length := by
  cases h <;> exact decide_eq_true_iff

/-- Settles O23: an attempt that finds the queue full ends at the other host, or with no offer at all. -/
theorem noticePosting : Obligations.NoticePosting := by
  refine ⟨fun k m s _ => noticePosting_first k m s, fun h n s hfull => ?_⟩
  have hq := (queueFull_link s h).2 hfull
  have hne : ∀ g, s.queueFull g.link = false → h ≠ g := by
    rintro g hg rfl
    rw [hq] at hg
    cases hg
  refine ⟨?_, ?_, ?_⟩
  · obtain ⟨k, tried, ⟨g, _, hg, he⟩ | he⟩ := signOnAttempt_full s n hq
    · rw [he, port_postOffer_ne (hne g hg), State.port_modSes]
    · rw [he, port_returnToSignOn, State.port_modSes]
  · obtain ⟨dec, he | ⟨g, _, hg, he⟩⟩ := adoptAttempt_full s n hq
    · rw [he, State.port_modSes]
    · rw [he, port_postOffer_ne (hne g hg), State.port_modSes]
  · unfold State.adoptAttempt
    rw [hq]
    exact declined_adoptionSearch 2 (by rw [State.addDeclined, State.ses_modSes_self]; exact has_add_self _ h)

end Sys2Proof.Clears
end

section
/-! PROOFS. The layouts of section 12.8: reply codes, notices, account fields, stamps and the groups of LINE READ. -/

namespace Sys2Proof.Layouts


open Sys2Proof.Machine

/-! ### The code tables -/

theorem stateCode_number (x : LineState) : x.code = numberIn stateNumbers x := by cases x <;> rfl
theorem phaseCode_number (x : ClearPhase) : x.code = numberIn phaseNumbers x := by cases x <;> rfl
theorem rateCode_number (x : Option Rate) : rateCode x = numberIn rateNumbers x := by
  rcases x with _ | x
  · rfl
  · cases x <;> rfl
theorem hostCode_number (x : Option Computer) : hostCode x = numberIn hostNumbers x := by
  rcases x with _ | x
  · rfl
  · cases x <;> rfl
theorem kindCode_number (x : OfferKind) : x.code = numberIn kindNumbers x := by cases x <;> rfl
theorem causeCode_number (x : Cause) : x.code = numberIn causeNumbers x := by cases x <;> rfl
theorem reasonCode_number (x : Reason) : x.code = numberIn reasonNumbers x := by cases x <;> rfl
theorem faultCode_number (x : FaultKind) : x.code = numberIn faultNumbers x := by cases x <;> rfl

theorem causeCode_lt (x : Cause) : x.code < 256 := by cases x <;> decide
theorem reasonCode_lt (x : Reason) : x.code < 256 := by cases x <;> decide
theorem faultCode_lt (x : FaultKind) : x.code < 256 := by cases x <;> decide

theorem stampLayout_eq (st : Option Stamp) : stampLayout st = stampBytes st := by cases st <;> rfl

/-! ### Bytes and words -/

theorem byteOf_toNat {v : Nat} (h : v < 256) : (byteOf v).toNat = v := by
  simp only [byteOf, BitVec.toNat_ofNat]
  omega

theorem noticeHead_toNat {kind line : Nat} (h : 16 * kind + line < 256) : (noticeHead kind line).toNat = 16 * kind + line :=
  byteOf_toNat h

theorem flagByte_toNat (b : Bool) : (flagByte b).toNat = if b then 1 else 0 := by cases b <;> rfl

theorem offerPayload_toNat {a : Nat} (t : Bool) (h : a < 1048576) :
    (offerPayload t a).toNat = (if t then 2 ^ 23 else 0) + a := by
  rw [offerPayload, BitVec.toNat_ofNat]
  cases t <;> simp <;> omega

/-- An OFFER's or an ADOPT's four bytes (12.8.5). -/
theorem offerLayout_toNat {kind : Nat} (n : LineNo) {a : Nat} (t : Bool) (hk : kind < 16) (h : a < 1048576) :
    (noticeHead kind n.val ++ offerPayload t a).toNat = (16 * kind + n.val) * 2 ^ 24 + (if t then 2 ^ 23 else 0) + a := by
  have hn := n.isLt
  rw [append_toNat, noticeHead_toNat (by omega), offerPayload_toNat t h]
  omega

/-- The notices of a line, as numbers (12.8.5). -/
theorem noticeLayouts (n : LineNo) (a b : Nat) (t : Bool) (ha : a < 1048576) (hb : b < 16777216) :
    (Notice.offer n t a).layout.toNat = (16 + n.val) * 2 ^ 24 + (if t then 2 ^ 23 else 0) + a ∧
    (Notice.adopt n t a).layout.toNat = (32 + n.val) * 2 ^ 24 + (if t then 2 ^ 23 else 0) + a ∧
    (∀ r, (Notice.withdrawn n t r).layout.toNat =
      (48 + n.val) * 2 ^ 24 + (if t then 2 ^ 16 else 0) + numberIn reasonNumbers r * 2 ^ 8) ∧
    (∀ c, (Notice.cleared n c).layout.toNat = (64 + n.val) * 2 ^ 24 + numberIn causeNumbers c * 2 ^ 16) ∧
    (Notice.lowBalance n b).layout.toNat = (80 + n.val) * 2 ^ 24 + b ∧
    (∀ m, m < 256 → (Notice.grace n m).layout.toNat = (96 + n.val) * 2 ^ 24 + m * 2 ^ 16) ∧
    ∀ f, (Notice.fault n f).layout.toNat = (128 + n.val) * 2 ^ 24 + numberIn faultNumbers f * 2 ^ 16 := by
  have hn := n.isLt
  have head : ∀ kind, kind < 16 → (noticeHead kind n.val).toNat = 16 * kind + n.val := fun kind hk =>
    noticeHead_toNat (by omega)
  refine ⟨offerLayout_toNat n t (by decide) ha, offerLayout_toNat n t (by decide) ha, fun r => ?_, fun c => ?_, ?_,
    fun m hm => ?_, fun f => ?_⟩
  · rw [Notice.layout, bytes4_toNat, head 3 (by decide), flagByte_toNat, byteOf_toNat (reasonCode_lt r), reasonCode_number]
    cases t <;> simp
  · rw [Notice.layout, bytes4_toNat, head 4 (by decide), byteOf_toNat (causeCode_lt c), causeCode_number]
    simp
  · rw [Notice.layout, bytes24_toNat, head 5 (by decide), Nat.mod_eq_of_lt (show b < 2 ^ 24 from hb)]
  · rw [Notice.layout, bytes4_toNat, head 6 (by decide), byteOf_toNat hm]
    simp
  · rw [Notice.layout, bytes4_toNat, head 8 (by decide), byteOf_toNat (faultCode_lt f), faultCode_number]
    simp

/-! ### The groups of LINE READ -/

variable (r : Session)

theorem group_state : r.group 0 =
    some (BitVec.ofNat 8 (numberIn stateNumbers r.state) ++ BitVec.ofNat 8 (numberIn phaseNumbers r.phase) ++
      BitVec.ofNat 8 (16 * r.cls.val + numberIn rateNumbers r.rate) ++ (if r.disablePending then 1 else 0 : Byte)) := by
  rw [← stateCode_number, ← phaseCode_number, ← rateCode_number]
  rfl

theorem group_account {a : Nat} (ha : a ≤ 999999) (hr : r.account = some a) :
    (r.group 1).map (·.toNat) = some (2 ^ 24 + a) := by
  simp only [Session.group, hr, Option.map_some, bytes24_toNat, Nat.mod_eq_of_lt (show a < 2 ^ 24 by omega)]
  rfl

theorem group_hosts_free (hr : r.offer = none) : r.group 2 = some (BitVec.ofNat 8 (numberIn hostNumbers r.owner) ++
    BitVec.ofNat 8 (numberIn hostNumbers r.prevOwner) ++ (0 : Byte) ++ (if r.toggle then 1 else 0 : Byte)) := by
  rw [← hostCode_number, ← hostCode_number]
  simp only [Session.group, hr]
  rfl

theorem group_hosts {h : Computer} {kind : OfferKind} (hr : r.offer = some ⟨h, kind⟩) :
    r.group 2 = some (BitVec.ofNat 8 (numberIn hostNumbers r.owner) ++
      BitVec.ofNat 8 (numberIn hostNumbers r.prevOwner) ++
      BitVec.ofNat 8 (16 * numberIn kindNumbers kind + numberIn hostNumbers (some h)) ++
      (if r.toggle then 1 else 0 : Byte)) := by
  rw [← hostCode_number, ← hostCode_number, ← hostCode_number, ← kindCode_number]
  simp only [Session.group, hr]
  rfl

theorem map_bytes24_zero {v : Nat} (hv : v < 16777216) : (some (bytes24 0 v)).map (·.toNat) = some v := by
  rw [Option.map_some, bytes24_toNat, Nat.mod_eq_of_lt (show v < 2 ^ 24 from hv)]
  simp

theorem group_ring (hc : r.ringCount < 256) : (r.group 8).map (·.toNat) = some (r.ringCount * 2 ^ 24) := by
  simp [Session.group, bytes4_toNat, byteOf_toNat hc]

theorem group_grace {ms : Nat} (hm : ms ≤ 900000) (hr : r.graceTimer = .running ms) :
    (r.group 9).map (·.toNat) = some ((ms + 999) / 1000) := by
  simp only [Session.group, hr, Timer.seconds, Option.map_some, words16_toNat, Option.some.injEq]
  omega

theorem group_none {code : Nat} (h : 9 < code) : r.group code = none := by
  unfold Session.group
  split <;> first | omega | rfl

/-- Settles O24: each layout is the bytes of its table's numbers. -/
theorem noticeAndFieldLayouts : Obligations.NoticeAndFieldLayouts := by
  have hcodes : ∀ p ∈ replyNumbers, p.1.code = BitVec.ofNat 8 p.2 := by decide
  refine ⟨fun c v h => hcodes (c, v) h, fun c => ?_, stampLayout_eq, noticeLayouts, rfl, rfl, rfl, rfl, rfl,
    fun e _ h => AccountOrders.field_eq_fieldNumber e h, fun r => ⟨group_state r, ?_, fun a ha hr => group_account r ha hr,
      group_hosts_free r, fun h kind hr => group_hosts r hr, ?_, fun hd => map_bytes24_zero hd,
      fun ho => map_bytes24_zero ho, rfl, rfl, group_ring r, ?_, fun ms hm hr => group_grace r hm hr,
      fun code h => group_none r h⟩⟩
  · cases c <;> decide
  · intro hr
    simp only [Session.group, hr]
  · exact map_bytes24_zero (by unfold maxUnits; omega)
  · intro hr
    simp only [Session.group, hr]
    rfl

end Sys2Proof.Layouts
end

section
/-! PROOFS. LINE READ and CLOCK READ, the orders that make and remove account entries, and the accounting station's orders
on charge records, clock, tariff, messages and parameters. -/

namespace Sys2Proof.Stations


open Sys2Proof.Machine Sys2Proof.AccountOrders

variable {s u : State} {k : Link}

/-! ### Orders of the accounting link -/

/-- What a command leaves that is an order of the accounting link: what the order makes of the state as heard, the reply
pending. -/
theorem acct_order {i : Instr} {order : State → State × Reply} {r : Reply} {P : State → Prop}
    (hi : exec i s = .next (s.acctOrder .acct order)) (hl : listens s .acct) (ho : order (s.heard .acct) = (u, r))
    (hP : P (u.setReply .acct r)) : ∃ t, exec i s = .next t ∧ P t := by
  refine ⟨_, hi, ?_⟩
  rw [State.acctOrder_listens s hl, ho]
  exact hP

/-- An order of the accounting link that leaves the state as heard has only answered. -/
theorem acct_answers {i : Instr} {order : State → State × Reply} {r : Reply}
    (hi : exec i s = .next (s.acctOrder .acct order)) (hl : listens s .acct)
    (ho : order (s.heard .acct) = (s.heard .acct).answered r) :
    ∃ t, exec i s = .next t ∧ onlyAnswers .acct r s t :=
  acct_order hi hl ho (onlyAnswers_heard .acct s r)

@[simp] theorem ses_setReply (n : LineNo) (k : Link) (r : Reply) : (u.setReply k r).ses n = u.ses n :=
  State.ses_modPort ..
@[simp] theorem unit_setReply (n : LineNo) (k : Link) (r : Reply) : (u.setReply k r).unit n = u.unit n :=
  State.unit_modPort ..
@[simp] theorem sup_setReply (n : LineNo) (k : Link) (r : Reply) : (u.setReply k r).sup n = u.sup n :=
  State.sup_modPort ..
@[simp] theorem port_setReply_self (k : Link) (r : Reply) : (u.setReply k r).port k = { u.port k with reply := r } :=
  State.port_modPort_self ..

/-- A good frame carried out by a change that touches no link. -/
theorem carriedOut_apart {r : Reply} {ps : List Part} (hu : unchangedBut ps (s.heard k) u)
    (hport : Part.port k ∉ ps) (hhost : ∀ h, Part.host h ∉ ps) :
    carriedOut k (framePort s k r) ps s (u.setReply k r) := by
  refine carriedOut_heard ?_ (fun h _ => hu (.host h) (hhost h)) (hu.mono (by simp +contextual))
  rw [show u.port k = (s.heard k).port k from hu (.port k) hport, State.port_heard_self]
  rfl

/-- An order on the line that its selector names. -/
theorem onLine_named {line : Byte} {n : LineNo} (hn : line.toNat = n.val) (act : LineNo → State × Reply) :
    u.onLine line act = act n := by
  have : lineSel line = some n := by
    unfold lineSel
    rw [dif_pos (by omega)]
    exact congrArg some (Fin.ext hn)
  simp only [State.onLine, this]

/-- The parts that no port, host link or line shows. -/
def storeParts : List Part :=
  [.accounts, .records, .reservations, .serial, .clock, .tariff, .messages, .service, .params]

/-- A change of such parts. -/
theorem unchanged_write {ps : List Part} {a : List Account} {l : List ChargeRecord} {r n : Nat} {c : Clock} {f : Tariff}
    {m : Vector Slot 16} {o : Service} {v : Params} {s : State}
    (h : ∀ p ∈ storeParts, p ∉ ps → p.same s { s with
      accounts := a, records := l, reservations := r, serial := n, clock := c, tariff := f, messages := m,
      service := o, params := v }) :
    unchangedBut ps s { s with
      accounts := a, records := l, reservations := r, serial := n, clock := c, tariff := f, messages := m,
      service := o, params := v } := by
  intro p hp
  cases p with
  | session n => rfl
  | unit n => rfl
  | sup n => rfl
  | port k => cases k <;> rfl
  | host h => cases h <;> rfl
  | reset => rfl
  | time => exact ⟨rfl, rfl, rfl⟩
  | queue => rfl
  | _ => exact h _ (by decide) hp

/-! ### LINE READ and CLOCK READ -/

/-- Settles O25: both orders answer from the state as heard. -/
theorem lineAndClockReads : Obligations.LineAndClockReads := by
  intro k s hl
  refine ⟨fun line group n hn => ⟨fun d hd => ⟨_, rfl, takeOrder_onlyAnswers hl ?_⟩, fun hg =>
    ⟨_, rfl, takeOrder_onlyAnswers hl ?_⟩⟩, _, rfl, takeOrder_onlyAnswers hl ?_⟩
  · rw [onLine_named hn, State.ses_heard, hd]
    rfl
  · rw [onLine_named hn, State.ses_heard, Layouts.group_none _ hg]
    rfl
  · rw [State.clock_heard]
    rfl

/-! ### Account entries made and removed -/

/-- Settles O29: the entry is new, so it joins the ascending table in its place. -/
theorem accountCreateInserts : Obligations.AccountCreateInserts := by
  intro number s ht hl
  have hin : ¬maxAccount < number.toNat ↔ number.toNat ≤ 999999 := Nat.not_lt
  refine ⟨fun hbig => acct_answers rfl hl (if_pos hbig), fun hok ⟨e, he, hn⟩ => acct_answers rfl hl ?_,
    fun hok habs hfull => acct_answers rfl hl ?_, fun hok habs hroom => ?_⟩
  · rw [if_neg (hin.2 hok), account?_heard, if_pos ((account?_isSome_iff s _).2 ⟨e, he, hn⟩)]
    rfl
  · rw [if_neg (hin.2 hok), account?_heard, account?_eq_none_of s _ habs, State.accounts_heard, hfull]
    rfl
  · refine acct_order (u := { s.heard .acct with
      accounts := insertAccount (Account.fresh number.toNat) s.accounts }.setCursor .acct (some number.toNat)) (r := ⟨.ok, 0⟩)
      rfl hl ?_ ⟨?_, ?_, ?_, fun e => ?_⟩
    · rw [if_neg (hin.2 hok), account?_heard, account?_eq_none_of s _ habs, State.accounts_heard, if_neg (by simp),
        if_neg (by omega)]
      rfl
    · refine carriedOut_heard ?_ (by simp [Link.host?]) ?_
      · rfl
      · exact .trans (by exact unchanged_write (by simp [storeParts, Part.same])) (unchangedBut_setCursor _ _ (by simp))
    · exact Keeping.tableLaw_insert ht habs hroom hok
    · show (insertAccount (Account.fresh number.toNat) s.accounts).length = _
      rw [(Keeping.insertAccount_perm _ _).length_eq, List.length_cons]
    · show e ∈ insertAccount (Account.fresh number.toNat) s.accounts ↔ _
      rw [Keeping.mem_insertAccount, or_comm]
      rfl

/-- A cursor as ACCOUNT REMOVE leaves it (R112). -/
theorem cursorWithout_eq (number : Nat) (c : Option Nat) : cursorWithout number c = if c = some number then none else c :=
  rfl

/-- Settles O32: the entry goes, and every cursor that was on it. -/
theorem accountRemoveDeletes : Obligations.AccountRemoveDeletes := by
  intro s ht hl
  refine ⟨fun hc => acct_answers rfl hl (onCursor_empty (k := .acct) hc _), fun e he hc => ⟨fun hact => acct_answers rfl hl ?_,
    fun hzero => ?_⟩⟩
  · rw [onCursor_entry (k := .acct) ht he hc, if_pos hact]
    rfl
  · refine acct_order (u :=
      let gone := { s.heard .acct with accounts := s.accounts.filter fun x => x.number != e.number }
      let off := fun p : LinkPort => { p with cursor := cursorWithout e.number p.cursor }
      ((gone.modPort .hostA off).modPort .hostB off).modPort .acct off) (r := ⟨.ok, 0⟩) rfl hl ?_ ⟨?_, ?_, fun h => ?_, ?_⟩
    · rw [onCursor_entry (k := .acct) ht he hc, if_neg (by omega)]
      rfl
    · show s.accounts.filter _ = _
      refine List.filter_congr fun x _ => ?_
      by_cases hx : x.number = e.number <;> simp [hx]
    · show ({ framePort s .acct ⟨.ok, 0⟩ with cursor := cursorWithout e.number s.portAcct.cursor } : LinkPort) = _
      rw [hc, cursorWithout_eq, if_pos rfl]
    · cases h <;> rfl
    · refine .trans (unchangedBut_heard .acct s (by simp [frameParts, Link.host?])) (.trans ?_
        (unchangedBut_setReply _ _ _ (by simp)))
      refine .trans ?_ (unchangedBut_modPort _ _ (by simp))
      refine .trans ?_ (unchangedBut_modPort _ _ (by simp))
      exact .trans (by exact unchanged_write (by simp [storeParts, Part.same])) (unchangedBut_modPort _ _ (by simp))

/-! ### Charge records -/

/-- The fields of a record in the order of their codes (R155). -/
theorem chargeField_eq (r : ChargeRecord) {code : Nat} {d : Word32}
    (h : [BitVec.ofNat 32 r.serial, BitVec.ofNat 32 r.line.val, BitVec.ofNat 32 (r.account.getD 0),
          BitVec.ofNat 32 r.cls.val, BitVec.ofNat 32 (numberIn rateNumbers r.rate),
          BitVec.ofNat 32 (numberIn hostNumbers r.firstHost), BitVec.ofNat 32 (numberIn hostNumbers r.lastHost),
          BitVec.ofNat 32 r.adoptions, stampBytes r.start, stampBytes r.stop,
          BitVec.ofNat 32 r.bandSecs[0], BitVec.ofNat 32 r.bandSecs[1], BitVec.ofNat 32 r.bandSecs[2],
          BitVec.ofNat 32 r.bandSecs[3], BitVec.ofNat 32 r.heldSecs, BitVec.ofNat 32 r.fee,
          BitVec.ofNat 32 r.debited, BitVec.ofNat 32 r.overdraft,
          BitVec.ofNat 32 (numberIn causeNumbers r.cause)][code]? = some d) : r.field code = some d := by
  have hlt : code < 19 := (List.getElem?_eq_some_iff.1 h).1
  rw [← h]
  simp only [← Layouts.rateCode_number, ← Layouts.hostCode_number, ← Layouts.causeCode_number, ← Layouts.stampLayout_eq]
  interval_cases code <;> rfl

/-- Settles O33: the orders look at the front of the queue. -/
theorem chargeOrders : Obligations.ChargeOrders := by
  intro s hl
  refine ⟨fun field hf => acct_answers rfl hl (if_pos hf), fun hnil => ⟨fun field hf => acct_answers rfl hl ?_,
    acct_answers rfl hl ?_⟩, fun r rest hrec => ⟨fun field d hd => acct_answers rfl hl ?_, ?_⟩⟩
  · rw [if_neg (by omega), State.records_heard, hnil]
    rfl
  · rw [State.records_heard, hnil]
    rfl
  · have hlt : field.toNat < 19 := (List.getElem?_eq_some_iff.1 hd).1
    rw [if_neg (by omega), State.records_heard, hrec]
    simp only [chargeField_eq r hd]
    rfl
  · refine acct_order (u := { s.heard .acct with records := rest }) (r := okWith (words16 r.serial 0)) rfl hl ?_
      ⟨rfl, carriedOut_apart (by exact unchanged_write (by simp [storeParts, Part.same])) (by simp) (by simp)⟩
    rw [State.records_heard, hrec]

/-! ### Clock and tariff -/

theorem unchanged_modTariff (f : Tariff → Tariff) (s : State) : unchangedBut [.tariff] s (s.modTariff f) :=
  by exact unchanged_write (by simp [storeParts, Part.same])

/-- An order that writes the tariff, on the accounting link. -/
theorem acct_tariff {i : Instr} {order : State → State × Reply} {f : Tariff → Tariff}
    (hi : exec i s = .next (s.acctOrder .acct order)) (hl : listens s .acct)
    (ho : order (s.heard .acct) = ((s.heard .acct).modTariff f, ⟨.ok, 0⟩)) :
    ∃ t, exec i s = .next t ∧ t.tariff = f s.tariff ∧ carriedOut .acct (framePort s .acct ⟨.ok, 0⟩) [.tariff] s t :=
  acct_order hi hl ho ⟨rfl, carriedOut_apart (unchanged_modTariff f _) (by simp) (by simp)⟩

theorem clockSet_law (minute : BitVec 16) (second : Byte) (hl : listens s .acct) :
    (10079 < minute.toNat ∨ 59 < second.toNat →
      ∃ t, exec (.clockSet .acct minute second) s = .next t ∧ onlyAnswers .acct ⟨.badArgument, 0⟩ s t) ∧
    (minute.toNat ≤ 10079 → second.toNat ≤ 59 →
      ∃ t, exec (.clockSet .acct minute second) s = .next t ∧ t.clock = ⟨true, minute.toNat, second.toNat, 0⟩ ∧
        carriedOut .acct (framePort s .acct ⟨.ok, 0⟩) [.clock] s t) := by
  refine ⟨fun h => acct_answers rfl hl (if_pos h), fun hm hs => acct_order
    (u := { s.heard .acct with clock := ⟨true, minute.toNat, second.toNat, 0⟩ }) (r := ⟨.ok, 0⟩) rfl hl (if_neg (by omega))
    ⟨rfl, carriedOut_apart (by exact unchanged_write (by simp [storeParts, Part.same])) (by simp) (by simp)⟩⟩

/-- The items of a class that CLASS SET writes (R130). -/
theorem withItem_none {p : PendingClass} {item v : Nat}
    (h : 3 < item ∨ item = 0 ∧ 31 < v ∨ item = 1 ∧ 3 < v ∨ item = 2 ∧ 1 < v ∨ item = 3 ∧ 255 < v) :
    p.withItem item v = none := by
  rcases h with h | ⟨rfl, h⟩ | ⟨rfl, h⟩ | ⟨rfl, h⟩ | ⟨rfl, h⟩
  · unfold PendingClass.withItem
    split <;> first | omega | rfl
  · exact if_neg (by omega)
  · have : formatOfCode v = none := by
      unfold formatOfCode
      split <;> first | omega | rfl
    simp [PendingClass.withItem, this]
  · exact if_neg (by omega)
  · exact if_neg (by omega)

theorem setIfInBounds_eq_set {α : Type} {m : Nat} (v : Vector α m) (a : α) {i j : Nat} (hij : i = j) (h : j < m) :
    v.setIfInBounds i a = v.set j a := by
  subst hij
  ext
  simp [Vector.getElem_setIfInBounds, Vector.getElem_set]

theorem tariffOrders (hl : listens s .acct) :
    (∀ (sel : Byte) (rate : Word32), 3 < sel.toNat / 16 ∨ 3 < sel.toNat % 16 ∨ 65535 < rate.toNat →
      ∃ t, exec (.tariffSet .acct sel rate) s = .next t ∧ onlyAnswers .acct ⟨.badArgument, 0⟩ s t) ∧
    (∀ (sel : Byte) (rate : Word32) (band cls : Fin 4), sel.toNat = 16 * band.val + cls.val → rate.toNat ≤ 65535 →
      ∃ t, exec (.tariffSet .acct sel rate) s = .next t ∧
        t.tariff = { s.tariff with
          pendingRates := s.tariff.pendingRates.set (4 * band.val + cls.val) (some rate.toNat) } ∧
        carriedOut .acct (framePort s .acct ⟨.ok, 0⟩) [.tariff] s t) ∧
    (∀ (hour : Byte) (band : Word32), 167 < hour.toNat ∨ 3 < band.toNat →
      ∃ t, exec (.bandSet .acct hour band) s = .next t ∧ onlyAnswers .acct ⟨.badArgument, 0⟩ s t) ∧
    ∀ (hour : Byte) (value : Word32) (band : Fin 4) (hh : hour.toNat < 168), value.toNat = band.val →
      ∃ t, exec (.bandSet .acct hour value) s = .next t ∧
        t.tariff = { s.tariff with pendingBands := s.tariff.pendingBands.set hour.toNat (some band) } ∧
        carriedOut .acct (framePort s .acct ⟨.ok, 0⟩) [.tariff] s t := by
  refine ⟨fun sel rate h => acct_answers rfl hl (if_pos h), fun sel rate band cls hsel hr => ?_,
    fun hour band h => acct_answers rfl hl (if_pos h), fun hour value band hh hv => ?_⟩
  · have hb := band.isLt
    have hc := cls.isLt
    have hentry : 4 * band.val + cls.val < 16 := by omega
    refine acct_tariff (f := fun u =>
      { u with pendingRates := u.pendingRates.set (4 * band.val + cls.val) (some rate.toNat) hentry }) rfl hl ?_
    rw [if_neg (by omega)]
    simp only [setIfInBounds_eq_set _ _ (show 4 * (sel.toNat / 16) + sel.toNat % 16 = 4 * band.val + cls.val by omega)
      hentry]
    rfl
  · have hb := band.isLt
    refine acct_tariff (f := fun u => { u with pendingBands := u.pendingBands.set hour.toNat (some band) }) rfl hl ?_
    rw [if_neg (by omega)]
    have hband : Fin.ofNat 4 value.toNat = band := Fin.ext (by simp only [Fin.ofNat]; omega)
    simp only [setIfInBounds_eq_set _ _ rfl hh, hband]
    rfl

theorem classSet_law (sel : Byte) (value : Word32) (hl : listens s .acct) :
    (3 < sel.toNat / 16 ∨ 3 < sel.toNat % 16 ∨ sel.toNat % 16 = 0 ∧ 31 < value.toNat ∨
        sel.toNat % 16 = 1 ∧ 3 < value.toNat ∨ sel.toNat % 16 = 2 ∧ 1 < value.toNat ∨
        sel.toNat % 16 = 3 ∧ 255 < value.toNat →
      ∃ t, exec (.classSet .acct sel value) s = .next t ∧ onlyAnswers .acct ⟨.badArgument, 0⟩ s t) ∧
    ∀ (cls : Fin 4) (item : Nat) (p : PendingClass), sel.toNat = 16 * cls.val + item → item < 4 →
      s.tariff.pendingClasses[cls.val].withItem item value.toNat = some p →
      ∃ t, exec (.classSet .acct sel value) s = .next t ∧
        t.tariff = { s.tariff with pendingClasses := s.tariff.pendingClasses.set cls.val p } ∧
        carriedOut .acct (framePort s .acct ⟨.ok, 0⟩) [.tariff] s t := by
  refine ⟨fun h => acct_answers rfl hl ?_, fun cls item p hsel hitem hp => ?_⟩
  · by_cases hcls : sel.toNat / 16 < 4
    · rw [State.tariff_heard, Vector.getElem?_eq_getElem hcls]
      simp only [withItem_none (h.resolve_left (by omega))]
      rfl
    · rw [State.tariff_heard, Vector.getElem?_eq_none (by omega)]
      rfl
  · have hc := cls.isLt
    refine acct_tariff (f := fun u => { u with pendingClasses := u.pendingClasses.set cls.val p }) rfl hl ?_
    have hdiv : sel.toNat / 16 = cls.val := by omega
    have hmod : sel.toNat % 16 = item := by omega
    rw [State.tariff_heard, hdiv, hmod, Vector.getElem?_eq_getElem hc]
    simp only [hp, setIfInBounds_eq_set _ _ rfl hc]
    rfl

/-- Settles O34: an order in range writes one item of its table. -/
theorem clockAndTariffOrders : Obligations.ClockAndTariffOrders := by
  refine ⟨fun minute second s hl => clockSet_law minute second hl, fun s hl => tariffOrders hl, fun sel value s hl => ?_⟩
  obtain ⟨hbad, hgood⟩ := classSet_law sel value hl
  refine ⟨hbad, fun cls p h => ?_⟩
  rcases h with ⟨hsel, hv, rfl⟩ | ⟨f, hsel, hv, rfl⟩ | ⟨hsel, hv, rfl⟩ | ⟨hsel, hv, rfl⟩
  · refine hgood cls 0 _ hsel (by decide) ?_
    have : BitVec.ofNat 5 value.toNat = value.setWidth 5 := by
      apply BitVec.eq_of_toNat_eq
      simp
    rw [PendingClass.withItem, if_pos (by omega), this]
  · refine hgood cls 1 _ hsel (by decide) ?_
    have hlt : value.toNat < 4 := (List.getElem?_eq_some_iff.1 hv).1
    have hcode : formatOfCode value.toNat = some f := by
      rw [← hv]
      generalize value.toNat = v at hlt
      interval_cases v <;> rfl
    rw [PendingClass.withItem, hcode]
    rfl
  · refine hgood cls 2 _ hsel (by decide) ?_
    have : (value.toNat == 1) = (value == 1) := by
      rw [Bool.eq_iff_iff, beq_iff_eq, beq_iff_eq, ← BitVec.toNat_inj]
      rfl
    rw [PendingClass.withItem, if_pos hv, this]
  · exact hgood cls 3 _ hsel (by decide) (if_pos hv)

end Sys2Proof.Stations
end

section
/-! PROOFS. MESSAGE WRITE, PARAM SET, and the Supervision Unit's records. -/

namespace Sys2Proof.Supervision


open Sys2Proof.Machine Sys2Proof.AccountOrders Sys2Proof.Stations

variable {s u : State} {k : Link}

/-! ### Message slots (R34) -/

/-- The characters that a write stores: those up to the first 0 that fall at a position of 63 or below. -/
def stored (pos : Nat) (cs : List Byte) : List Byte := (cs.take (64 - pos)).takeWhile fun c => c ≠ 0

theorem stored_full {pos : Nat} (h : 64 ≤ pos) (cs : List Byte) : stored pos cs = [] := by
  simp [stored, show 64 - pos = 0 by omega]

theorem stored_cons {pos : Nat} (h : pos < 64) (c : Byte) (cs : List Byte) :
    stored pos (c :: cs) = if c = 0 then [] else c :: stored (pos + 1) cs := by
  rw [stored, show 64 - pos = (64 - (pos + 1)) + 1 by omega, List.take_succ_cons, List.takeWhile_cons]
  by_cases hc : c = 0 <;> simp [hc, stored]

/-- A write beyond the last position drops every character. -/
theorem write_full (cs : List Byte) (t : Slot) {pos : Nat} (hpos : 64 ≤ pos) :
    t.write pos cs = ({ t with length := 64 }, !cs.isEmpty) := by
  induction cs generalizing pos with
  | nil => simp [Slot.write, hpos]
  | cons c cs ih =>
    unfold Slot.write
    rw [if_pos (by omega), ih (by omega)]
    rfl

theorem write_zero (cs : List Byte) (t : Slot) {pos : Nat} (hpos : pos < 64) :
    t.write pos (0 :: cs) = ({ t with length := pos }, false) := by
  unfold Slot.write
  rw [if_neg (by omega), if_pos rfl]

theorem write_char {c : Byte} (hc : c ≠ 0) (cs : List Byte) (t : Slot) {pos : Nat} (hpos : pos < 64) :
    t.write pos (c :: cs) = { t with text := t.text.setIfInBounds pos c }.write (pos + 1) cs := by
  conv_lhs => unfold Slot.write
  rw [if_neg (by omega), if_neg hc]

/-- A write of characters from a position (R34): what is stored, the length, and whether a character was dropped. -/
theorem write_stored (cs : List Byte) (t : Slot) {pos : Nat} (hpos : pos ≤ 64) :
    (t.write pos cs).1.length = pos + (stored pos cs).length ∧
    (∀ q : Fin 64, (t.write pos cs).1.text[q.val] =
      if pos ≤ q.val then ((stored pos cs)[q.val - pos]?).getD t.text[q.val] else t.text[q.val]) ∧
    ((t.write pos cs).2 = true ↔ 64 < pos + cs.length ∧ pos + (stored pos cs).length = 64) := by
  induction cs generalizing t pos with
  | nil => simp [Slot.write, stored, hpos]
  | cons c cs ih =>
    rcases hpos.eq_or_lt with rfl | hlt
    · simp [write_full (c :: cs) t (le_refl 64), stored_full (le_refl 64)]
    · have hstored := stored_cons hlt c cs
      by_cases hc : c = 0
      · subst hc
        rw [if_pos rfl] at hstored
        simp only [write_zero cs t hlt, hstored]
        simp
        omega
      · rw [if_neg hc] at hstored
        simp only [write_char hc cs t hlt]
        obtain ⟨hlen, htext, hdrop⟩ := ih { t with text := t.text.setIfInBounds pos c } (pos := pos + 1) hlt
        refine ⟨?_, fun q => ?_, ?_⟩
        · rw [hlen, hstored, List.length_cons]
          omega
        · have hother : q.val ≠ pos → (t.text.setIfInBounds pos c)[q.val] = t.text[q.val] := fun h =>
            Vector.getElem_setIfInBounds_ne _ h.symm
          rw [htext q, hstored]
          rcases lt_trichotomy pos q.val with h | h | h
          · obtain ⟨d, hd⟩ : ∃ d, q.val - pos = d + 1 := ⟨q.val - pos - 1, by omega⟩
            rw [if_pos (show pos + 1 ≤ q.val from h), if_pos h.le, hd, List.getElem?_cons_succ,
              show q.val - (pos + 1) = d by omega, hother (by omega)]
          · subst h
            simp
          · rw [if_neg (by omega), if_neg (by omega), hother (by omega)]
        · rw [hdrop, hstored]
          simp only [List.length_cons]
          omega

/-- Settles O35: the slot is written as `stored` says, the other slots stand. -/
theorem messageWriteStores : Obligations.MessageWriteStores := by
  intro slot start c1 c2 c3 s hl
  refine ⟨fun h => acct_answers rfl hl ?_, fun i chars hslot hstart hchars => ?_⟩
  · by_cases hslot : slot.toNat < 16
    · rw [State.messages_heard, Vector.getElem?_eq_getElem hslot]
      simp only [if_pos (h.resolve_left (by omega))]
      rfl
    · rw [State.messages_heard, Vector.getElem?_eq_none (by omega)]
      rfl
  · obtain ⟨hlen, htext, hdrop⟩ := write_stored [c1, c2, c3] s.messages[i.val] (pos := start.toNat) (by omega)
    have hst : stored start.toNat [c1, c2, c3] = chars := by rw [hchars]; rfl
    rw [hst] at hlen htext hdrop
    refine acct_order (u := { s.heard .acct with
        messages := s.messages.set i.val (s.messages[i.val].write start.toNat [c1, c2, c3]).1 })
      (r := ⟨if 61 < start.toNat ∧ start.toNat + chars.length = 64 then .clamped else .ok, 0⟩) rfl hl ?_
      ⟨fun j hj => ?_, ?_, fun q => ?_, carriedOut_apart (by exact unchanged_write (by simp [storeParts, Part.same])) (by simp) (by simp)⟩
    · rw [State.messages_heard, hslot, Vector.getElem?_eq_getElem i.isLt]
      simp only [if_neg (Nat.not_lt.2 hstart), setIfInBounds_eq_set _ _ rfl i.isLt]
      refine congrArg (Prod.mk _) ?_
      have hiff : (s.messages[i.val].write start.toNat [c1, c2, c3]).2 = true ↔
          61 < start.toNat ∧ start.toNat + chars.length = 64 := by
        rw [hdrop, List.length_cons, List.length_cons, List.length_singleton]
        omega
      simp only [okOrClamped, replyOf, hiff]
    · exact Vector.getElem_set_ne i.isLt j.isLt (fun h => hj (Fin.ext h.symm))
    · exact (congrArg Slot.length (Vector.getElem_set_self i.isLt)).trans hlen
    · exact (congrArg (fun m : Slot => m.text[q.val]) (Vector.getElem_set_self i.isLt)).trans (htext q)

/-! ### Parameters (R180) -/

theorem paramRange_eq (code : Nat) : paramRange code = paramRanges[code]? := by
  by_cases h : code < 18
  · interval_cases code <;> rfl
  · rw [List.getElem?_eq_none (by simpa [paramRanges] using h)]
    unfold paramRange
    split <;> first | omega | rfl

/-- A parameter is written alone (R180). -/
theorem paramValue_write (p : Params) {code j v : Nat} (hj : j < 18) (hcode : code < 18) (hv : code = 17 → v ≤ 3) :
    paramValue (p.write code v) j = if j = code then v else paramValue p j := by
  by_cases hjc : j = code
  · subst hjc
    rw [if_pos rfl]
    by_cases h17 : j = 17
    · subst h17
      have hv3 := hv rfl
      interval_cases v <;> rfl
    · interval_cases j <;> first | rfl | omega
  · rw [if_neg hjc]
    interval_cases code <;> interval_cases j <;> first | rfl | omega

/-- Settles O36: the value written is the value clamped, and it alone is written. -/
theorem paramSetClamps : Obligations.ParamSetClamps := by
  intro code value s hl
  refine ⟨fun h => acct_answers rfl hl ?_, fun lo hi v hrange hv => ?_⟩
  · rw [paramRange_eq, List.getElem?_eq_none (Nat.succ_le_of_lt h)]
    rfl
  · have hcode : code.toNat < 18 := (List.getElem?_eq_some_iff.1 hrange).1
    have h17 : code.toNat = 17 → v ≤ 3 := by
      intro h
      rw [h] at hrange
      cases hrange
      omega
    refine acct_order (u := { s.heard .acct with params := s.params.write code.toNat v })
      (r := ⟨if v = value.toNat then .ok else .clamped, BitVec.ofNat 32 v⟩) rfl hl ?_
      ⟨fun j hj => paramValue_write s.params hj hcode h17, carriedOut_apart (by exact unchanged_write (by simp [storeParts, Part.same])) (by simp) (by simp)⟩
    rw [paramRange_eq, hrange, hv, State.params_heard]
    rfl

/-! ### The supervision records of a line -/

/-- An order on the line that its selector names, on the accounting link. -/
theorem acct_line {i : Instr} {line : Byte} {n : LineNo} {act : State → LineNo → State × Reply} {r : Reply}
    {P : State → Prop} (hi : exec i s = .next (s.acctOrder .acct fun t => t.onLine line fun m => act t m))
    (hn : line.toNat = n.val) (hl : listens s .acct) (ho : act (s.heard .acct) n = (u, r)) (hP : P (u.setReply .acct r)) :
    ∃ t, exec i s = .next t ∧ P t :=
  acct_order hi hl ((onLine_named hn _).trans ho) hP

theorem acct_line_answers {i : Instr} {line : Byte} {n : LineNo} {act : State → LineNo → State × Reply} {r : Reply}
    (hi : exec i s = .next (s.acctOrder .acct fun t => t.onLine line fun m => act t m)) (hn : line.toNat = n.val)
    (hl : listens s .acct) (ho : act (s.heard .acct) n = (s.heard .acct).answered r) :
    ∃ t, exec i s = .next t ∧ onlyAnswers .acct r s t :=
  acct_line hi hn hl ho (onlyAnswers_heard .acct s r)

/-- An order that writes the Supervision Unit's fields of a line. -/
theorem acct_line_sup {i : Instr} {line : Byte} {n : LineNo} {act : State → LineNo → State × Reply} {r : Reply}
    {f : Supervised → Supervised} {v : Supervised}
    (hi : exec i s = .next (s.acctOrder .acct fun t => t.onLine line fun m => act t m)) (hn : line.toNat = n.val)
    (hl : listens s .acct) (ho : act (s.heard .acct) n = ((s.heard .acct).modSup n f, r)) (hv : f (s.sup n) = v) :
    ∃ t, exec i s = .next t ∧ t.sup n = v ∧ carriedOut .acct (framePort s .acct r) [.sup n] s t :=
  acct_line hi hn hl ho ⟨by rw [sup_setReply, State.sup_modSup_self, State.sup_heard, hv],
    carriedOut_apart (unchangedBut_modSup f _ (by simp)) (by simp) (by simp)⟩

theorem statistic_eq (x : LineUnit) (field : Nat) :
    State.statistic x field = [x.callsAnswered, x.falseRings, x.charErrors, x.overruns][field]? := by
  unfold State.statistic
  split
  · rfl
  · rfl
  · rfl
  · rfl
  next h0 h1 h2 h3 =>
    exact (List.getElem?_eq_none (by
      have : field ≠ 0 ∧ field ≠ 1 ∧ field ≠ 2 ∧ field ≠ 3 := ⟨h0, h1, h2, h3⟩
      simp only [List.length_cons, List.length_nil]
      omega)).symm

theorem zeroStatistic_eq (x : LineUnit) (field : Byte) :
    State.zeroStatistic x field.toNat = { x with
      callsAnswered := if field = 0 then 0 else x.callsAnswered
      falseRings := if field = 1 then 0 else x.falseRings
      charErrors := if field = 2 then 0 else x.charErrors
      overruns := if field = 3 then 0 else x.overruns } := by
  have hval : ∀ v : Byte, field = v ↔ field.toNat = v.toNat := fun v => BitVec.toNat_inj.symm
  simp only [hval]
  unfold State.zeroStatistic
  split <;> rename_i h <;> simp_all

/-! ### FAULT NEXT (R162) -/

theorem allLines_sorted : allLines.Pairwise (· < ·) := by decide

/-- The search of the lines finds the lowest that passes a test. -/
theorem find?_lines {p : LineNo → Bool} {n : LineNo} (hp : p n = true) (hlow : ∀ m, p m = true → n ≤ m) :
    allLines.find? p = some n := by
  obtain ⟨before, after, heq⟩ := List.append_of_mem (State.mem_allLines n)
  refine List.find?_eq_some_iff_append.2 ⟨hp, before, after, heq, fun m hm => ?_⟩
  have hsorted := allLines_sorted
  rw [heq] at hsorted
  have hlt : m < n := (List.pairwise_append.1 hsorted).2.2 m hm n (by simp)
  rw [Bool.not_eq_true', Bool.eq_false_iff]
  exact fun hpm => absurd (hlow m hpm) (not_le.2 hlt)

theorem find?_lines_none {p : LineNo → Bool} (h : ∀ n, p n = false) : allLines.find? p = none :=
  List.find?_eq_none.2 fun n _ => by simp [h n]

/-- A fault of a kind that no line reports does not answer FAULT NEXT; the first kind reported does, at its lowest
line. -/
theorem nextFault_eq {n : LineNo} {c : FaultKind} (hn : reportable s n c = true)
    (hkind : ∀ d : FaultKind, d.code < c.code → ∀ m, reportable s m d = false)
    (hline : ∀ m, reportable s m c = true → n ≤ m) : nextFault s = some (n, c) := by
  have hfound : (allLines.find? fun m => reportable s m c).map (fun m => (m, c)) = some (n, c) := by
    rw [find?_lines hn hline]
    rfl
  have hsplit : ∀ before after : List FaultKind, faultKinds = before ++ c :: after →
      (∀ d ∈ before, d.code < c.code) → nextFault s = some (n, c) := by
    intro before after heq hlt
    refine List.findSome?_eq_some_iff.2 ⟨before, c, after, heq, hfound, fun d hd => ?_⟩
    rw [find?_lines_none (hkind d (hlt d hd))]
    rfl
  cases c
  · exact hsplit [] _ rfl (by simp)
  · exact hsplit [.modemLost] _ rfl (by decide)
  · exact hsplit [.modemLost, .modemAbsent] _ rfl (by decide)
  · exact hsplit [.modemLost, .modemAbsent, .noCarrier] _ rfl (by decide)

theorem faultKind_of_code {i : Nat} (hi : i < 4) : ∃ c : FaultKind, c.code = i := by
  interval_cases i
  exacts [⟨.modemLost, rfl⟩, ⟨.modemAbsent, rfl⟩, ⟨.noCarrier, rfl⟩, ⟨.speedFail, rfl⟩]

theorem faultCode_lt (c : FaultKind) : c.code < 4 := by cases c <;> decide

theorem reportable_heard (s : State) (n : LineNo) (c : FaultKind) : reportable (s.heard k) n c = reportable s n c := by
  simp [reportable]

/-- FAULT NEXT with no flag to report, and with one of lowest priority number and lowest line. -/
theorem faultNext_law (hl : listens s .acct) :
    ((∀ n i, i < 4 → (s.sup n).faults.getLsbD i = true → (s.sup n).masks.getLsbD i = true) →
      ∃ t, exec (.faultNext .acct) s = .next t ∧ onlyAnswers .acct ⟨.empty, 0⟩ s t) ∧
    ∀ (n : LineNo) (i : Nat), i < 4 → (s.sup n).faults.getLsbD i = true → (s.sup n).masks.getLsbD i = false →
      (∀ m j, j < 4 → (s.sup m).faults.getLsbD j = true → (s.sup m).masks.getLsbD j = false →
        i < j ∨ i = j ∧ n ≤ m) →
      ∃ t, exec (.faultNext .acct) s = .next t ∧
        onlyAnswers .acct ⟨.ok, BitVec.ofNat 8 n.val ++ BitVec.ofNat 8 i ++ (0 : Byte) ++ (0 : Byte)⟩ s t := by
  refine ⟨fun hmasked => acct_answers rfl hl ?_, fun n i hi hset hopen hfirst => acct_answers rfl hl ?_⟩
  · have hnone : nextFault (s.heard .acct) = none := by
      rw [← Option.not_isSome_iff_eq_none, Frames.nextFault_isSome]
      rintro ⟨n, i, hi, hset, hopen⟩
      rw [State.sup_heard] at hset hopen
      rw [hmasked n i hi hset] at hopen
      cases hopen
    simp only [hnone]
    rfl
  · obtain ⟨c, rfl⟩ := faultKind_of_code hi
    have hnext : nextFault (s.heard .acct) = some (n, c) := by
      refine nextFault_eq ?_ (fun d hd m => ?_) fun m hm => ?_
      · rw [reportable_heard, Frames.reportable_iff]
        exact ⟨hset, hopen⟩
      · rw [reportable_heard, Bool.eq_false_iff]
        intro hm
        rw [Frames.reportable_iff] at hm
        rcases hfirst m d.code (faultCode_lt d) hm.1 hm.2 with h | ⟨h, -⟩ <;> omega
      · rw [reportable_heard, Frames.reportable_iff] at hm
        rcases hfirst m c.code hi hm.1 hm.2 with h | ⟨-, h⟩
        · omega
        · exact h
    simp only [hnext]
    rfl

/-- Settles O37: each order writes its one record; FAULT NEXT finds the first flag of the faults' order. -/
theorem supervisionRecords : Obligations.SupervisionRecords := by
  refine ⟨fun line field bits cls n s hn hl => ⟨fun h => acct_line_answers rfl hn hl (if_pos h), fun c hc => ?_,
    fun h => acct_line_answers rfl hn hl ?_, fun v hv => ?_, ?_, ?_⟩, fun s hl => faultNext_law hl⟩
  · have hcls : Fin.ofNat 4 cls.toNat = c := Fin.ext (by simp only [Fin.ofNat]; omega)
    refine acct_line_sup (f := fun u => { u with configured := c }) (r := ⟨.ok, 0⟩) rfl hn hl ?_ rfl
    rw [if_neg (by omega), hcls]
    rfl
  · rw [statistic_eq, List.getElem?_eq_none h]
    rfl
  · refine acct_line (u := (s.heard .acct).modUnit n fun u => State.zeroStatistic u field.toNat)
      (r := okWith (wordOf v)) rfl hn hl ?_ ⟨?_, carriedOut_apart (unchangedBut_modUnit _ _ (by simp)) (by simp) (by simp)⟩
    · rw [statistic_eq, State.unit_heard, hv]
    · rw [unit_setReply, State.unit_modUnit_self, State.unit_heard, zeroStatistic_eq]
  · obtain ⟨t, ht, hsup, hc⟩ := acct_line_sup (i := .faultClear .acct line bits)
      (f := fun u => { u with faults := u.faults &&& ~~~(bits.setWidth 4) }) (r := ⟨.ok, 0⟩) rfl hn hl rfl rfl
    refine ⟨t, _, ht, hsup, fun i hi => ?_, hc⟩
    simp [hi]
  · obtain ⟨t, ht, hsup, hc⟩ := acct_line_sup (i := .faultMask .acct line bits)
      (f := fun u => { u with masks := bits.setWidth 4 }) (r := ⟨.ok, 0⟩) rfl hn hl rfl rfl
    refine ⟨t, _, ht, hsup, fun i hi => ?_, hc⟩
    simp [hi]

end Sys2Proof.Supervision
end

section
/-! PROOFS. LINE ENABLE, LINE DISABLE and LINE CLEAR on lines with no call, and the end of the settle time. -/

namespace Sys2Proof.LineControl


open Sys2Proof.Machine Sys2Proof.Stations Sys2Proof.Supervision Sys2Proof.Clears

variable {s u : State} {n : LineNo}

/-! ### Notices and fault flags -/

/-- The port of a link to which a notice is posted depends on that port and the link's state alone (R177). -/
theorem port_postNotice_self (s : State) (k : Link) (m : Notice) :
    (s.postNotice k m).port k =
      if suppresses k (s.port k).mask m || !s.reachable k then s.port k
      else if noticeRoom k ≤ (s.port k).notices.length then { s.port k with lost := true }
      else { s.port k with notices := (s.port k).notices ++ [m] } := by
  unfold State.postNotice
  by_cases h1 : suppresses k (s.port k).mask m = true
  · simp [h1]
  by_cases h2 : s.reachable k = true
  · by_cases h3 : noticeRoom k ≤ (s.port k).notices.length <;> simp [h1, h2, h3, State.queueFull, State.pushNotice]
  · simp [h1, h2]

theorem port_postNotice_congr {t : State} {k : Link} (hp : t.port k = s.port k)
    (hu : ∀ h, k.host? = some h → (t.host h).up = (s.host h).up) (m : Notice) :
    (t.postNotice k m).port k = (s.postNotice k m).port k := by
  have hr : t.reachable k = s.reachable k := by
    unfold State.reachable
    split
    next h hk => exact hu h hk
    · rfl
  rw [port_postNotice_self, port_postNotice_self, hp, hr]

theorem portAcct_postNotice_congr {t : State} (hp : t.portAcct = s.portAcct) (m : Notice) :
    (t.postNotice .acct m).portAcct = (s.postNotice .acct m).portAcct :=
  port_postNotice_congr (k := .acct) hp (fun _ h => nomatch h) m

theorem unchanged_postNotice {ps : List Part} (k : Link) (m : Notice) (s : State) (hk : Part.port k ∈ ps) :
    unchangedBut ps s (s.postNotice k m) := by
  unfold State.postNotice
  exact unchanged_ite (fun _ => unchangedBut_refl _ s) fun _ => unchanged_ite (fun _ => unchangedBut_refl _ s) fun _ =>
    unchanged_ite (fun _ => unchangedBut_modPort _ s hk) fun _ => unchangedBut_modPort _ s hk

/-- A fault flag raised (R159). -/
theorem raiseFault_law (s : State) (n : LineNo) (c : FaultKind) :
    (raiseFault s n c).sup n = { s.sup n with faults := (s.sup n).faults ||| BitVec.ofNat 4 (2 ^ c.code) } ∧
    (raiseFault s n c).portAcct = faultReported s n c c.code ∧
    unchangedBut [.sup n, .port .acct] s (raiseFault s n c) := by
  unfold raiseFault faultReported
  by_cases hset : (s.sup n).faults.getLsbD c.code = true
  · have hsame : (s.sup n).faults ||| BitVec.ofNat 4 (2 ^ c.code) = (s.sup n).faults := by
      generalize (s.sup n).faults = v at hset ⊢
      revert hset
      cases c <;> revert v <;> decide
    rw [if_pos hset, if_neg (by simp [hset]), hsame]
    exact ⟨rfl, rfl, unchangedBut_refl _ s⟩
  · by_cases hmask : (s.sup n).masks.getLsbD c.code = true
    · simp [hset, hmask, unchangedBut_modSup]
    · simp only [hset, hmask, Bool.false_eq_true, if_false, and_self, if_true, State.sup_postNotice,
        State.sup_modSup_self, true_and]
      exact ⟨portAcct_postNotice_congr (State.portAcct_modSup ..) _, (unchangedBut_modSup _ _ (by simp)).trans
        (unchanged_postNotice _ _ _ (by simp))⟩

/-! ### Coming to rest -/

/-- An OUT_OF_SERVICE entry (R19, R31). -/
theorem outEntry_law (s : State) (n : LineNo) :
    (s.outEntry n).ses n = outRecord (s.ses n) ∧
    (s.outEntry n).unit n = { s.unit n with
      ans := false, trdy := false, ring := .reset, carrier := .stopped, speed := .stopped, receiver := .stopped,
      transmitter := .idle, flow := none, modem := .stopped } ∧
    drainJudged n s (s.outEntry n) ∧ unchangedBut (restParts n) s (s.outEntry n) := by
  unfold State.outEntry
  refine ⟨by simp [outRecord], by simp, ?_, ?_⟩
  · apply State.drainJudged_judgeDrained
    · rfl
    · rfl
    · simp [Session.reset]
    · intro m hm
      simp [State.ses_modSes_ne, hm]
  · exact State.judgeDrained_unch _ ((rest_ses _ s).trans (rest_unit _ _)) (by simp [restParts]) (by simp [restParts])

/-- An IDLE entry (R4, R31, R40). -/
theorem idleEntry_law (s : State) (n : LineNo) :
    (s.idleEntry n).ses n = idleRecord (s.ses n) ∧
    (∃ d : Ring, d.cond = ringStart s n ∧ (s.idleEntry n).unit n = { s.unit n with
      trdy := true, transmitter := .idle, flow := none, ring := d }) ∧
    drainJudged n s (s.idleEntry n) ∧ unchangedBut (restParts n) s (s.idleEntry n) := by
  unfold State.idleEntry State.startRing
  refine ⟨by simp [idleRecord], ⟨_, ?_, by simp; rfl⟩, ?_, ?_⟩
  · unfold ringStart
    by_cases h : s.service = .opened
    · simp [h, Ring.afresh]
    · simp [h, Ring.reset]
  · apply State.drainJudged_judgeDrained
    · rfl
    · rfl
    · simp
    · intro m hm
      simp [State.ses_modSes_ne, hm]
  · exact State.judgeDrained_unch _ (((rest_ses _ s).trans (rest_unit _ _)).trans (rest_unit _ _)) (by simp [restParts])
      (by simp [restParts])

/-! ### LINE DISABLE and LINE CLEAR (R164, R165) -/

theorem restParts_heard (hu : unchangedBut (restParts n) (s.heard .acct) u) (r : Reply) :
    unchangedBut (restParts n) s (u.setReply .acct r) :=
  ((unchangedBut_heard .acct s (by simp [frameParts, Link.host?, restParts])).trans hu).trans
    (unchangedBut_setReply _ _ _ (by simp [restParts]))

theorem settling_iff (s : State) (n : LineNo) :
    s.settling n = true ↔ (s.ses n).state = .outOfService ∧ (s.ses n).stateTimer ≠ .stopped := by
  cases h : (s.ses n).stateTimer <;> simp [State.settling, Timer.isRunning, h]

theorem disableLine_atRest (h : (s.ses n).state = .idle ∨ (s.ses n).state = .ringing) : s.disableLine n = s.outEntry n := by
  rcases h with h | h <;> simp [State.disableLine, h]

theorem unchanged_sesUnit (f : Session → Session) (g : LineUnit → LineUnit) (s : State) :
    unchangedBut [.session n, .unit n] s ((s.modUnit n g).modSes n f) :=
  (unchangedBut_modUnit g s (by simp)).trans (unchangedBut_modSes f _ (by simp))

/-- An order of a line that writes its record and its Line Unit. -/
theorem acct_line_sesUnit {i : Instr} {line : Byte} {act : State → LineNo → State × Reply} {r : Reply}
    {f : Session → Session} {g : LineUnit → LineUnit} {P : Session → Prop} {Q : LineUnit → Prop}
    (hi : exec i s = .next (s.acctOrder .acct fun t => t.onLine line fun m => act t m)) (hn : line.toNat = n.val)
    (hl : listens s .acct) (ho : act (s.heard .acct) n = (((s.heard .acct).modUnit n g).modSes n f, r))
    (hf : P (f (s.ses n))) (hg : Q (g (s.unit n))) :
    ∃ t, exec i s = .next t ∧ P (t.ses n) ∧ Q (t.unit n) ∧
      carriedOut .acct (framePort s .acct r) [.session n, .unit n] s t :=
  acct_line hi hn hl ho ⟨by simpa using hf, by simpa using hg, carriedOut_apart (unchanged_sesUnit f g _) (by simp) (by simp)⟩

/-- Settles O39: each order by the line's state, none of them with a call to end. -/
theorem lineOrdersOnQuietLines : Obligations.LineOrdersOnQuietLines := by
  intro line n s hn hl
  have hst : ((s.heard .acct).ses n).state = (s.ses n).state := by rw [State.ses_heard]
  refine ⟨fun h => ?_, fun h => ?_, fun h ht => ?_, fun h ht => acct_line_answers rfl hn hl ?_,
    fun h => acct_line_answers rfl hn hl ?_, fun h => acct_line_answers rfl hn hl ?_, fun h => ?_⟩
  · obtain ⟨hses, hunit, -, hun⟩ := outEntry_law (s.heard .acct) n
    refine acct_line (u := (s.heard .acct).outEntry n) (r := ⟨.ok, 0⟩) rfl hn hl ?_ ⟨?_, ?_, ?_, ?_, ?_, by simp,
      restParts_heard hun _⟩
    · rw [disableLine_atRest (by rwa [hst])]
      rfl
    · rw [ses_setReply, hses, State.ses_heard]
    all_goals rw [unit_setReply, hunit]
  · refine acct_line (u := (s.heard .acct).modSes n fun r => { r with disablePending := true }) (r := ⟨.ok, 0⟩) rfl hn hl
      ?_ ⟨by simp, carriedOut_apart (unchangedBut_modSes _ _ (by simp)) (by simp) (by simp)⟩
    simp [State.disableLine, h, State.setDisablePending, replyOf]
  · have hset : (s.heard .acct).settling n = true := (settling_iff _ _).2 (by simp [h, ht])
    refine acct_line_sesUnit (f := fun r => { r with stateTimer := .stopped }) (g := fun u => { u with trdy := false })
      (r := ⟨.ok, 0⟩) (P := fun r => r = _) (Q := fun v => v = _) rfl hn hl ?_ rfl rfl
    simp [State.disableLine, h, hset, replyOf]
  · have hset : (s.heard .acct).settling n = false := by
      rw [Bool.eq_false_iff, ne_eq, settling_iff]
      simp [ht]
    simp [State.disableLine, h, hset, State.answered, replyOf]
  · rcases h with h | h <;> simp [State.clearLine, h, State.answered, replyOf]
  · simp [State.clearLine, h, State.answered, replyOf]
  · refine acct_line (u := ((s.heard .acct).modSes n fun r =>
        { r with state := .idle, ringCount := 0, stateTimer := .stopped }).modUnit n fun u =>
        { u with ring := u.ring.toRearm false }) (r := ⟨.ok, 0⟩) rfl hn hl ?_ ⟨by simp, by simp [Ring.toRearm],
      by simp [Ring.toRearm], carriedOut_apart ((unchangedBut_modSes _ _ (by simp)).trans
        (unchangedBut_modUnit _ _ (by simp))) (by simp) (by simp)⟩
    simp [State.clearLine, h, State.ringingToIdle, replyOf]

/-! ### LINE ENABLE and the settle time (R163) -/

theorem timing_of_running {st : LineState} {ms : Nat} (hs : (s.ses n).state = st) (ht : (s.ses n).stateTimer = .running ms) :
    s.timing n st = true := by
  simp [State.timing, hs, ht, Timer.isRunning]

/-- A judgement of a pin alters no other part than its line's. -/
theorem drainJudged_of_unit {f : LineUnit → LineUnit} {t : State} (h : drainJudged n (s.modUnit n f) t) :
    drainJudged n s t := by
  have hp := portAcct_postNotice_congr (State.portAcct_modUnit s n f) .drained
  unfold drainJudged at h ⊢
  simpa only [State.ses_modUnit, State.service_modUnit, State.portAcct_modUnit, hp] using h

theorem settle_ready {ms : Nat} (hs : (s.ses n).state = .outOfService) (ht : (s.ses n).stateTimer = .running ms) :
    ∃ t, exec (.settleTimerExpiry n true) s = .next t ∧ t.ses n = idleRecord (s.ses n) ∧ (t.unit n).trdy = true ∧
      (t.unit n).modem = .watching 0 ∧ (t.unit n).ring.cond = ringStart s n ∧ drainJudged n s t ∧
      unchangedBut (restParts n) s t := by
  refine ⟨_, congrArg Host.Outcome.next (if_pos (timing_of_running hs ht)), ?_⟩
  set judged := (s.modUnit n fun u => { u with mrdy := true, mrdySeen := true }).modUnit n fun u =>
    { u with modem := .watching 0 } with hjudged
  obtain ⟨hses, ⟨d, hd, hunit⟩, hdrain, hun⟩ := idleEntry_law judged n
  have hstart : ringStart judged n = ringStart s n := by simp [ringStart, hjudged]
  show _ ∧ _
  rw [if_pos rfl, ← hjudged]
  refine ⟨by rw [hses]; simp [hjudged], by rw [hunit], by rw [hunit]; simp [hjudged], by rw [hunit, ← hstart]; exact hd,
    drainJudged_of_unit (drainJudged_of_unit hdrain), ((rest_unit _ s).trans (rest_unit _ _)).trans hun⟩

theorem settle_absent {ms : Nat} (hs : (s.ses n).state = .outOfService) (ht : (s.ses n).stateTimer = .running ms) :
    ∃ t, exec (.settleTimerExpiry n false) s = .next t ∧ t.ses n = { s.ses n with stateTimer := .stopped } ∧
      t.unit n = { s.unit n with mrdy := false, mrdySeen := false, trdy := false } ∧
      t.sup n = { s.sup n with faults := (s.sup n).faults ||| 2 } ∧
      t.portAcct = faultReported s n .modemAbsent 1 ∧
      unchangedBut [.session n, .unit n, .sup n, .port .acct] s t := by
  refine ⟨_, congrArg Host.Outcome.next (if_pos (timing_of_running hs ht)), ?_⟩
  set off := ((s.modUnit n fun u => { u with mrdy := false, mrdySeen := false }).modUnit n fun u =>
    { u with trdy := false }).modSes n fun r => { r with stateTimer := .stopped } with hoff
  obtain ⟨hsup, hport, hun⟩ := raiseFault_law off n .modemAbsent
  have hacc : faultReported off n .modemAbsent FaultKind.modemAbsent.code = faultReported s n .modemAbsent 1 := by
    have hp : off.portAcct = s.portAcct := by simp [hoff]
    unfold faultReported
    rw [portAcct_postNotice_congr hp, hp]
    simp [hoff, FaultKind.code]
  show _ ∧ _
  rw [if_neg (by decide), ← hoff]
  refine ⟨by simp [hoff], by simp [hoff], by rw [hsup]; simp [hoff, FaultKind.code], hport.trans hacc,
    .trans ?_ (hun.mono (by simp +contextual))⟩
  exact .trans (.trans (unchangedBut_modUnit _ _ (by simp)) (unchangedBut_modUnit _ _ (by simp)))
    (unchangedBut_modSes _ _ (by simp))

/-- LINE ENABLE on an OUT_OF_SERVICE line with no modem fault (R163). -/
theorem enableLine_clear (h : (s.ses n).state = .outOfService) (hf0 : (s.sup n).faults.getLsbD 0 = false)
    (hf1 : (s.sup n).faults.getLsbD 1 = false) : s.enableLine n = if s.settling n then s.answered ⟨.ok, 0⟩ else
      ((s.modUnit n fun u => { u with trdy := true }).modSes n fun r => { r with stateTimer := .running 250 }, ⟨.ok, 0⟩) := by
  have hnone : ¬((s.sup n).faults.getLsbD FaultKind.modemLost.code = true ∨
      (s.sup n).faults.getLsbD FaultKind.modemAbsent.code = true) := by
    rintro (hx | hx)
    · exact absurd (hx.symm.trans hf0) (by decide)
    · exact absurd (hx.symm.trans hf1) (by decide)
  unfold State.enableLine
  rw [if_neg (by simp [h]), if_neg hnone]
  rfl

/-- Settles O38: by the state of the line, and at settle expiry by the level of MRDY. -/
theorem lineEnableAndSettle : Obligations.LineEnableAndSettle := by
  refine ⟨fun line n s hn hl => ⟨fun h => acct_line_answers rfl hn hl ?_, fun h hf => acct_line_answers rfl hn hl ?_,
    fun h hf0 hf1 => ⟨fun ht => acct_line_answers rfl hn hl ?_, fun ht => ?_⟩⟩,
    fun n ms s hs ht => ⟨settle_ready hs ht, settle_absent hs ht⟩⟩
  · simp [State.enableLine, h, State.answered, replyOf]
  · simp only [State.enableLine, State.ses_heard, State.sup_heard, h]
    rw [if_neg (by simp), if_pos (by exact hf)]
    rfl
  · rw [enableLine_clear (by rwa [State.ses_heard]) (by rwa [State.sup_heard]) (by rwa [State.sup_heard]),
      if_pos ((settling_iff _ _).2 (by simp [h, ht]))]
  · refine acct_line_sesUnit (f := fun r => { r with stateTimer := .running 250 }) (g := fun u => { u with trdy := true })
      (r := ⟨.ok, 0⟩) (P := fun r => r = _) (Q := fun v => v = _) rfl hn hl ?_ rfl rfl
    rw [enableLine_clear (by rwa [State.ses_heard]) (by rwa [State.sup_heard]) (by rwa [State.sup_heard]),
      if_neg (by simp [settling_iff, ht])]

end Sys2Proof.LineControl
end

section
/-! PROOFS. The relay orders of the host links, the transmitter, the message feed and the receiver. -/

namespace Sys2Proof.RelayBuffers


open Sys2Proof.Machine Sys2Proof.Stations Sys2Proof.Supervision Sys2Proof.Clears Sys2Proof.LineControl

variable {s t u : State} {n : LineNo} {k : Link} {h : Computer}

/-! ### The transmitter (R30, R32) -/

/-- The states in which a line with a rate sends (R31). -/
theorem transmits_of {r : Session} (hrate : r.rate ≠ none)
    (hs : r.state ∈ [.signOn, .offered, .connected, .held] ∨ r.state = .clearing ∧ r.phase = .drain) :
    r.transmits = true := by
  obtain ⟨x, hx⟩ := Option.ne_none_iff_exists'.1 hrate
  rcases hs with hs | ⟨hs, hp⟩
  · simp only [List.mem_cons, List.not_mem_nil, or_false] at hs
    rcases hs with hs | hs | hs | hs <;> simp [Session.transmits, hx, hs]
  · simp [Session.transmits, Session.draining, hx, hs, hp]

theorem takeNext_busy (hb : (s.unit n).transmitter ≠ .idle) : s.takeNext n = s := if_neg fun h => hb h.1

theorem takeNext_flow {c : Byte} (hi : (s.unit n).transmitter = .idle) (ht : (s.ses n).transmits = true)
    (hf : (s.unit n).flow = some c) :
    s.takeNext n = s.modUnit n fun u => { u with flow := none, transmitter := .sending c (s.formatOf n) 0 } := by
  unfold State.takeNext
  rw [if_pos ⟨hi, ht⟩, hf]

theorem takeNext_tx {c : Byte} {rest : List Byte} (hi : (s.unit n).transmitter = .idle) (ht : (s.ses n).transmits = true)
    (hf : (s.unit n).flow = none) (htx : (s.ses n).tx = c :: rest) :
    s.takeNext n = (s.modSes n fun r => { r with tx := rest }).modUnit n fun u =>
      { u with transmitter := .sending c (s.formatOf n) 0 } := by
  unfold State.takeNext
  rw [if_pos ⟨hi, ht⟩, hf, htx]

theorem takeNext_nothing (hf : (s.unit n).flow = none) (htx : (s.ses n).tx = []) : s.takeNext n = s := by
  unfold State.takeNext
  rw [hf, htx]
  exact ite_self s

/-- The parts of a line that sending and receiving touch, the Supervision Unit's timers apart. -/
theorem unchanged_takeNext (s : State) (n : LineNo) : unchangedBut [.session n, .unit n] s (s.takeNext n) := by
  unfold State.takeNext
  refine unchanged_ite (fun _ => ?_) fun _ => unchangedBut_refl _ s
  split
  · exact unchangedBut_modUnit _ s (by simp)
  · exact (unchangedBut_modSes _ s (by simp)).trans (unchangedBut_modUnit _ _ (by simp))
  · exact unchangedBut_refl _ s

theorem unchanged_placeTx (s : State) (n : LineNo) (c : Byte) : unchangedBut [.session n, .unit n] s (s.placeTx n c) :=
  (unchangedBut_modSes _ s (by simp)).trans (unchanged_takeNext _ n)

theorem unchanged_placeAll (s : State) (n : LineNo) (cs : List Byte) :
    unchangedBut [.session n, .unit n] s (s.placeAll n cs) := by
  induction cs generalizing s with
  | nil => exact unchangedBut_refl _ s
  | cons c cs ih => exact (unchanged_placeTx s n c).trans (ih _)

theorem unchanged_placeFlow (s : State) (n : LineNo) (c : Byte) :
    unchangedBut [.session n, .unit n] s (s.placeFlow n c) :=
  (unchangedBut_modUnit _ s (by simp)).trans (unchanged_takeNext _ n)

theorem placeTx_busy (hb : (s.unit n).transmitter ≠ .idle) (c : Byte) :
    s.placeTx n c = s.modSes n fun r => { r with tx := r.tx ++ [c] } :=
  takeNext_busy (by rwa [State.unit_modSes])

theorem placeAll_busy (hb : (s.unit n).transmitter ≠ .idle) (cs : List Byte) :
    (s.placeAll n cs).ses n = { s.ses n with tx := (s.ses n).tx ++ cs } ∧ (s.placeAll n cs).unit n = s.unit n := by
  induction cs generalizing s with
  | nil => exact ⟨by simp [State.placeAll], rfl⟩
  | cons c cs ih =>
    have hp := placeTx_busy hb c
    obtain ⟨hses, hunit⟩ := ih (s := s.placeTx n c) (by rwa [hp, State.unit_modSes])
    refine ⟨hses.trans ?_, hunit.trans ?_⟩
    · rw [hp, State.ses_modSes_self, List.append_assoc]
      rfl
    · rw [hp, State.unit_modSes]

/-- The first of a run of characters goes to an idle transmitter, the others wait in the FIFO. -/
theorem placeAll_idle (hi : (s.unit n).transmitter = .idle) (ht : (s.ses n).transmits = true)
    (hf : (s.unit n).flow = none) (htx : (s.ses n).tx = []) (c : Byte) (cs : List Byte) :
    (s.placeAll n (c :: cs)).ses n = { s.ses n with tx := cs } ∧
      ((s.placeAll n (c :: cs)).unit n).transmitter = .sending c (s.formatOf n) 0 := by
  have hfirst : s.placeTx n c = ((s.modSes n fun r => { r with tx := r.tx ++ [c] }).modSes n fun r =>
      { r with tx := [] }).modUnit n fun u => { u with transmitter := .sending c (s.formatOf n) 0 } := by
    unfold State.placeTx
    rw [takeNext_tx (c := c) (rest := []) (by simpa using hi) (by rw [State.ses_modSes_self]; exact ht) (by simpa using hf)
      (by simp [htx])]
    simp [State.formatOf]
  obtain ⟨hses, hunit⟩ := placeAll_busy (n := n) (s := s.placeTx n c) (by rw [hfirst]; simp) cs
  refine ⟨hses.trans ?_, (congrArg LineUnit.transmitter hunit).trans ?_⟩ <;> rw [hfirst] <;> simp

/-! ### Orders of a host link -/

/-- What a command leaves that is an order of a host link. -/
theorem host_order {i : Instr} {order : Computer → State → State × Reply} {r : Reply} {P : State → Prop}
    (hi : exec i s = .next (s.hostOrder k order)) (hk : k.host? = some h) (hl : listens s k)
    (ho : order h (s.heard k) = (u, r)) (hP : P (u.setReply k r)) : ∃ t, exec i s = .next t ∧ P t := by
  refine ⟨_, hi, ?_⟩
  rw [State.hostOrder_listens s k h hl hk, ho]
  exact hP

theorem host_answers {i : Instr} {order : Computer → State → State × Reply} {r : Reply}
    (hi : exec i s = .next (s.hostOrder k order)) (hk : k.host? = some h) (hl : listens s k)
    (ho : order h (s.heard k) = (s.heard k).answered r) : ∃ t, exec i s = .next t ∧ onlyAnswers k r s t :=
  host_order hi hk hl ho (onlyAnswers_heard k s r)

/-- A line not owned by a computer (R103). -/
theorem not_ownedBy {r : Session} (hn : ¬(r.state = .connected ∧ r.owner = some h)) : r.ownedBy h = false := by
  rwa [Bool.eq_false_iff, ne_eq, Keeping.ownedBy_iff]

/-! ### RX SCAN (R104) -/

/-- A sum of powers of lines in ascending order, each at its bit. -/
theorem testBit_mask (p : LineNo → Bool) (l : List LineNo) (hl : l.Pairwise (· < ·)) (v i : Nat) (hv : ∀ n ∈ l, v < 2 ^ n.val) :
    (l.foldl (fun v n => v + if p n then 2 ^ n.val else 0) v).testBit i =
      (v.testBit i || l.any fun n => p n && n.val == i) := by
  induction l generalizing v with
  | nil => simp
  | cons n l ih =>
    have hlt := hv n (by simp)
    have hv' : (v + if p n then 2 ^ n.val else 0) < 2 ^ (n.val + 1) := by split <;> omega
    rw [List.foldl_cons, ih (List.pairwise_cons.1 hl).2 _ fun m hm =>
      hv'.trans_le (Nat.pow_le_pow_right (by omega) ((List.pairwise_cons.1 hl).1 m hm))]
    rw [List.any_cons, ← Bool.or_assoc]
    congr 1
    cases p n with
    | false => simp
    | true =>
      have := Nat.two_pow_add_eq_or_of_lt hlt 1
      rw [Nat.mul_one] at this
      rw [if_pos rfl, Nat.add_comm, this, Nat.testBit_or, Nat.testBit_two_pow, Bool.or_comm]
      simp [beq_eq_decide]

theorem lineMask_bit (s : State) (p : Line → Bool) (n : LineNo) : (s.lineMask p).testBit n.val = p (s.line n) := by
  unfold State.lineMask
  rw [testBit_mask (fun n => p (s.line n)) allLines allLines_sorted 0 n.val (fun _ _ => by positivity)]
  rw [Nat.zero_testBit, Bool.false_or]
  by_cases hp : p (s.line n) = true
  · rw [hp, List.any_eq_true]
    exact ⟨n, State.mem_allLines n, by simp [hp]⟩
  · rw [Bool.eq_false_iff.2 hp, List.any_eq_false]
    rintro m - hm
    simp only [Bool.and_eq_true, beq_iff_eq] at hm
    exact hp (Fin.ext hm.2 ▸ hm.1)

theorem words16_bit (hi lo : Nat) (n : LineNo) :
    (words16 hi lo).getLsbD (16 + n.val) = hi.testBit n.val ∧ (words16 hi lo).getLsbD n.val = lo.testBit n.val := by
  have := n.isLt
  show (BitVec.ofNat 16 hi ++ BitVec.ofNat 16 lo : BitVec (16 + 16)).getLsbD _ = _ ∧
    (BitVec.ofNat 16 hi ++ BitVec.ofNat 16 lo : BitVec (16 + 16)).getLsbD _ = _
  rw [BitVec.getLsbD_append, BitVec.getLsbD_append, if_neg (by omega), if_pos (by omega), Nat.add_sub_cancel_left]
  simp only [BitVec.getLsbD_ofNat, this, decide_true, Bool.true_and, and_self]

/-! ### RECEIVE and SEND (R105 to R107) -/

theorem receiveReply_eq (cs : List Byte) : State.receiveReply (cs.take 3) =
    BitVec.ofNat 8 (min 3 cs.length) ++ cs.getD 0 0 ++ cs.getD 1 0 ++ cs.getD 2 0 := by
  rcases cs with - | ⟨a, - | ⟨b, - | ⟨c, cs⟩⟩⟩ <;> simp [State.receiveReply, bytes4, byteOf]

theorem unchanged_judgeLowWater (s : State) (n : LineNo) : unchangedBut [.session n, .unit n] s (s.judgeLowWater n) :=
  unchanged_ite (fun _ => (unchangedBut_modSes _ s (by simp)).trans (unchanged_placeFlow _ n _)) fun _ =>
    unchangedBut_refl _ s

/-- A good frame carried out on a line, whose other parts stand. -/
theorem carriedOut_line {r : Reply} (hu : unchangedBut [.session n, .unit n] (s.heard k) u) :
    carriedOut k (framePort s k r) [.session n, .unit n] s (u.setReply k r) :=
  carriedOut_apart hu (by simp) (by simp)

/-- Characters removed by a RECEIVE, and the low-water judgement after it (R101). -/
theorem receiveLine_law (hrx : (s.ses n).rx ≠ []) (hc : (s.ses n).state = .connected) :
    ∃ u, s.receiveLine n = (u, ⟨.ok, BitVec.ofNat 8 (min 3 (s.ses n).rx.length) ++ (s.ses n).rx.getD 0 0 ++
        (s.ses n).rx.getD 1 0 ++ (s.ses n).rx.getD 2 0⟩) ∧
      (16 < ((s.ses n).rx.drop 3).length ∨ (s.ses n).xoffSent = false →
        u.ses n = { s.ses n with rx := (s.ses n).rx.drop 3 } ∧ u.unit n = s.unit n) ∧
      (((s.ses n).rx.drop 3).length ≤ 16 → (s.ses n).xoffSent = true →
        u.ses n = { s.ses n with rx := (s.ses n).rx.drop 3, xoffSent := false } ∧
        ((s.unit n).transmitter ≠ .idle → u.unit n = { s.unit n with flow := some 17 }) ∧
        ((s.unit n).transmitter = .idle → (s.ses n).rate ≠ none →
          u.unit n = { s.unit n with flow := none, transmitter := .sending 17 (s.formatOf n) 0 })) ∧
      unchangedBut [.session n, .unit n] s u := by
  set taken := s.modSes n fun r => { r with rx := (s.ses n).rx.drop 3 } with htaken
  refine ⟨taken.judgeLowWater n, ?_, fun hnone => ?_, fun hlow hx => ?_,
    (unchangedBut_modSes _ s (by simp)).trans (unchanged_judgeLowWater _ n)⟩
  · obtain ⟨c, rest, hcons⟩ := List.exists_cons_of_ne_nil hrx
    rw [← receiveReply_eq, htaken, hcons]
    unfold State.receiveLine
    rw [hcons]
    rfl
  · have : taken.judgeLowWater n = taken := if_neg (by
      rw [htaken, State.ses_modSes_self]
      rintro ⟨hle, hset⟩
      exact hnone.elim (fun h => absurd hle (Nat.not_le.2 h)) fun h => by simp [h] at hset)
    rw [this, htaken]
    simp
  · have : taken.judgeLowWater n = (taken.modSes n fun r => { r with xoffSent := false }).placeFlow n chXon := if_pos (by
      rw [htaken, State.ses_modSes_self]
      exact ⟨hlow, hx⟩)
    rw [this, State.placeFlow]
    by_cases hidle : (s.unit n).transmitter = .idle
    · by_cases hrate : (s.ses n).rate = none
      · rw [State.takeNext, if_neg (by simp [htaken, Session.transmits, hrate])]
        exact ⟨by simp [htaken], fun h => absurd hidle h, fun _ h => absurd hrate h⟩
      · rw [takeNext_flow (c := chXon) (by simpa [htaken] using hidle)
          (transmits_of (by simpa [htaken] using hrate) (.inl (by simp [htaken, hc]))) (by simp)]
        exact ⟨by simp [htaken], fun h => absurd hidle h, fun _ _ => by simp [htaken, State.formatOf, chXon]⟩
    · rw [takeNext_busy (by simpa [htaken] using hidle)]
      exact ⟨by simp [htaken], fun _ => by simp [htaken, chXon], fun h => absurd h hidle⟩

/-- Settles O51: the scan reads one bit for each line, and a RECEIVE removes what it returns. -/
theorem receiveOrders : Obligations.ReceiveOrders := by
  intro k h s hk hl
  refine ⟨?_, fun line n hn => ⟨fun hno => ?_, fun hc ho hrx => ?_, fun hc ho hrx => ?_⟩⟩
  · set d := words16 ((s.heard k).lineMask fun l => l.ses.ownedBy h && !l.ses.rx.isEmpty)
      ((s.heard k).lineMask fun l => l.ses.ownedBy h && l.ses.tx.isEmpty) with hd
    obtain ⟨t, ht, honly⟩ := host_answers (i := .rxScan k) (r := ⟨.ok, d⟩) rfl hk hl rfl
    refine ⟨t, d, ht, honly, fun n => ?_⟩
    rw [hd, (words16_bit _ _ n).1, (words16_bit _ _ n).2, lineMask_bit, lineMask_bit, State.line_heard]
    show (((s.ses n).ownedBy h && !(s.ses n).rx.isEmpty) = true ↔ _) ∧ (((s.ses n).ownedBy h && (s.ses n).tx.isEmpty) = true ↔ _)
    simp [Keeping.ownedBy_iff, and_assoc]
  · refine host_answers rfl hk hl ((onLine_named hn _).trans (if_neg ?_))
    rw [State.ses_heard, not_ownedBy hno]
    decide
  · refine host_answers rfl hk hl ((onLine_named hn _).trans ((if_pos ?_).trans ?_))
    · rw [State.ses_heard, Keeping.ownedBy_iff]
      exact ⟨hc, ho⟩
    · rw [State.receiveLine, State.ses_heard, hrx]
      rfl
  · obtain ⟨u, hu, hhigh, hlow, hun⟩ := receiveLine_law (s := s.heard k) (n := n) (by simpa using hrx) (by simpa using hc)
    refine host_order rfl hk hl ((onLine_named hn _).trans ((if_pos ?_).trans hu)) ?_
    · rw [State.ses_heard, Keeping.ownedBy_iff]
      exact ⟨hc, ho⟩
    · rw [ses_setReply, unit_setReply]
      simp only [State.ses_heard, State.unit_heard, State.formatOf, State.tariff_heard] at hhigh hlow ⊢
      exact ⟨hhigh, hlow, carriedOut_line hun⟩

/-- The characters of a SEND placed, as many as there is room for (R106, R107). -/
theorem sendLine_law {count room : Nat} {c1 c2 c3 : Byte} (h1 : 1 ≤ count) (h3 : count ≤ 3)
    (hc : (s.ses n).state = .connected)
    (hroom : room = if (s.ses n).feed = [] then min count (64 - (s.ses n).tx.length) else 0) :
    ∃ u, s.sendLine n ([c1, c2, c3].take count) = (u, ⟨if room = count then .ok else .partialDone,
        BitVec.ofNat 8 room ++ (0 : Byte) ++ (0 : Byte) ++ (0 : Byte)⟩) ∧
      ((s.unit n).transmitter ≠ .idle → u.unit n = s.unit n ∧ u.ses n = { s.ses n with
        tx := (s.ses n).tx ++ [c1, c2, c3].take room
        idleTimer := if room = 0 then (s.ses n).idleTimer else idleStart s.params }) ∧
      ((s.unit n).transmitter = .idle → (s.unit n).flow = none → (s.ses n).tx = [] → (s.ses n).rate ≠ none →
        (s.ses n).feed = [] → (u.unit n).transmitter = .sending c1 (s.formatOf n) 0 ∧
        u.ses n = { s.ses n with tx := ([c1, c2, c3].take count).drop 1, idleTimer := idleStart s.params }) ∧
      unchangedBut [.session n, .unit n] s u := by
  have hlen : ([c1, c2, c3].take count).length = count := by simp; omega
  have hle : room ≤ count := by rw [hroom]; split <;> omega
  have hsend : s.sendRoom n count = room := by
    rw [State.sendRoom, hroom, fifoSize]
    simp only [List.isEmpty_iff]
  set placed := s.placeAll n ([c1, c2, c3].take room) with hplaced
  have hun : unchangedBut [.session n, .unit n] s placed := unchanged_placeAll s n _
  have hidle : (placed.restartIdle n).ses n = { placed.ses n with idleTimer := idleStart s.params } := by
    rw [State.restartIdle, State.ses_modSes_self, show placed.params = s.params from hun .params (by simp)]
    simp [Timer.start, idleStart]
  refine ⟨if room = 0 then placed else placed.restartIdle n, ?_, fun hbusy => ?_, fun hi hflow htx hrate hfeed => ?_,
    unchanged_ite (fun _ => hun) fun _ => hun.trans (unchangedBut_modSes _ _ (by simp))⟩
  · rw [State.sendLine, hlen, hsend, List.take_take, Nat.min_eq_left hle]
    rfl
  · obtain ⟨hses, hunit⟩ := placeAll_busy hbusy ([c1, c2, c3].take room)
    rw [← hplaced] at hses hunit
    by_cases h0 : room = 0
    · rw [if_pos h0, if_pos h0]
      exact ⟨hunit, hses⟩
    · rw [if_neg h0, if_neg h0, hidle, hses]
      exact ⟨(State.unit_modSes ..).trans hunit, rfl⟩
  · have hall : room = count := by
      rw [hroom, if_pos hfeed, htx]
      exact Nat.min_eq_left (by simp; omega)
    have htake : [c1, c2, c3].take room = c1 :: ([c1, c2, c3].take count).drop 1 := by
      rw [hall]
      obtain ⟨m, rfl⟩ : ∃ m, count = m + 1 := ⟨count - 1, by omega⟩
      rfl
    obtain ⟨hses, htran⟩ := placeAll_idle hi (transmits_of hrate (.inl (by simp [hc]))) hflow htx c1
      (([c1, c2, c3].take count).drop 1)
    rw [← htake, ← hplaced] at hses htran
    rw [if_neg (by omega), hidle, hses]
    exact ⟨(congrArg LineUnit.transmitter (State.unit_modSes ..)).trans htran, rfl⟩

/-- Settles O52: what a SEND has room for is placed, one character after the other. -/
theorem sendPlaces : Obligations.SendPlaces := by
  intro k h line count c1 c2 c3 n s hk hl hn
  refine ⟨fun hbad => ?_, fun h1 h3 hno => ?_, fun room h1 h3 hc ho hroom => ?_⟩
  · exact host_answers rfl hk hl ((onLine_named hn _).trans (if_pos hbad))
  · refine host_answers rfl hk hl ((onLine_named hn _).trans ((if_neg (by omega)).trans (if_neg ?_)))
    rw [State.ses_heard, not_ownedBy hno]
    decide
  · obtain ⟨u, hu, hbusy, hidle, hun⟩ := sendLine_law (s := s.heard k) (n := n) (c1 := c1) (c2 := c2) (c3 := c3) h1 h3
      (by simpa using hc) (by simpa using hroom)
    refine host_order rfl hk hl ((onLine_named hn _).trans ((if_neg (by omega)).trans ((if_pos ?_).trans hu))) ?_
    · rw [State.ses_heard, Keeping.ownedBy_iff]
      exact ⟨hc, ho⟩
    · rw [ses_setReply, unit_setReply]
      simp only [State.ses_heard, State.unit_heard, State.formatOf, State.tariff_heard, State.params_heard] at hbusy hidle ⊢
      exact ⟨hbusy, hidle, carriedOut_line hun⟩

end Sys2Proof.RelayBuffers
end

section
/-! PROOFS. The transmitter's and the receiver's events, the message feed, and line editing in SIGN_ON. -/

namespace Sys2Proof.CharacterEvents


open Sys2Proof.Machine Sys2Proof.Stations Sys2Proof.Clears Sys2Proof.RelayBuffers

variable {s t u : State} {n : LineNo}

/-! ### The transmitter and the message feed (R30, R36) -/

/-- The transmitter takes its next character: the flow insertion, the oldest of the FIFO, or none (R30, R32). -/
theorem takeNext_law (hi : (s.unit n).transmitter = .idle) (ht : (s.ses n).transmits = true) :
    (∀ x, (s.unit n).flow = some x → (s.takeNext n).ses n = s.ses n ∧
      (s.takeNext n).unit n = { s.unit n with flow := none, transmitter := .sending x (s.formatOf n) 0 }) ∧
    (∀ x rest, (s.unit n).flow = none → (s.ses n).tx = x :: rest →
      (s.takeNext n).ses n = { s.ses n with tx := rest } ∧
      (s.takeNext n).unit n = { s.unit n with transmitter := .sending x (s.formatOf n) 0 }) ∧
    ((s.unit n).flow = none → (s.ses n).tx = [] →
      (s.takeNext n).ses n = s.ses n ∧ (s.takeNext n).unit n = s.unit n) := by
  refine ⟨fun x hf => ?_, fun x rest hf htx => ?_, fun hf htx => ?_⟩
  · rw [takeNext_flow hi ht hf]
    simp
  · rw [takeNext_tx hi ht hf htx]
    simp
  · rw [takeNext_nothing hf htx]
    exact ⟨rfl, rfl⟩

theorem transmitDone {c : Byte} {f : Format} {q : Nat} (hs : (s.unit n).transmitter = .sending c f q)
    (ht : (s.ses n).transmits = true) :
    ∃ t, exec (.transmitCharacterDone n) s = .next t ∧ t.sup n = { s.sup n with traffic := .running 50 } ∧
      (∀ x, (s.unit n).flow = some x → t.ses n = s.ses n ∧
        t.unit n = { s.unit n with flow := none, transmitter := .sending x (s.formatOf n) 0 }) ∧
      (∀ x rest, (s.unit n).flow = none → (s.ses n).tx = x :: rest → t.ses n = { s.ses n with tx := rest } ∧
        t.unit n = { s.unit n with transmitter := .sending x (s.formatOf n) 0 }) ∧
      ((s.unit n).flow = none → (s.ses n).tx = [] → t.ses n = s.ses n ∧
        t.unit n = { s.unit n with transmitter := .idle }) ∧
      unchangedBut [.session n, .unit n, .sup n] s t := by
  set sent := (s.modUnit n fun u => { u with transmitter := .idle }).reportTraffic n with hsent
  have hexec : exec (.transmitCharacterDone n) s = .next (sent.takeNext n) := by
    show execTransmitCharacterDone n s = _
    rw [execTransmitCharacterDone, hs]
  have hun := unchanged_takeNext sent n
  obtain ⟨hflow, htx, hnone⟩ := takeNext_law (s := sent) (n := n) (by simp [hsent, State.reportTraffic])
    (by simpa [hsent, State.reportTraffic] using ht)
  simp only [hsent, State.reportTraffic, State.unit_modSup, State.unit_modUnit_self, State.ses_modSup, State.ses_modUnit,
    State.formatOf, State.tariff_modSup, State.tariff_modUnit] at hflow htx hnone
  refine ⟨_, hexec, (hun (.sup n) (by simp)).trans (by simp [hsent, State.reportTraffic]), hflow, htx, hnone, ?_⟩
  exact ((unchangedBut_modUnit _ s (by simp)).trans (unchangedBut_modSup _ _ (by simp))).trans (hun.mono (by simp +contextual))

/-- A character of the head message goes into the FIFO of a busy transmitter (R36). -/
theorem feedStep_moves {slot : Fin 16} {rest : List (Fin 16)} (hfeed : (s.ses n).feed = slot :: rest)
    (hc : (s.ses n).cursor < 64) (hlen : (s.ses n).cursor < s.messages[slot.val].length) (htx : (s.ses n).tx.length < 64)
    (ht : (s.ses n).transmits = true) (hb : (s.unit n).transmitter ≠ .idle) :
    (s.feedStep n).ses n = { s.ses n with
      tx := (s.ses n).tx ++ [s.messages[slot.val].text[(s.ses n).cursor]]
      feed := if s.messages[slot.val].length ≤ (s.ses n).cursor + 1 then rest else slot :: rest
      cursor := if s.messages[slot.val].length ≤ (s.ses n).cursor + 1 then 0 else (s.ses n).cursor + 1 } ∧
    unchangedBut [.session n] s (s.feedStep n) := by
  have hstep : s.feedStep n = (s.modSes n fun r => if s.headLength slot ≤ (s.ses n).cursor + 1 then
      { r with feed := rest, cursor := 0 } else { r with cursor := (s.ses n).cursor + 1 }).placeTx n
      (s.slotChar slot (s.ses n).cursor) := by
    rw [State.feedStep, hfeed]
    exact (if_neg (Nat.not_le.2 hlen)).trans (if_pos ⟨htx, ht⟩)
  have hchar : s.slotChar slot (s.ses n).cursor = s.messages[slot.val].text[(s.ses n).cursor] := by
    rw [State.slotChar, Vector.getElem?_eq_getElem hc]
    rfl
  rw [hstep, placeTx_busy (by rwa [State.unit_modSes]), hchar]
  refine ⟨?_, (unchangedBut_modSes _ s (by simp)).trans (unchangedBut_modSes _ _ (by simp))⟩
  rw [State.ses_modSes_self, State.ses_modSes_self, State.headLength]
  by_cases h : s.messages[slot.val].length ≤ (s.ses n).cursor + 1
  · simp only [if_pos h]
  · simp only [if_neg h, hfeed]

/-- Settles O58: the next character is taken, the feed moves on, and the traffic timer runs and stops. -/
theorem transmitterAndFeed : Obligations.TransmitterAndFeed := by
  intro n s
  refine ⟨fun c f q hsend hrate hs => transmitDone hsend (transmits_of hrate hs),
    fun slot rest m hfeed hm => ⟨fun hlen => ⟨_, rfl, ?_⟩, fun hc hlen htx hrate hb hs => ⟨_, rfl, ?_⟩⟩,
    fun ms ht => ⟨_, congrArg Host.Outcome.next (if_pos (by rw [ht]; rfl)), ?_⟩⟩
  · subst hm
    have : s.feedStep n = s.modSes n fun r => { r with feed := rest, cursor := 0 } := by
      rw [State.feedStep, hfeed]
      exact if_pos hlen
    rw [this]
    exact ⟨State.ses_modSes_self .., unchangedBut_modSes _ s (by simp)⟩
  · subst hm
    exact feedStep_moves hfeed hc hlen htx (transmits_of hrate hs) hb
  · exact ⟨State.sup_modSup_self .., unchangedBut_modSup _ s (by simp)⟩

/-! ### The receiver (R27 to R29) -/

/-- A character judged at its stop bit: the receiver hunts, or waits for mark, and the traffic timer runs. -/
def heardChar (s : State) (n : LineNo) (stop : Bool) : State :=
  (s.modUnit n fun u => { u with rxd := stop, receiver := if stop then .hunting else .waitingForMark }).reportTraffic n

theorem exec_characterReceived {q : Nat} {f : Format} {st : Option Bool} {v : Byte} {stop : Bool}
    (h : (s.unit n).receiver = .assembling q f v st) (bits : Byte) :
    exec (.characterReceived n bits stop) s = .next (if stop && f.parityOk bits then
      (heardChar s n stop).deliver n (f.value bits) else (heardChar s n stop).countCharError n) := by
  show execCharacterReceived n bits stop s = _
  rw [execCharacterReceived, State.formatReceived, h]
  rfl

theorem heardChar_fields (s : State) (n : LineNo) (stop : Bool) :
    (heardChar s n stop).ses n = s.ses n ∧
    (heardChar s n stop).unit n = { s.unit n with rxd := stop, receiver := if stop then .hunting else .waitingForMark } ∧
    (heardChar s n stop).sup n = { s.sup n with traffic := .running 50 } ∧
    unchangedBut [.unit n, .sup n] s (heardChar s n stop) := by
  refine ⟨by simp [heardChar, State.reportTraffic], by simp [heardChar, State.reportTraffic],
    by simp [heardChar, State.reportTraffic], ?_⟩
  unfold heardChar State.reportTraffic
  exact (unchangedBut_modUnit _ s (by simp)).trans (unchangedBut_modSup _ _ (by simp))

theorem receives_of (hs : (s.ses n).state ∈ [.signOn, .offered, .connected, .held] ∨
    (s.ses n).state = .clearing ∧ (s.ses n).phase = .drain) : s.receives n = true := by
  unfold State.receives
  rcases hs with hs | ⟨hs, hp⟩
  · simp only [List.mem_cons, List.not_mem_nil, or_false] at hs
    rcases hs with hs | hs | hs | hs <;> rw [hs]
  · rw [hs]
    simp [Session.draining, hs, hp]

/-- XON or XOFF placed changes the flow insertion and the transmitter only (R32). -/
theorem placeFlow_law (s : State) (n : LineNo) (c : Byte) :
    (s.placeFlow n c).ses n = s.ses n ∧
    (∃ f x, (s.placeFlow n c).unit n = { s.unit n with flow := f, transmitter := x }) ∧
    ((s.unit n).transmitter ≠ .idle → ((s.placeFlow n c).unit n).flow = some c) := by
  unfold State.placeFlow
  by_cases h : (s.unit n).transmitter = .idle ∧ (s.ses n).transmits = true
  · rw [takeNext_flow (c := c) (by simpa using h.1) (by simpa using h.2) (by simp)]
    exact ⟨by simp, ⟨none, .sending c (s.formatOf n) 0, by simp [State.formatOf]⟩, fun hb => absurd h.1 hb⟩
  · rw [State.takeNext, if_neg (by simpa using h)]
    exact ⟨by simp, ⟨some c, _, by simp; rfl⟩, fun _ => by simp⟩

/-- The high-water judgement (R100). -/
theorem judgeHighWater_law (s : State) (n : LineNo) :
    (s.judgeHighWater n).ses n = { s.ses n with xoffSent := (s.ses n).xoffSent ||
      (decide (48 ≤ (s.ses n).rx.length) && s.tariff.classes[(s.ses n).cls.val].flowControl) } ∧
    (∃ f x, (s.judgeHighWater n).unit n = { s.unit n with flow := f, transmitter := x }) ∧
    (48 ≤ (s.ses n).rx.length → (s.ses n).xoffSent = false → s.tariff.classes[(s.ses n).cls.val].flowControl = true →
      (s.unit n).transmitter ≠ .idle → ((s.judgeHighWater n).unit n).flow = some 19) ∧
    unchangedBut [.session n, .unit n] s (s.judgeHighWater n) := by
  unfold State.judgeHighWater
  by_cases h : 48 ≤ (s.ses n).rx.length ∧ (s.ses n).xoffSent = false ∧ s.tariff.classes[(s.ses n).cls.val].flowControl = true
  · obtain ⟨hses, hunit, hflow⟩ := placeFlow_law (s.modSes n fun r => { r with xoffSent := true }) n chXoff
    obtain ⟨h1, h2, h3⟩ := h
    rw [if_pos ⟨h1, h2, h3⟩, hses]
    refine ⟨?_, by simpa using hunit, fun _ _ _ hb => hflow (by rwa [State.unit_modSes]),
      (unchangedBut_modSes _ s (by simp)).trans (unchanged_placeFlow _ n _)⟩
    rw [State.ses_modSes_self, h3, decide_eq_true h1]
    simp
  · rw [if_neg h]
    refine ⟨?_, ⟨_, _, rfl⟩, fun h1 h2 h3 => absurd ⟨h1, h2, h3⟩ h, unchangedBut_refl _ s⟩
    cases hx : (s.ses n).xoffSent with
    | true => rw [Bool.true_or, ← hx]
    | false =>
      have : (decide (48 ≤ (s.ses n).rx.length) && s.tariff.classes[(s.ses n).cls.val].flowControl) = false := by
        rw [Bool.eq_false_iff, ne_eq, Bool.and_eq_true, decide_eq_true_eq]
        exact fun hh => h ⟨hh.1, hx, hh.2⟩
      rw [this, Bool.or_false, ← hx]

/-- Relay activity restarts the idle timer of a CONNECTED line (R17). -/
theorem relayActivity_law (s : State) (n : LineNo) :
    (s.relayActivity n).ses n = { s.ses n with
      idleTimer := if (s.ses n).state = .connected then idleStart s.params else (s.ses n).idleTimer } ∧
    (s.relayActivity n).unit n = s.unit n ∧ unchangedBut [.session n] s (s.relayActivity n) := by
  unfold State.relayActivity
  by_cases h : (s.ses n).state = .connected
  · rw [if_pos h, if_pos h]
    refine ⟨?_, State.unit_modSes .., unchangedBut_modSes _ s (by simp)⟩
    rw [State.restartIdle, State.ses_modSes_self]
    simp [Timer.start, idleStart]
  · rw [if_neg h, if_neg h]
    exact ⟨rfl, rfl, unchangedBut_refl _ s⟩

/-- A good character placed in the receive FIFO (R97, R100). -/
theorem receivePlace_room (hroom : (s.ses n).rx.length < 64) (c : Byte) :
    (s.receivePlace n c).ses n = { s.ses n with
      rx := (s.ses n).rx ++ [c]
      idleTimer := if (s.ses n).state = .connected then idleStart s.params else (s.ses n).idleTimer
      xoffSent := (s.ses n).xoffSent ||
        (decide (47 ≤ (s.ses n).rx.length) && s.tariff.classes[(s.ses n).cls.val].flowControl) } ∧
    (∃ f x, (s.receivePlace n c).unit n = { s.unit n with flow := f, transmitter := x }) ∧
    (47 ≤ (s.ses n).rx.length → (s.ses n).xoffSent = false → s.tariff.classes[(s.ses n).cls.val].flowControl = true →
      (s.unit n).transmitter ≠ .idle → ((s.receivePlace n c).unit n).flow = some 19) ∧
    unchangedBut [.session n, .unit n] s (s.receivePlace n c) := by
  unfold State.receivePlace
  rw [if_pos (show (s.ses n).rx.length < fifoSize from hroom)]
  set placed := s.modSes n fun r => { r with rx := r.rx ++ [c] } with hplaced
  obtain ⟨hact, hactUnit, hactUn⟩ := relayActivity_law placed n
  have htariff : (placed.relayActivity n).tariff = s.tariff := hactUn .tariff (by simp)
  obtain ⟨hses, hunit, hflow, hun⟩ := judgeHighWater_law (placed.relayActivity n) n
  have hsrc : placed.ses n = { s.ses n with rx := (s.ses n).rx ++ [c] } := State.ses_modSes_self ..
  have hpar : placed.params = s.params := State.params_modSes ..
  simp only [hact, htariff, hsrc, hpar] at hses
  simp only [hact, hactUnit, htariff, hsrc] at hflow
  rw [hactUnit] at hunit
  simp only [List.length_append, List.length_singleton, Nat.succ_le_succ_iff] at hses hflow
  refine ⟨hses, by simpa [hplaced] using hunit, fun h1 h2 h3 hb => hflow h1 h2 h3 (by rwa [hplaced, State.unit_modSes]), ?_⟩
  exact ((unchangedBut_modSes _ s (by simp)).trans (hactUn.mono (by simp))).trans hun

/-- A good character that finds the receive FIFO full (R98). -/
theorem receivePlace_full (hfull : 64 ≤ (s.ses n).rx.length) (c : Byte) :
    (s.receivePlace n c).ses n = { s.ses n with
      idleTimer := if (s.ses n).state = .connected then idleStart s.params else (s.ses n).idleTimer } ∧
    (s.receivePlace n c).unit n = { s.unit n with overruns := min ((s.unit n).overruns + 1) 255 } ∧
    unchangedBut [.session n, .unit n] s (s.receivePlace n c) := by
  unfold State.receivePlace
  rw [if_neg (show ¬(s.ses n).rx.length < fifoSize from Nat.not_lt.2 hfull)]
  obtain ⟨hses, hunit, hun⟩ := relayActivity_law (s.modUnit n fun u => { u with overruns := satInc 255 u.overruns }) n
  rw [State.ses_modUnit, State.params_modUnit] at hses
  rw [State.unit_modUnit_self] at hunit
  exact ⟨hses, hunit, (unchangedBut_modUnit _ s (by simp)).trans (hun.mono (by simp))⟩

/-- Settles O55: the receiver's three judgements, and what a good character does on a line with an owner. -/
theorem receiverEvents : Obligations.ReceiverEvents := by
  intro n s
  refine ⟨fun r q f hr he => ⟨⟨_, rfl, ?_⟩, ⟨_, rfl, ?_⟩⟩, fun hw => ⟨_, congrArg Host.Outcome.next (if_pos hw), ?_⟩,
    fun q f b st bits stop next ha hnext => ?_⟩
  · rw [he, hr]
    exact ⟨State.unit_modUnit_self .., unchangedBut_modUnit _ s (by simp)⟩
  · rw [he, hr]
    exact ⟨State.unit_modUnit_self .., unchangedBut_modUnit _ s (by simp)⟩
  · exact ⟨State.unit_modUnit_self .., unchangedBut_modUnit _ s (by simp)⟩
  · subst hnext
    obtain ⟨hses, hunit, hsup, hun⟩ := heardChar_fields s n stop
    refine ⟨fun hbad hs => ⟨_, exec_characterReceived ha bits, ?_⟩, fun hstop hpar hs => ⟨_, exec_characterReceived ha bits, ?_⟩,
      fun hstop hpar hs => ⟨_, exec_characterReceived ha bits, ?_⟩⟩
    · rw [if_neg (by rcases hbad with h | h <;> simp [h]), State.countCharError,
        if_pos (receives_of (by rwa [hses]))]
      refine ⟨?_, (State.sup_modUnit ..).trans hsup, hun.trans (unchangedBut_modUnit _ _ (by simp))⟩
      rw [State.unit_modUnit_self, hunit]
      rfl
    · have hdeliver : (heardChar s n stop).deliver n (f.value bits) = heardChar s n stop := by
        rcases hs with hs | hs <;> rw [State.deliver, hses, hs]
      rw [if_pos (by simp [hstop, hpar]), hdeliver, hunit, hstop]
      exact ⟨rfl, hstop ▸ hsup, hstop ▸ hun⟩
    · have hdeliver : (heardChar s n stop).deliver n (f.value bits) = (heardChar s n stop).receivePlace n (f.value bits) := by
        rcases hs with hs | hs <;> rw [State.deliver, hses, hs]
      rw [if_pos (by simp [hstop, hpar]), hdeliver]
      have hclasses : (heardChar s n stop).tariff = s.tariff := hun .tariff (by simp)
      have hparams : (heardChar s n stop).params = s.params := hun .params (by simp)
      by_cases hroom : (s.ses n).rx.length < 64
      · obtain ⟨hpses, ⟨fl, x, hpunit⟩, hpflow, hpun⟩ := receivePlace_room (s := heardChar s n stop) (n := n)
          (by rwa [hses]) (f.value bits)
        simp only [hses, hunit, hclasses, hparams] at hpses hpunit hpflow
        rw [hpses, hpunit]
        refine ⟨by simp [hstop], (hpun (.sup n) (by simp)).trans hsup, (hun.mono (by simp +contextual)).trans (hpun.mono (by simp +contextual)),
          fun h => absurd hroom (by omega), fun _ => ⟨rfl, rfl, rfl, fun h1 h2 h3 hb => ?_⟩, rfl⟩
        rw [← hpflow h1 h2 h3 hb, hpunit]
      · obtain ⟨hpses, hpunit, hpun⟩ := receivePlace_full (s := heardChar s n stop) (n := n)
          (by rw [hses]; omega) (f.value bits)
        simp only [hses, hunit, hparams] at hpses hpunit
        rw [hpses, hpunit]
        exact ⟨by simp [hstop], (hpun (.sup n) (by simp)).trans hsup, (hun.mono (by simp +contextual)).trans (hpun.mono (by simp +contextual)),
          fun _ => ⟨rfl, rfl⟩, fun h => absurd h hroom, rfl⟩

/-! ### Line editing (R37, R62 to R64) -/

theorem echoed_nil (tx : List Byte) : echoed tx [] = tx := by simp [echoed]

theorem echoed_cons (tx : List Byte) (c : Byte) (cs : List Byte) : echoed tx (c :: cs) = echoed (echoed tx [c]) cs := by
  unfold echoed
  rcases Nat.lt_or_ge tx.length 64 with h | h
  · obtain ⟨m, hm⟩ : ∃ m, 64 - tx.length = m + 1 := ⟨63 - tx.length, by omega⟩
    simp only [hm, List.take_succ_cons, List.take_nil, List.append_assoc, List.length_append, List.length_singleton,
      List.singleton_append, show 64 - (tx.length + 1) = m by omega]
  · simp [show 64 - tx.length = 0 by omega]

/-- Echoes to a busy transmitter change the FIFO only (R37). -/
theorem echo_busy (hb : (s.unit n).transmitter ≠ .idle) (c : Byte) :
    s.echo n c = s.modSes n fun r => { r with tx := echoed r.tx [c] } := by
  unfold State.echo
  by_cases h : (s.ses n).tx.length < fifoSize
  · obtain ⟨m, hm⟩ : ∃ m, 64 - (s.ses n).tx.length = m + 1 := ⟨63 - (s.ses n).tx.length, by simp only [fifoSize] at h; omega⟩
    rw [if_pos h, placeTx_busy hb]
    exact AccountOrders.modSes_congr (by simp [echoed, hm])
  · rw [if_neg h]
    refine (AccountOrders.modSes_eq_self ?_).symm
    simp only [fifoSize] at h
    simp [echoed, show 64 - (s.ses n).tx.length = 0 by omega]

theorem echoAll_busy (hb : (s.unit n).transmitter ≠ .idle) (cs : List Byte) :
    s.echoAll n cs = s.modSes n fun r => { r with tx := echoed r.tx cs } := by
  induction cs generalizing s with
  | nil => exact (AccountOrders.modSes_eq_self (by rw [echoed_nil])).symm
  | cons c cs ih =>
    show (s.echo n c).echoAll n cs = _
    rw [echo_busy hb, ih (by rwa [State.unit_modSes]), Keeping.modSes_modSes]
    exact AccountOrders.modSes_congr (by rw [echoed_cons (s.ses n).tx c cs])

/-- A message request, by what it makes of the feed queue and its cursor (R35). -/
theorem requestMessage_eq (s : State) (n : LineNo) (slot : Fin 16) :
    s.requestMessage n slot = s.modSes n fun r => { r with feed := requested r.feed slot, cursor := cursorRequested r } := by
  unfold State.requestMessage
  refine AccountOrders.modSes_congr ?_
  by_cases h : (s.ses n).feed.length < 3
  · rw [if_pos h, requested, if_pos h, cursorRequested]
    simp only [List.isEmpty_iff]
  · have hne : (s.ses n).feed ≠ [] := fun h0 => h (by simp [h0])
    rw [if_neg h, requested, if_neg h, cursorRequested, if_neg hne]

theorem storable_iff (c : Byte) :
    storable c = true ↔ 48 ≤ c.toNat ∧ c.toNat ≤ 57 ∨ c.toNat ∈ [44, 65, 66, 97, 98] := by
  simp [storable, isDigit]

/-- A character typed in SIGN_ON, but for CR (R62 to R64). -/
theorem signOnChar_busy (hb : (s.unit n).transmitter ≠ .idle) {c : Byte} (hc : c ≠ 13) :
    s.signOnChar n c = s.modSes n fun r => { r with
      buffer := (edited r.buffer c).1
      tx := echoed r.tx (edited r.buffer c).2
      feed := if c = 21 then requested r.feed 1 else r.feed
      cursor := if c = 21 then cursorRequested r else r.cursor } := by
  have h13 : c.toNat ≠ 13 := fun h => hc (BitVec.eq_of_toNat_eq h)
  have h21 : c = 21 ↔ c.toNat = 21 := ⟨fun h => by rw [h]; rfl, fun h => BitVec.eq_of_toNat_eq h⟩
  unfold State.signOnChar edited
  simp only [h21]
  by_cases hst : 48 ≤ c.toNat ∧ c.toNat ≤ 57 ∨ c.toNat ∈ [44, 65, 66, 97, 98]
  · have hne : ¬c.toNat = 21 := by rintro h; simp [h] at hst
    simp only [if_pos ((storable_iff c).2 hst), if_pos hst, if_neg hne, State.storeChar]
    by_cases hlen : (s.ses n).buffer.length < 16
    · rw [if_pos hlen, echo_busy (by rwa [State.unit_modSes]), Keeping.modSes_modSes]
      exact AccountOrders.modSes_congr (by simp only [if_pos hlen])
    · rw [if_neg hlen, echo_busy hb]
      exact AccountOrders.modSes_congr (by simp only [if_neg hlen]; rfl)
  simp only [if_neg (mt (storable_iff c).1 hst), if_neg hst]
  by_cases her : c.toNat = 8 ∨ c.toNat = 127
  · have hne : ¬c.toNat = 21 := by omega
    simp only [if_pos her, if_neg hne, State.eraseChar, List.isEmpty_iff]
    by_cases hbuf : (s.ses n).buffer = []
    · rw [if_pos hbuf, echo_busy hb]
      exact AccountOrders.modSes_congr (by simp only [if_pos hbuf]; rfl)
    · rw [if_neg hbuf, echoAll_busy (by rwa [State.unit_modSes]), Keeping.modSes_modSes]
      exact AccountOrders.modSes_congr (by simp only [if_neg hbuf]; rfl)
  simp only [if_neg her]
  by_cases hk : c.toNat = 21
  · simp only [if_pos hk, State.killLine]
    rw [echoAll_busy (by rwa [State.unit_modSes]), requestMessage_eq, Keeping.modSes_modSes, Keeping.modSes_modSes]
    rfl
  simp only [if_neg hk, if_neg h13]
  by_cases hpr : 32 ≤ c.toNat ∧ c.toNat ≤ 126
  · simp only [if_pos hpr]
    rw [echo_busy hb]
    rfl
  · simp only [if_neg hpr, echoed_nil]
    exact (AccountOrders.modSes_eq_self rfl).symm

/-- A good character typed in SIGN_ON (R28, R29). -/
theorem exec_typed {bits c : Byte} (h : typed s n bits c) :
    exec (.characterReceived n bits true) s = .next ((heardChar s n true).signOnChar n c) ∧
      ((heardChar s n true).unit n).transmitter ≠ .idle := by
  obtain ⟨hs, hb, q, f, b, st, ha, hpar, hc⟩ := h
  obtain ⟨hses, hunit, -, -⟩ := heardChar_fields s n true
  refine ⟨(exec_characterReceived ha bits).trans ?_, by rwa [hunit]⟩
  rw [if_pos (by simp [hpar]), State.deliver, hses, hs, hc]

/-- Settles O56: each group of characters edits the buffer and echoes as `edited` says. -/
theorem signOnEditing : Obligations.SignOnEditing := by
  intro n bits c s ht hc _
  obtain ⟨hexec, hb⟩ := exec_typed ht
  obtain ⟨hses, hunit, -, hun⟩ := heardChar_fields s n true
  refine ⟨_, hexec, ?_⟩
  rw [signOnChar_busy hb hc, State.ses_modSes_self, State.unit_modSes, hses, hunit]
  exact ⟨rfl, rfl, (hun.mono (by simp +contextual)).trans (unchangedBut_modSes _ _ (by simp))⟩

end Sys2Proof.CharacterEvents
end

section
/-! PROOFS. Units charged, one at a time and several together, and a second's accrual. -/

namespace Sys2Proof.UnitsCharged


open Sys2Proof.Machine Sys2Proof.Stations Sys2Proof.Clears Sys2Proof.LineControl Sys2Proof.CharacterEvents

variable {s t u : State} {n : LineNo} {e : Account}

/-! ### Notices to the owner (R141) -/

/-- The ports after a notice to the owner depend on the ports, the host links and the owner. -/
theorem port_notifyOwner_congr (ho : (t.ses n).owner = (s.ses n).owner) (hp : ∀ j, t.port j = s.port j)
    (hh : ∀ h, t.host h = s.host h) (m : Notice) (j : Link) : (t.notifyOwner n m).port j = (s.notifyOwner n m).port j := by
  unfold State.notifyOwner
  rw [ho]
  cases (s.ses n).owner with
  | none => exact hp j
  | some g =>
    by_cases hj : j = g.link
    · subst hj
      exact port_postNotice_congr (hp _) (fun h _ => congrArg HostLink.up (hh h)) m
    · rw [State.port_postNotice_ne _ _ _ _ hj, State.port_postNotice_ne _ _ _ _ hj, hp]

theorem unchanged_notifyOwner (s : State) (n : LineNo) (m : Notice) :
    unchangedBut [.session n, .accounts, .port .hostA, .port .hostB] s (s.notifyOwner n m) := by
  unfold State.notifyOwner
  split
  next h _ => exact unchanged_postNotice _ _ _ (by cases h <;> simp [Computer.link])
  · exact unchangedBut_refl _ s

/-- The owner told of a low balance and of grace started, as the units of a charge tell it (R140 to R142). -/
def told (s : State) (n : LineNo) (e : Account) (warns graces : Bool) : State :=
  let first := if warns then s.notifyOwner n (.lowBalance n (min (e.balance - 1) (e.warn - 1))) else s
  if graces then first.notifyOwner n (.grace n e.grace) else first

theorem told_warns : told s n e true false = s.notifyOwner n (.lowBalance n (min (e.balance - 1) (e.warn - 1))) := rfl

theorem told_graces (w : Bool) : told s n e w true = (told s n e w false).notifyOwner n (.grace n e.grace) := rfl

theorem told_kept (s : State) (n : LineNo) (e : Account) (w g : Bool) :
    (∀ m, (told s n e w g).ses m = s.ses m) ∧ ∀ h, (told s n e w g).host h = s.host h := by
  cases w <;> cases g <;> simp [told]

theorem requested_ne_nil (feed : List (Fin 16)) (slot : Fin 16) : requested feed slot ≠ [] := by
  unfold requested
  split
  · simp
  next h => exact fun h0 => h (by simp [h0])

/-! ### What a charge leaves -/

/-- A record after units charged, with the debited units and the overdraft they make. -/
def chargedSession (r : Session) (e : Account) (d o : Nat) (warns graces : Bool) : Session :=
  { r with
    debited := d, overdraft := o, warned := r.warned || warns
    graceTimer := if graces then .running (e.grace * 60000) else r.graceTimer
    feed := chargeFeed r.feed warns graces
    cursor := if warns || graces then cursorRequested r else r.cursor }

/-- Units charged on a line whose account has the entry e: k of them, as far as the balance goes from the balance. -/
structure Charged (n : LineNo) (e : Account) (s t : State) (k d o : Nat) (warns graces : Bool) : Prop where
  accounts : t.accounts = s.accounts.map fun x =>
    if x.number = e.number then { x with balance := x.balance - min k e.balance } else x
  ses : t.ses n = chargedSession (s.ses n) e d o warns graces
  port : ∀ j, t.port j = (told s n e warns graces).port j
  others : unchangedBut [.session n, .accounts, .port .hostA, .port .hostB] s t

theorem number_of_accountOf (he : s.accountOf n = some e) : (s.ses n).account = some e.number ∧ s.account? e.number = some e := by
  obtain ⟨a, ha, hf⟩ := Option.bind_eq_some_iff.1 he
  obtain ⟨-, rfl⟩ := account?_eq_some hf
  exact ⟨ha, hf⟩

/-- The entry of the line's account after a charge. -/
theorem Charged.accountOf {k d o : Nat} {w g : Bool} (h : Charged n e s t k d o w g) (he : s.accountOf n = some e) :
    t.accountOf n = some { e with balance := e.balance - min k e.balance } := by
  obtain ⟨ha, hf⟩ := number_of_accountOf he
  have hmod : t.accounts = (s.modAccount e.number fun x => { x with balance := x.balance - min k e.balance }).accounts := by
    rw [h.accounts]
    simp [State.modAccount]
  rw [State.accountOf, h.ses, chargedSession, ha, Option.bind_some, State.account?, hmod]
  exact AccountOrders.account?_modAccount hf fun x hx => hx

theorem Charged.refl (n : LineNo) (e : Account) (s : State) :
    Charged n e s s 0 (s.ses n).debited (s.ses n).overdraft false false where
  accounts := by
    refine (List.map_id'' (fun x => ?_) _).symm
    rw [Nat.zero_min, Nat.sub_zero]
    exact ite_self x
  ses := by simp [chargedSession, chargeFeed]
  port _ := rfl
  others := unchangedBut_refl _ s

/-! ### One unit (R139, R140, R142) -/

/-- The unit debit alone. -/
theorem unitDebit_charged (he : s.accountOf n = some e) :
    (s.unitDebit n).2 = decide (e.balance = 0) ∧
    Charged n e s (s.unitDebit n).1 1
      (if 0 < e.balance then min ((s.ses n).debited + 1) 16777215 else (s.ses n).debited)
      (if 0 < e.balance then (s.ses n).overdraft else min ((s.ses n).overdraft + 1) 16777215) false false := by
  obtain ⟨ha, -⟩ := number_of_accountOf he
  by_cases hb : 0 < e.balance
  · rw [State.unitDebit_paid s n he hb, if_pos hb, if_pos hb]
    refine ⟨(decide_eq_false (by omega)).symm, ?_, ?_, fun j => ?_, ?_⟩
    · show ((s.modAccountOf n _).modSes n _).accounts = _
      rw [State.accounts_modSes, accounts_modAccountOf ha, Nat.min_eq_left hb]
    · simp [chargedSession, chargeFeed, satInc, maxUnits]
    · simp [told]
    · dsimp only
      exact .trans (unchangedBut_modAccountOf n _ s (by simp)) (unchangedBut_modSes (n := n) _ _ (by simp))
  · have h0 : e.balance = 0 := by omega
    rw [State.unitDebit_overdrawn s n he h0, if_neg hb, if_neg hb]
    refine ⟨(decide_eq_true h0).symm, ?_, ?_, fun j => ?_, by dsimp only; exact unchangedBut_modSes _ s (by simp)⟩
    · refine ((Charged.refl n e s).accounts.trans ?_)
      rw [h0, Nat.min_zero, Nat.min_zero]
    · simp [chargedSession, chargeFeed, satInc, maxUnits]
    · simp [told]

/-- The low-balance judgement (R140). -/
theorem judgeWarning_eq (he : s.accountOf n = some e) :
    s.judgeWarning n = if e.balance < e.warn ∧ (s.ses n).warned = false then
      (((s.modSes n fun r => { r with warned := true }).requestMessage n slotLowBalance).notifyOwner n
        (.lowBalance n e.balance)) else s := by
  unfold State.judgeWarning
  rw [he]

theorem judgeGrace_eq (he : s.accountOf n = some e) (overdraft : Bool) :
    s.judgeGrace n overdraft = if overdraft = true ∧ (s.ses n).graceTimer = .stopped then
      if e.grace = 0 then (s, true)
      else (((s.modSes n fun r => { r with graceTimer := .running (e.grace * 60000) }).requestMessage n
          slotGrace).notifyOwner n (.grace n e.grace), false)
      else (s, false) := by
  unfold State.judgeGrace
  rw [he]

/-- The warning follows a debit that leaves the balance below the threshold (R140). -/
theorem Charged.warn {d o : Nat} (h : Charged n e s t 1 d o false false) (he : s.accountOf n = some e) :
    Charged n e s (t.judgeWarning n) 1 d o (decide (e.balance - 1 < e.warn) && !(s.ses n).warned) false := by
  have hb : e.balance - min 1 e.balance = e.balance - 1 := by omega
  have hw : (t.ses n).warned = (s.ses n).warned := by simp [h.ses, chargedSession]
  rw [judgeWarning_eq (h.accountOf he)]
  dsimp only
  rw [hb, hw]
  by_cases hc : e.balance - 1 < e.warn ∧ (s.ses n).warned = false
  · have : (decide (e.balance - 1 < e.warn) && !(s.ses n).warned) = true := by simpa using hc
    rw [if_pos hc, this, requestMessage_eq]
    refine ⟨?_, ?_, fun j => ?_, ?_⟩
    · simpa using h.accounts
    · rw [State.ses_notifyOwner, State.ses_modSes_self, State.ses_modSes_self, h.ses]
      simp [chargedSession, chargeFeed, cursorRequested, slotLowBalance]
    · rw [told_warns, Nat.min_eq_left (by omega)]
      refine port_notifyOwner_congr ?_ (fun j => ?_) (fun g => ?_) _ j
      · simp [h.ses, chargedSession]
      · rw [State.port_modSes, State.port_modSes, h.port j]
        rfl
      · rw [State.host_modSes, State.host_modSes]
        exact h.others (.host g) (by simp)
    · exact ((h.others.trans (unchangedBut_modSes _ _ (by simp))).trans (unchangedBut_modSes _ _ (by simp))).trans
        (unchanged_notifyOwner _ _ _)
  · rw [if_neg hc]
    have : (decide (e.balance - 1 < e.warn) && !(s.ses n).warned) = false := by
      rw [Bool.eq_false_iff]
      simpa using hc
    rwa [this]

/-- Grace follows an overdraft unit while its timer is stopped (R142). -/
theorem Charged.grace {d o : Nat} {w : Bool} (h : Charged n e s t 1 d o w false) (he : s.accountOf n = some e)
    (overdraft : Bool) :
    Charged n e s (t.judgeGrace n overdraft).1 1 d o w
      (overdraft && decide ((s.ses n).graceTimer = .stopped) && decide (0 < e.grace)) ∧
    (t.judgeGrace n overdraft).2 = (overdraft && decide ((s.ses n).graceTimer = .stopped) && decide (e.grace = 0)) := by
  have hg : (t.ses n).graceTimer = (s.ses n).graceTimer := by simp [h.ses, chargedSession]
  rw [judgeGrace_eq (h.accountOf he)]
  dsimp only
  rw [hg]
  by_cases hc : overdraft = true ∧ (s.ses n).graceTimer = .stopped
  · have hc' : (overdraft && decide ((s.ses n).graceTimer = .stopped)) = true := by simpa using hc
    rw [if_pos hc, hc', Bool.true_and, Bool.true_and]
    by_cases h0 : e.grace = 0
    · rw [if_pos h0, decide_eq_false (by omega), decide_eq_true h0]
      exact ⟨h, rfl⟩
    · rw [if_neg h0, decide_eq_true (by omega), decide_eq_false h0, requestMessage_eq]
      refine ⟨⟨?_, ?_, fun j => ?_, ?_⟩, rfl⟩
      · simpa using h.accounts
      · rw [State.ses_notifyOwner, State.ses_modSes_self, State.ses_modSes_self, h.ses]
        cases w <;> simp [chargedSession, chargeFeed, cursorRequested, slotGrace, requested_ne_nil]
      · rw [told_graces]
        refine port_notifyOwner_congr ?_ (fun j => ?_) (fun g => ?_) _ j
        · simp [h.ses, chargedSession, (told_kept s n e w false).1]
        · rw [State.port_modSes, State.port_modSes, h.port j]
        · rw [State.host_modSes, State.host_modSes, (told_kept s n e w false).2]
          exact h.others (.host g) (by simp)
      · exact ((h.others.trans (unchangedBut_modSes _ _ (by simp))).trans (unchangedBut_modSes _ _ (by simp))).trans
          (unchanged_notifyOwner _ _ _)
  · have hc' : (overdraft && decide ((s.ses n).graceTimer = .stopped)) = false := by
      rw [Bool.eq_false_iff]
      simpa using hc
    rw [if_neg hc, hc']
    exact ⟨h, rfl⟩

/-- A unit charged: the debit, the warning, then the grace start. -/
theorem chargeUnit_charged (he : s.accountOf n = some e) :
    Charged n e s (s.chargeUnit n).1 1
      (if 0 < e.balance then min ((s.ses n).debited + 1) 16777215 else (s.ses n).debited)
      (if 0 < e.balance then (s.ses n).overdraft else min ((s.ses n).overdraft + 1) 16777215)
      (decide (e.balance - 1 < e.warn) && !(s.ses n).warned)
      (decide (e.balance = 0) && decide ((s.ses n).graceTimer = .stopped) && decide (0 < e.grace)) ∧
    (s.chargeUnit n).2 = (decide (e.balance = 0) && decide ((s.ses n).graceTimer = .stopped) && decide (e.grace = 0)) := by
  obtain ⟨hover, hdebit⟩ := unitDebit_charged he
  unfold State.chargeUnit
  dsimp only
  rw [hover]
  exact (hdebit.warn he).grace he _

theorem notifyOwner_owned {h : Computer} (ho : (s.ses n).owner = some h) (m : Notice) :
    s.notifyOwner n m = s.postNotice h.link m := by
  unfold State.notifyOwner
  rw [ho]

/-- Only the owner's link is told. -/
theorem port_told_ne {h : Computer} {j : Link} (ho : (s.ses n).owner = some h) (hj : j ≠ h.link) (w g : Bool) :
    (told s n e w g).port j = s.port j := by
  have first : ∀ w, (told s n e w false).port j = s.port j := by
    intro w
    cases w
    · rfl
    · rw [told_warns, notifyOwner_owned ho, State.port_postNotice_ne _ _ _ _ hj]
  cases g
  · exact first w
  · rw [told_graces, notifyOwner_owned (by rw [(told_kept s n e w false).1, ho]), State.port_postNotice_ne _ _ _ _ hj, first]

/-- Settles O59: the law of one unit, with the entry of the account the only one of its number. -/
theorem unitCharged : Obligations.UnitCharged := by
  intro n h e warns s u clear hu htable he ho hw
  obtain ⟨hc, hclear⟩ := chargeUnit_charged he
  rw [hu, ← hw] at hc
  rw [hu] at hclear
  obtain ⟨haccounts, hses, hport, hothers⟩ := hc
  dsimp only at haccounts hses hport hothers hclear
  have he' : e ∈ s.accounts := (account?_eq_some (number_of_accountOf he).2).1
  refine ⟨?_, ?_, fun hb => ?_, fun hb => ?_, ?_, ?_, fun p hp => ?_⟩
  · rw [haccounts]
    refine List.map_congr_left fun x hx => ?_
    by_cases hn : x.number = e.number
    · obtain rfl := tableLaw_unique htable hx he' hn
      rw [if_pos rfl, if_pos rfl, show x.balance - min 1 x.balance = x.balance - 1 by omega]
    · rw [if_neg hn, if_neg hn]
  · rw [hses]
    rfl
  · have hgr : (decide (e.balance = 0) && decide ((s.ses n).graceTimer = .stopped) && decide (0 < e.grace)) = false := by
      rw [decide_eq_false (by omega)]
      rfl
    rw [hgr] at hses hport
    rw [hses, if_pos hb, if_pos hb]
    refine ⟨by rw [hclear, decide_eq_false (by omega)]; rfl, rfl, rfl, rfl, rfl, ?_⟩
    rw [hport]
    cases hwarns : warns with
    | false => rfl
    | true =>
      have hlt : e.balance - 1 < e.warn := by simp [hwarns] at hw; exact hw.1
      rw [told_warns, notifyOwner_owned ho, Nat.min_eq_left (by omega)]
      rfl
  · have hnot : ¬0 < e.balance := by omega
    rw [hses, if_neg hnot, if_neg hnot, hclear, hb]
    refine ⟨rfl, rfl, fun ht => ?_, fun ht hg => ?_, fun ht hg => ?_⟩
    · simp [chargedSession, ht]
    · simp [chargedSession, ht, hg]
    · simp [chargedSession, ht, hg, chargeFeed, Nat.ne_of_gt hg]
  · rw [hses]
    rfl
  · rw [hses]
    rfl
  · by_cases hlinks : p ∈ [Part.port .hostA, .port .hostB]
    · obtain ⟨j, rfl⟩ : ∃ j, p = .port j := by
        simp only [List.mem_cons, List.not_mem_nil, or_false] at hlinks
        rcases hlinks with rfl | rfl
        · exact ⟨_, rfl⟩
        · exact ⟨_, rfl⟩
      exact (hport j).trans (port_told_ne ho (fun hj => hp (by simp [hj])) _ _)
    · refine hothers p fun hmem => ?_
      simp only [List.mem_cons, List.not_mem_nil, or_false] at hmem hp hlinks
      tauto

/-! ### Several units (R135, R144) -/

/-- The last of several units. -/
theorem chargeUnits_succ (s : State) (n : LineNo) (k : Nat) :
    s.chargeUnits n (k + 1) = (((s.chargeUnits n k).1.chargeUnit n).1,
      (s.chargeUnits n k).2 || ((s.chargeUnits n k).1.chargeUnit n).2) := by
  induction k generalizing s with
  | zero => simp [State.chargeUnits]
  | succ k ih =>
    rw [State.chargeUnits, ih]
    simp [State.chargeUnits, Bool.or_assoc]

/-- A charge followed by another is one charge, when each tells the line at most once what the other does not. -/
theorem chargedSession_trans (r : Session) {e e' : Account} (hgr : e'.grace = e.grace) {d o d' o' : Nat} {w g w' g' : Bool}
    (hw : w' = true → w = false ∧ g = false) (hg : g' = true → g = false) :
    chargedSession (chargedSession r e d o w g) e' d' o' w' g' = chargedSession r e d' o' (w || w') (g || g') := by
  cases w' with
  | true =>
    obtain ⟨rfl, rfl⟩ := hw rfl
    simp [chargedSession, chargeFeed, cursorRequested, hgr]
  | false =>
    cases g' with
    | true =>
      obtain rfl := hg rfl
      cases w <;> simp [chargedSession, chargeFeed, cursorRequested, hgr, requested_ne_nil]
    | false => cases g <;> simp [chargedSession, chargeFeed]

theorem Charged.step {k d o d' o' : Nat} {w g w' g' : Bool} (h : Charged n e s t k d o w g)
    (h' : Charged n { e with balance := e.balance - min k e.balance } t u 1 d' o' w' g')
    (hlow : w' = true → w = false ∧ g = false ∧
      min (e.balance - min k e.balance - 1) (e.warn - 1) = min (e.balance - 1) (e.warn - 1))
    (hg : g' = true → g = false) : Charged n e s u (k + 1) d' o' (w || w') (g || g') where
  accounts := by
    rw [h'.accounts, h.accounts, List.map_map]
    refine List.map_congr_left fun x _ => ?_
    by_cases hx : x.number = e.number
    · simp only [Function.comp, hx, if_true]
      rw [show x.balance - min k e.balance - min 1 (e.balance - min k e.balance) = x.balance - min (k + 1) e.balance by
        omega]
    · simp [hx]
  ses := by
    rw [h'.ses, h.ses]
    exact chargedSession_trans _ rfl (fun hw' => ⟨(hlow hw').1, (hlow hw').2.1⟩) hg
  port j := by
    have howner : (t.ses n).owner = (s.ses n).owner := by simp [h.ses, chargedSession]
    have hhost : ∀ g, t.host g = s.host g := fun g => h.others (.host g) (by simp)
    have hwarned : ∀ j, (told t n { e with balance := e.balance - min k e.balance } w' false).port j =
        (told s n e (w || w') g).port j := by
      intro j
      cases w' with
      | false =>
        rw [Bool.or_false]
        exact h.port j
      | true =>
        obtain ⟨rfl, rfl, hval⟩ := hlow rfl
        rw [told_warns, hval]
        exact port_notifyOwner_congr howner h.port hhost _ j
    rw [h'.port]
    cases g' with
    | false =>
      rw [Bool.or_false]
      exact hwarned j
    | true =>
      obtain rfl := hg rfl
      rw [told_graces]
      refine port_notifyOwner_congr ?_ hwarned (fun g => ?_) _ j
      · rw [(told_kept _ _ _ _ _).1, (told_kept _ _ _ _ _).1, howner]
      · rw [(told_kept _ _ _ _ _).2, (told_kept _ _ _ _ _).2, hhost]
  others := h.others.trans h'.others

/-- Whether k units of a line bring a warning, and whether they start its grace or ask for its clear (R140, R142). -/
def unitsWarn (r : Session) (e : Account) (k : Nat) : Bool := decide (0 < k) && decide (e.balance - k < e.warn) && !r.warned
def unitsGrace (r : Session) (e : Account) (k : Nat) : Bool := decide (e.balance < k) && decide (r.graceTimer = .stopped)

theorem paid_succ {d b k top : Nat} (h : d + min (k + 1) b ≤ top) :
    (if 0 < b - min k b then min (d + min k b + 1) top else d + min k b) = d + min (k + 1) b := by
  by_cases hp : 0 < b - min k b
  · rw [if_pos hp]; omega
  · rw [if_neg hp]; omega

theorem overdrawn_succ {o b k top : Nat} (h : o + (k + 1 - b) ≤ top) :
    (if 0 < b - min k b then o + (k - b) else min (o + (k - b) + 1) top) = o + (k + 1 - b) := by
  by_cases hp : 0 < b - min k b
  · rw [if_pos hp]; omega
  · rw [if_neg hp]; omega

theorem unitsWarn_succ (r : Session) (e : Account) (k : Nat) : unitsWarn r e (k + 1) =
    (unitsWarn r e k || (decide (e.balance - (k + 1) < e.warn) && !(r.warned || unitsWarn r e k))) := by
  unfold unitsWarn
  cases r.warned with
  | true => simp
  | false =>
    by_cases hb : e.balance - k < e.warn
    · have : e.balance - (k + 1) < e.warn := by omega
      by_cases hk : 0 < k <;> simp [hb, this, hk]
    · simp [hb]

theorem unitsGrace_succ (r : Session) (e : Account) (k : Nat) :
    unitsGrace r e (k + 1) = (decide (e.balance - min k e.balance = 0) && decide (r.graceTimer = .stopped)) := by
  unfold unitsGrace
  congr 1
  exact decide_eq_decide.2 (by omega)

/-- A unit warns after others only as its balance first falls below the threshold. -/
theorem warn_left {b w k : Nat} (hlow : b - (k + 1) < w) (hfirst : 0 < k → w ≤ b - k) :
    min (b - min k b - 1) (w - 1) = min (b - 1) (w - 1) := by
  rcases Nat.eq_zero_or_pos k with rfl | hk
  · omega
  · have := hfirst hk
    omega

/-- Several units charged on a line whose account has the entry e, as far as the counters go (R135, R144). -/
theorem chargeUnits_charged (he : s.accountOf n = some e) (k : Nat)
    (hd : (s.ses n).debited + min k e.balance ≤ 16777215) (ho : (s.ses n).overdraft + (k - e.balance) ≤ 16777215) :
    Charged n e s (s.chargeUnits n k).1 k ((s.ses n).debited + min k e.balance) ((s.ses n).overdraft + (k - e.balance))
      (unitsWarn (s.ses n) e k) (unitsGrace (s.ses n) e k && decide (0 < e.grace)) ∧
    (s.chargeUnits n k).2 = (unitsGrace (s.ses n) e k && decide (e.grace = 0)) := by
  induction k with
  | zero =>
    have hw : unitsWarn (s.ses n) e 0 = false := rfl
    have hg : unitsGrace (s.ses n) e 0 = false := rfl
    rw [hw, hg, Nat.zero_min, Nat.zero_sub]
    exact ⟨Charged.refl n e s, rfl⟩
  | succ k ih =>
    obtain ⟨hk, hclear⟩ := ih (by omega) (by omega)
    set t := (s.chargeUnits n k).1 with ht
    obtain ⟨hone, hcone⟩ := chargeUnit_charged (hk.accountOf he)
    rw [chargeUnits_succ, ← ht, hclear]
    dsimp only at hone hcone ⊢
    rw [hcone]
    obtain ⟨htd, hto, htw, htg⟩ : (t.ses n).debited = (s.ses n).debited + min k e.balance ∧
        (t.ses n).overdraft = (s.ses n).overdraft + (k - e.balance) ∧
        (t.ses n).warned = ((s.ses n).warned || unitsWarn (s.ses n) e k) ∧
        (t.ses n).graceTimer = (if (unitsGrace (s.ses n) e k && decide (0 < e.grace)) = true then .running (e.grace * 60000)
          else (s.ses n).graceTimer) := by
      rw [hk.ses]
      exact ⟨rfl, rfl, rfl, rfl⟩
    rw [htd, hto, htw, paid_succ hd, overdrawn_succ ho,
      show e.balance - min k e.balance - 1 = e.balance - (k + 1) by omega] at hone
    have hgrace : (decide (e.balance - min k e.balance = 0) && decide ((t.ses n).graceTimer = .stopped)) =
        (unitsGrace (s.ses n) e (k + 1) && !(unitsGrace (s.ses n) e k && decide (0 < e.grace))) := by
      rw [unitsGrace_succ, htg]
      cases (unitsGrace (s.ses n) e k && decide (0 < e.grace)) <;> simp
    rw [hgrace] at hone ⊢
    have hmono : unitsGrace (s.ses n) e k = true → unitsGrace (s.ses n) e (k + 1) = true := by
      simp only [unitsGrace, Bool.and_eq_true, decide_eq_true_eq]
      exact fun h => ⟨by omega, h.2⟩
    have hzero : decide (e.grace = 0) = !decide (0 < e.grace) := by
      rw [← decide_not]
      exact decide_eq_decide.2 (by omega)
    have hboth := hk.step hone (fun hw => ?_) (fun hg => ?_)
    · rw [← unitsWarn_succ] at hboth
      rw [hzero]
      revert hboth hmono
      cases unitsGrace (s.ses n) e k <;> cases unitsGrace (s.ses n) e (k + 1) <;> cases decide (0 < e.grace) <;> simp
    · simp only [Bool.and_eq_true, decide_eq_true_eq, Bool.not_eq_true', Bool.or_eq_false_iff] at hw
      obtain ⟨hlow, hnot, hwarn⟩ := hw
      have hfirst : 0 < k → e.warn ≤ e.balance - k := by
        intro h0
        simpa [unitsWarn, h0, hnot] using hwarn
      refine ⟨hwarn, ?_, warn_left hlow hfirst⟩
      rw [Bool.and_eq_false_iff, unitsGrace, Bool.and_eq_false_iff, decide_eq_false_iff_not]
      exact .inl (.inl fun hover => absurd (hfirst (by omega)) (by omega))
    · simp only [Bool.and_eq_true, Bool.not_eq_true'] at hg
      exact hg.1.2

end Sys2Proof.UnitsCharged
end

section
/-! PROOFS. A clear request taken: what it finds, how it drains or hangs up, and what it leaves in the records. -/

namespace Sys2Proof.ClearRequests

open Sys2Proof.Machine Sys2Proof.Stations Sys2Proof.Clears Sys2Proof.LineControl Sys2Proof.Keeping

variable {s t u w : State} {n : LineNo} {i : Instr} {c : Cause}

/-! ### Phase DRAIN or hang-up (R11, R12) -/

/-- What a clear with a cause leaves of what a line holds to send (R11, R12, R51). -/
def leftTx (r : Session) (c : Cause) : List Byte := if State.hangsUpAtOnce c ∨ r.rate = none then [] else r.tx

def leftFeed (r : Session) (c : Cause) : List (Fin 16) :=
  if State.hangsUpAtOnce c ∨ r.rate = none ∨ c = .callerDropped then [] else r.feed

/-- A line whose drain is judged keeps its record, but for what it holds to send, its phase and its state timer. -/
theorem drainContents_ses (t : State) (n : LineNo) (hc : State.hangsUpAtOnce c = false) :
    ∃ cur, (t.drainContents n c).ses n = { t.ses n with tx := leftTx (t.ses n) c, feed := leftFeed (t.ses n) c, cursor := cur } ∧
      (t.drainContents n c).unit n = t.unit n := by
  unfold State.drainContents leftTx leftFeed
  cases hr : (t.ses n).rate with
  | none => exact ⟨0, by simp [State.emptyOut, hr], by simp [State.emptyOut]⟩
  | some r =>
    by_cases hd : c = .callerDropped
    · exact ⟨0, by simp [hd, State.emptyFeed, State.hangsUpAtOnce, hr], by simp [hd, State.emptyFeed]⟩
    · exact ⟨(t.ses n).cursor, by simp [hc, hd], by simp [hd]⟩

/-- Phase DRAIN begun, or complete at once (R11, R12). -/
theorem startDrain_law (t : State) (n : LineNo) (c : Cause) :
    (leftTx (t.ses n) c ≠ [] ∨ leftFeed (t.ses n) c ≠ [] →
      ∃ cur, (t.startDrain n c).ses n = { t.ses n with
          tx := leftTx (t.ses n) c, feed := leftFeed (t.ses n) c, cursor := cur, phase := .drain,
          stateTimer := .running (t.params.drainLimit * 1000) } ∧
        (t.startDrain n c).unit n = t.unit n) ∧
    (leftTx (t.ses n) c = [] → leftFeed (t.ses n) c = [] →
      ∃ v : State, (∃ cur ph ti, v.ses n =
          { t.ses n with tx := [], feed := [], cursor := cur, phase := ph, stateTimer := ti }) ∧
        v.unit n = t.unit n ∧ v.params = t.params ∧ t.startDrain n c = v.hangUp n) := by
  unfold State.startDrain
  by_cases hc : State.hangsUpAtOnce c = true
  · rw [if_pos hc]
    refine ⟨fun h => ?_, fun _ _ => ⟨t.emptyOut n, ⟨0, _, _, by simp [State.emptyOut]; exact ⟨rfl, rfl⟩⟩,
      by simp [State.emptyOut], rfl, rfl⟩⟩
    simp [leftTx, leftFeed, hc] at h
  · rw [if_neg hc]
    obtain ⟨cur, hses, hunit⟩ := drainContents_ses (c := c) t n (by simpa using hc)
    have hpar : (t.drainContents n c).params = t.params := rest_drainContents t n c .params (by simp [restParts])
    generalize t.drainContents n c = left at hses hunit hpar
    simp only [State.ses_modSes_self, hses, List.isEmpty_iff]
    refine ⟨fun h => ⟨cur, ?_⟩, fun htx hfeed => ⟨_, ⟨cur, .drain, .running (t.params.drainLimit * 1000), ?_⟩, ?_, ?_,
      if_pos ⟨hfeed, htx⟩⟩⟩
    · rw [if_neg (by tauto)]
      simp [hses, hunit]
    · rw [State.ses_modSes_self, hses, htx, hfeed]
    · rw [State.unit_modSes, hunit]
    · rw [State.params_modSes, hpar]

/-- A line that hangs up with nothing left to send: in phase GUARD, or with a guard time of 0 at rest (R14, R15). -/
theorem hangUp_cases (v : State) (n : LineNo) :
    (v.params.guardTime ≠ 0 ∧ (v.hangUp n).ses n =
        { v.ses n with phase := .guard, stateTimer := .running (v.params.guardTime * 1000) } ∧
      (v.hangUp n).unit n = { v.unit n with
        ans := false, trdy := false, carrier := .stopped, speed := .stopped, receiver := .stopped, transmitter := .idle,
        flow := none }) ∨
    v.params.guardTime = 0 ∧ (v.hangUp n).ses n =
      (if (v.ses n).disablePending then outRecord (v.ses n) else idleRecord (v.ses n)) ∧
      ((v.hangUp n).unit n).ans = false := by
  obtain ⟨hguard, hrest⟩ := v.hangUp_hungUp n
  by_cases h : v.params.guardTime = 0
  · obtain ⟨hans, -, hout, hidle, -⟩ := hrest h
    refine .inr ⟨h, ?_, hans⟩
    cases hd : (v.ses n).disablePending with
    | true => exact (hout hd).1
    | false => exact (hidle hd).1
  · obtain ⟨hses, hunit, -⟩ := hguard h
    exact .inl ⟨h, hses, hunit⟩

/-- What a clear leaves of a line: phase DRAIN with something left to send, phase GUARD, or a line at rest (R7 to R15). -/
inductive Cleared (r : Session) (x : LineUnit) (p : Params) (c : Cause) : Session → LineUnit → Prop where
  | drains (cur : Nat) (h : leftTx r c ≠ [] ∨ leftFeed r c ≠ []) : Cleared r x p c { r with
      tx := leftTx r c, feed := leftFeed r c, cursor := cur, phase := .drain,
      stateTimer := .running (p.drainLimit * 1000) } x
  | guards (cur : Nat) (y : LineUnit) (htx : leftTx r c = []) (hfeed : leftFeed r c = []) (hg : p.guardTime ≠ 0)
      (hans : y.ans = false) (htrdy : y.trdy = false) (hrec : y.receiver = .stopped) (htran : y.transmitter = .idle)
      (hmodem : y.modem = x.modem) :
      Cleared r x p c { r with
        tx := [], feed := [], cursor := cur, phase := .guard, stateTimer := .running (p.guardTime * 1000) } y
  | rests (y : LineUnit) (htx : leftTx r c = []) (hfeed : leftFeed r c = []) (hg : p.guardTime = 0) (hans : y.ans = false) :
      Cleared r x p c (if r.disablePending then outRecord r else idleRecord r) y

theorem startDrain_cleared (t : State) (n : LineNo) (c : Cause) :
    Cleared (t.ses n) (t.unit n) t.params c ((t.startDrain n c).ses n) ((t.startDrain n c).unit n) := by
  obtain ⟨hdrain, hhang⟩ := startDrain_law t n c
  by_cases h : leftTx (t.ses n) c ≠ [] ∨ leftFeed (t.ses n) c ≠ []
  · obtain ⟨cur, hses, hunit⟩ := hdrain h
    rw [hses, hunit]
    exact .drains cur h
  · obtain ⟨htx, hfeed⟩ : leftTx (t.ses n) c = [] ∧ leftFeed (t.ses n) c = [] := by simpa using h
    obtain ⟨v, ⟨cur, ph, ti, hv⟩, hu, hp, he⟩ := hhang htx hfeed
    rw [he]
    rcases hangUp_cases v n with ⟨hg, hses, hunit⟩ | ⟨hg, hses, hans⟩
    · rw [hses, hv, hp]
      rw [hp] at hg
      exact .guards cur _ htx hfeed hg (by rw [hunit]) (by rw [hunit]) (by rw [hunit]) (by rw [hunit]) (by rw [hunit, hu])
    · rw [hses, hv]
      rw [hp] at hg
      exact .rests _ htx hfeed hg hans

theorem atRest_fields (r : Session) :
    (if r.disablePending then outRecord r else idleRecord r).state ∈ [.idle, .outOfService] := by
  cases r.disablePending
  · exact List.mem_cons_self
  · exact List.mem_cons_of_mem _ List.mem_cons_self

/-- What the clear of a line leaves, whatever the line had to send. -/
theorem Cleared.fields {r r' : Session} {x x' : LineUnit} {p : Params} (h : Cleared r x p c r' x')
    (hs : r.state = .clearing) :
    r'.state.active = false ∧ r'.state ≠ .ringing ∧
      (r'.state = .clearing → r'.cause = r.cause ∧ r'.disablePending = r.disablePending) := by
  cases h with
  | drains => exact ⟨by rw [hs]; rfl, by rw [hs]; decide, fun _ => ⟨rfl, rfl⟩⟩
  | guards => exact ⟨by rw [hs]; rfl, by rw [hs]; decide, fun _ => ⟨rfl, rfl⟩⟩
  | rests =>
    have hrest := atRest_fields r
    simp only [List.mem_cons, List.not_mem_nil, or_false] at hrest
    rcases hrest with h | h <;> exact ⟨by rw [h]; rfl, by rw [h]; decide, fun hc => absurd (h.symm.trans hc) (by decide)⟩

/-- A field of the record that a reset leaves at a value, and that the clear of the line does not touch. -/
theorem Cleared.keeps_field {α : Type} {r r' : Session} {x x' : LineUnit} {p : Params} (h : Cleared r x p c r' x')
    {field : Session → α} {v : α} (hv : field r = v) (hout : field (outRecord r) = v) (hidle : field (idleRecord r) = v)
    (hrest : ∀ tx feed cur ph ti,
      field { r with tx := tx, feed := feed, cursor := cur, phase := ph, stateTimer := ti } = field r) : field r' = v := by
  cases h with
  | drains => exact (hrest ..).trans hv
  | guards => exact (hrest ..).trans hv
  | rests =>
    cases r.disablePending
    · exact hidle
    · exact hout

/-! ### The books of a clear (R8, R9) -/

open Sys2Proof.UnitsCharged

variable {e : Account} {was : LineState}

/-- The parts that the session closing and the withdrawal of an offer change. -/
def bookParts (n : LineNo) : List Part :=
  [.session n, .accounts, .records, .reservations, .serial, .port .hostA, .port .hostB]

/-- The end rounding (R145). -/
theorem endRounding_law (he : s.accountOf n = some e) :
    (s.endRounding n).ses n = { s.ses n with
      f := 0
      debited := if roundsUp (s.ses n) ∧ 0 < e.balance then min ((s.ses n).debited + 1) 16777215 else (s.ses n).debited
      overdraft := if roundsUp (s.ses n) ∧ e.balance = 0 then min ((s.ses n).overdraft + 1) 16777215
        else (s.ses n).overdraft } ∧
    (s.endRounding n).accounts = s.accounts.map (fun x => if x.number = e.number then
      { x with balance := if roundsUp (s.ses n) ∧ 0 < e.balance then x.balance - 1 else x.balance } else x) ∧
    (∀ j, (s.endRounding n).port j = s.port j) ∧
    unchangedBut (bookParts n) s (s.endRounding n) := by
  unfold State.endRounding
  dsimp only
  have hsub : ∀ p ∈ [Part.session n, .accounts, .port .hostA, .port .hostB], p ∈ bookParts n := by simp [bookParts]
  by_cases hr : 30000 ≤ (s.ses n).f
  · have hr' : roundsUp (s.ses n) = true := decide_eq_true hr
    obtain ⟨-, haccounts, hses, hport, hun⟩ := unitDebit_charged he
    rw [if_pos hr]
    refine ⟨?_, ?_, fun j => ?_, (hun.mono hsub).trans (unchangedBut_modSes _ _ (by simp [bookParts]))⟩
    · rw [State.ses_modSes_self, hses]
      simp only [chargedSession, hr', true_and, chargeFeed, Bool.false_eq_true, if_false, Bool.or_false]
      by_cases hb : 0 < e.balance
      · simp only [if_pos hb, if_neg (show ¬e.balance = 0 by omega)]
      · simp only [if_neg hb, if_pos (show e.balance = 0 by omega)]
    · rw [State.accounts_modSes, haccounts]
      refine List.map_congr_left fun x _ => ?_
      by_cases hb : 0 < e.balance
      · simp only [hr', hb, and_self, if_true, Nat.min_eq_left (show 1 ≤ e.balance from hb)]
      · simp [show e.balance = 0 by omega]
    · rw [State.port_modSes, hport]
      rfl
  · have hr' : roundsUp (s.ses n) = false := decide_eq_false hr
    rw [if_neg hr]
    refine ⟨?_, ?_, fun j => State.port_modSes .., unchangedBut_modSes _ _ (by simp [bookParts])⟩
    · rw [State.ses_modSes_self]
      simp [hr']
    · rw [State.accounts_modSes]
      refine (List.map_id'' (fun x => ?_) _).symm
      simp [hr']

theorem unchanged_queueRecord (t : State) (n : LineNo) (r : ChargeRecord) : unchangedBut (bookParts n) t (t.queueRecord r) := by
  unfold State.queueRecord
  exact unchanged_write (by simp [storeParts, Part.same, bookParts])

theorem notifyCleared_books (t : State) (n : LineNo) (was : LineState) (c : Cause) :
    (t.notifyCleared n was c).accounts = t.accounts ∧ (t.notifyCleared n was c).records = t.records ∧
    (t.notifyCleared n was c).reservations = t.reservations ∧ (t.notifyCleared n was c).serial = t.serial := by
  unfold State.notifyCleared
  by_cases h : was = .connected <;> simp [h]

/-- The session closing (R8): the record, the counts, and the owner told. -/
theorem closeSession_books (he : s.accountOf n = some e) (c : Cause) :
    (s.closeSession n was c).records = s.records ++ [{ closingRecord s n e.balance c with
      lastHost := if was = .connected then (s.ses n).owner else (s.ses n).prevOwner }] ∧
    (s.closeSession n was c).serial = (s.serial + 1) % 65536 ∧
    (s.closeSession n was c).reservations = s.reservations - 1 ∧
    (s.closeSession n was c).accounts = s.accounts.map (fun x => if x.number = e.number then
      { x with balance := if roundsUp (s.ses n) ∧ 0 < e.balance then x.balance - 1 else x.balance
               active := x.active - 1 } else x) ∧
    (∀ j, (s.closeSession n was c).port j = (if was = .connected then s.notifyOwner n (.cleared n c) else s).port j) ∧
    unchangedBut (bookParts n) s (s.closeSession n was c) := by
  obtain ⟨hses, haccounts, hport, hun⟩ := endRounding_law he
  obtain ⟨hacct, -⟩ := number_of_accountOf he
  have hkeep : ∀ p, p ∉ bookParts n → p.same s (s.endRounding n) := hun
  have hrecs : (s.endRounding n).records = s.records := by unfold State.endRounding; dsimp only; split <;> simp
  have hres : (s.endRounding n).reservations = s.reservations := by unfold State.endRounding; dsimp only; split <;> simp
  have hser : (s.endRounding n).serial = s.serial := by unfold State.endRounding; dsimp only; split <;> simp
  have hclock : (s.endRounding n).clock = s.clock := hkeep .clock (by simp [bookParts])
  set rounded := s.endRounding n with hrounded
  set counted := (rounded.queueRecord (rounded.buildRecord n was c)).modAccountOf n fun e => { e with active := e.active - 1 }
    with hcounted
  have hcses : counted.ses n = rounded.ses n := by rw [hcounted, State.ses_modAccountOf, State.ses_queueRecord]
  have hnotify : unchangedBut [.session n, .accounts, .port .hostA, .port .hostB] counted (counted.notifyCleared n was c) := by
    unfold State.notifyCleared
    exact unchanged_ite (fun _ => unchanged_notifyOwner _ _ _) fun _ => unchangedBut_refl _ _
  obtain ⟨haccounts', hrecords, hreservations, hserial⟩ := notifyCleared_books counted n was c
  refine ⟨?_, ?_, ?_, ?_, fun j => ?_, ?_⟩
  · refine hrecords.trans ?_
    rw [hcounted, State.records_modAccountOf, State.records_queueRecord, hrecs]
    refine congrArg (fun x => s.records ++ [x]) ?_
    simp only [State.buildRecord, hses, hser, hclock, closingRecord]
    rfl
  · refine hserial.trans ?_
    rw [hcounted, State.serial_modAccountOf, State.serial_queueRecord, hser]
  · refine hreservations.trans ?_
    rw [hcounted, State.reservations_modAccountOf, State.reservations_queueRecord, hres]
  · refine haccounts'.trans ?_
    rw [hcounted, accounts_modAccountOf (a := e.number) (by rw [State.ses_queueRecord, hses]; exact hacct),
      State.accounts_queueRecord, haccounts, List.map_map]
    refine List.map_congr_left fun x _ => ?_
    by_cases hx : x.number = e.number <;> simp [hx]
  · have hcport : ∀ j, counted.port j = s.port j := fun j => by
      rw [hcounted, State.port_modAccountOf, State.port_queueRecord, hport]
    have hlast : (s.closeSession n was c).port j = (counted.notifyCleared n was c).port j := State.port_modSes ..
    rw [hlast]
    unfold State.notifyCleared
    by_cases hw : was = .connected
    · rw [if_pos hw, if_pos hw]
      refine port_notifyOwner_congr (by rw [hcses, hses]) hcport (fun g => ?_) _ j
      rw [hcounted, State.host_modAccountOf, State.host_queueRecord]
      exact hun (.host g) (by simp [bookParts])
    · rw [if_neg hw, if_neg hw, hcport]
  · have hbill : unchangedBut (bookParts n) (counted.notifyCleared n was c) (s.closeSession n was c) := by
      show unchangedBut (bookParts n) _ ((counted.notifyCleared n was c).resetBilling n)
      exact unchangedBut_modSes _ _ (by simp [bookParts])
    have hcount : unchangedBut (bookParts n) rounded counted :=
      (unchanged_queueRecord rounded n _).trans (unchangedBut_modAccountOf _ _ _ (by simp [bookParts]))
    exact (hun.trans hcount).trans ((hnotify.mono (by simp [bookParts])).trans hbill)

theorem port_postNotice_agree (hp : ∀ j, t.port j = s.port j) (hh : ∀ g, t.host g = s.host g) (k : Link) (m : Notice) (j : Link) :
    (t.postNotice k m).port j = (s.postNotice k m).port j := by
  by_cases hj : j = k
  · subst hj
    exact port_postNotice_congr (hp _) (fun h _ => congrArg HostLink.up (hh h)) m
  · rw [State.port_postNotice_ne _ _ _ _ hj, State.port_postNotice_ne _ _ _ _ hj, hp]

/-- The target of an offer told that it is withdrawn, for a clear cause that has a reason (R9). -/
def toldWithdrawn (s : State) (n : LineNo) (o : Offer) (c : Cause) : State :=
  match State.withdrawReason c with
  | some why => s.postNotice o.target.link (.withdrawn n (s.ses n).toggle why)
  | none => s

theorem toldWithdrawn_agree (ht : (t.ses n).toggle = (s.ses n).toggle) (hp : ∀ j, t.port j = s.port j)
    (hh : ∀ g, t.host g = s.host g) (o : Offer) (c : Cause) (j : Link) :
    (toldWithdrawn t n o c).port j = (toldWithdrawn s n o c).port j := by
  unfold toldWithdrawn
  cases State.withdrawReason c with
  | none => exact hp j
  | some why =>
    dsimp only
    rw [ht]
    exact port_postNotice_agree hp hh _ _ j

/-- The withdrawal of an offer (R9): its target told, and the admission of an OFFERED line given back. -/
theorem withdrawOffer_books {o : Offer} (ho : (s.ses n).offer = some o) (c : Cause) :
    (∀ j, (s.withdrawOffer n was c).port j = (toldWithdrawn s n o c).port j) ∧
    (s.withdrawOffer n was c).records = s.records ∧ (s.withdrawOffer n was c).serial = s.serial ∧
    (was ≠ .offered → (s.withdrawOffer n was c).reservations = s.reservations ∧
      (s.withdrawOffer n was c).accounts = s.accounts) ∧
    (was = .offered → s.accountOf n = some e → (s.withdrawOffer n was c).reservations = s.reservations - 1 ∧
      (s.withdrawOffer n was c).accounts =
        s.accounts.map fun x => if x.number = e.number then { x with active := x.active - 1 } else x) := by
  have hdrop : ∀ j, (s.dropOffer n).port j = s.port j := fun j => State.port_modSes ..
  have htoggle : ((s.dropOffer n).ses n).toggle = (s.ses n).toggle := by rw [State.dropOffer, State.ses_modSes_self]
  set informed := toldWithdrawn (s.dropOffer n) n o c with hinformed
  have hport : ∀ j, informed.port j = (toldWithdrawn s n o c).port j :=
    toldWithdrawn_agree htoggle hdrop (fun g => State.host_modSes ..) o c
  obtain ⟨haccounts, hrecords, hserial, hreservations, hacct⟩ : informed.accounts = s.accounts ∧ informed.records = s.records ∧
      informed.serial = s.serial ∧ informed.reservations = s.reservations ∧
      (informed.ses n).account = (s.ses n).account := by
    rw [hinformed, toldWithdrawn]
    cases State.withdrawReason c <;> simp [State.dropOffer]
  have heq : s.withdrawOffer n was c = if was = .offered then informed.releaseAdmission n else informed := by
    cases hwr : State.withdrawReason c <;> simp [hinformed, toldWithdrawn, htoggle, State.withdrawOffer, ho, hwr]
  rw [heq]
  by_cases hw : was = .offered
  · rw [if_pos hw]
    refine ⟨fun j => ?_, ?_, ?_, fun h => absurd hw h, fun _ he => ⟨?_, ?_⟩⟩
    · rw [State.port_releaseAdmission, hport]
    · rw [State.records_releaseAdmission, hrecords]
    · rw [State.serial_releaseAdmission, hserial]
    · rw [State.reservations_releaseAdmission, hreservations]
    · rw [← haccounts]
      exact accounts_modAccountOf (s := { informed with reservations := informed.reservations - 1 })
        (hacct.trans (number_of_accountOf he).1) _
  · rw [if_neg hw]
    exact ⟨hport, hrecords, hserial, fun _ => ⟨hreservations, haccounts⟩, fun h => absurd h hw⟩

/-- What stands before the drain of a clear is judged, the final message apart. -/
theorem finalMessage_keeps (t : State) (n : LineNo) (c : Cause) : unchangedBut [.session n] t (t.finalMessage n c) := by
  unfold State.finalMessage
  split
  · exact unchanged_ite (fun _ => unchangedBut_modSes _ t (by simp)) fun _ => unchangedBut_refl _ t
  · exact unchangedBut_refl _ t

theorem takeClear_keeps (s : State) (n : LineNo) (c : Cause) : unchangedBut [.session n, .unit n] s (s.takeClear n c) := by
  unfold State.takeClear
  exact (unchangedBut_modSes _ s (by simp)).trans (unchangedBut_modUnit _ _ (by simp))

theorem accountOf_takeClear (s : State) (n : LineNo) (c : Cause) : (s.takeClear n c).accountOf n = s.accountOf n := by
  have : (s.takeClear n c).accounts = s.accounts := takeClear_keeps s n c .accounts (by simp)
  rw [State.accountOf, State.accountOf, State.ses_takeClear]
  exact congrArg _ (by funext a; rw [State.account?, State.account?, this])

/-- A clear of a CONNECTED or HELD line closes its session (R8). -/
theorem beforeDrain_closes (hs : (s.ses n).state = .connected ∨ (s.ses n).state = .held) (he : s.accountOf n = some e)
    (c : Cause) :
    (s.beforeDrain n c).records = s.records ++ [closingRecord s n e.balance c] ∧
    (s.beforeDrain n c).serial = (s.serial + 1) % 65536 ∧
    (s.beforeDrain n c).reservations = s.reservations - 1 ∧
    (s.beforeDrain n c).accounts = s.accounts.map (fun x => if x.number = e.number then
      { x with balance := if roundsUp (s.ses n) ∧ 0 < e.balance then x.balance - 1 else x.balance
               active := x.active - 1 } else x) ∧
    (∀ j, (s.ses n).offer = none → (s.beforeDrain n c).port j =
      (if (s.ses n).state = .connected then s.notifyOwner n (.cleared n c) else s).port j) := by
  have hne : (s.ses n).state ≠ .offered := by rcases hs with h | h <;> rw [h] <;> decide
  set taken := s.takeClear n c with htaken
  set closed := taken.closeSession n (s.ses n).state c with hclosed
  set withdrawn := closed.withdrawOffer n (s.ses n).state c with hwithdrawn
  have hbefore : s.beforeDrain n c = withdrawn.finalMessage n c := by
    unfold State.beforeDrain
    dsimp only
    rw [if_pos hs]
  have hfinal := finalMessage_keeps withdrawn n c
  rw [← hbefore] at hfinal
  have htake := takeClear_keeps s n c
  have hport : ∀ j, taken.port j = s.port j := fun j => htake (.port j) (by simp)
  have hhost : ∀ g, taken.host g = s.host g := fun g => htake (.host g) (by simp)
  have hses : taken.ses n = { s.ses n with
      state := .clearing, cause := some c, stateTimer := .stopped, idleTimer := .stopped, graceTimer := .stopped,
      rx := [], xoffSent := false } := s.ses_takeClear n c
  obtain ⟨hrec, hser, hres, hacc, hcport, -⟩ := closeSession_books (was := (s.ses n).state)
    (e := e) (s := taken) (n := n) (by rw [htaken, accountOf_takeClear, he]) c
  have hcses : closed.ses n = { taken.ses n with
      f := 0, bandSecs := Vector.replicate 4 0, heldSecs := 0, debited := 0, overdraft := 0, fee := 0,
      start := none, warned := false } := taken.ses_closeSession n _ c
  have hround : roundsUp (taken.ses n) = roundsUp (s.ses n) := by rw [hses]; rfl
  have hrecord : ({ closingRecord taken n e.balance c with
      lastHost := if (s.ses n).state = .connected then (taken.ses n).owner else (taken.ses n).prevOwner } : ChargeRecord) =
      closingRecord s n e.balance c := by
    unfold closingRecord
    dsimp only
    rw [hround, hses, show taken.serial = s.serial from htake .serial (by simp),
      show taken.clock = s.clock from htake .clock (by simp)]
  rw [hrecord, show taken.records = s.records from htake .records (by simp)] at hrec
  rw [show taken.serial = s.serial from htake .serial (by simp)] at hser
  rw [show taken.reservations = s.reservations from htake .reservations (by simp)] at hres
  rw [hround, show taken.accounts = s.accounts from htake .accounts (by simp)] at hacc
  have hbooks : withdrawn.records = closed.records ∧ withdrawn.serial = closed.serial ∧
      withdrawn.reservations = closed.reservations ∧ withdrawn.accounts = closed.accounts := by
    cases ho : (closed.ses n).offer with
    | none =>
      have : withdrawn = closed := by
        rw [hwithdrawn, State.withdrawOffer, ho]
      rw [this]
      exact ⟨rfl, rfl, rfl, rfl⟩
    | some o =>
      obtain ⟨-, h1, h2, h3, -⟩ := withdrawOffer_books (e := e) (was := (s.ses n).state) ho c
      exact ⟨h1, h2, (h3 hne).1, (h3 hne).2⟩
  obtain ⟨h1, h2, h3, h4⟩ := hbooks
  refine ⟨(hfinal .records (by simp)).trans (h1.trans hrec), (hfinal .serial (by simp)).trans (h2.trans hser),
    (hfinal .reservations (by simp)).trans (h3.trans hres), (hfinal .accounts (by simp)).trans (h4.trans hacc),
    fun j ho => ?_⟩
  · have : withdrawn = closed := by
      rw [hwithdrawn, State.withdrawOffer, hcses, hses]
      dsimp only
      rw [ho]
    refine ((hfinal (.port j) (by simp)).trans ((congrArg (·.port j) this).trans (hcport j))).trans ?_
    by_cases hc : (s.ses n).state = .connected
    · rw [if_pos hc, if_pos hc]
      exact port_notifyOwner_congr (by rw [hses]) hport hhost _ j
    · rw [if_neg hc, if_neg hc, hport]

/-- The session closing of a HELD line tells no host. -/
theorem port_closeSession_held (hw : was ≠ .connected) (c : Cause) (j : Link) : (s.closeSession n was c).port j = s.port j := by
  unfold State.closeSession State.endRounding State.resetBilling State.notifyCleared
  dsimp only
  rw [if_neg hw]
  split <;> simp

/-- A clear of a line with no owner to tell posts its offer's withdrawal only (R9). -/
theorem beforeDrain_told {o : Offer} (hs : (s.ses n).state ≠ .connected) (ho : (s.ses n).offer = some o) (c : Cause) (j : Link) :
    (s.beforeDrain n c).port j = (toldWithdrawn s n o c).port j := by
  set taken := s.takeClear n c with htaken
  set closed := (if (s.ses n).state = .connected ∨ (s.ses n).state = .held then taken.closeSession n (s.ses n).state c
    else taken) with hclosed
  have htake := takeClear_keeps s n c
  have hreach : reaches n taken closed :=
    reaches.ite (fun _ => (reaches.refl n taken).closeSession _ _) fun _ => reaches.refl n taken
  have hport : ∀ j, closed.port j = s.port j := by
    intro j
    rw [hclosed, ← show taken.port j = s.port j from htake (.port j) (by simp)]
    split
    · exact port_closeSession_held hs c j
    · rfl
  obtain ⟨ht, hoffer⟩ : (closed.ses n).toggle = (s.ses n).toggle ∧ (closed.ses n).offer = some o := by
    obtain ⟨f, bs, hsec, d, o', fe, st, w, hses, -⟩ := State.ses_closed n c (s.ses n).state taken
    rw [hclosed, hses, htaken, State.ses_takeClear]
    exact ⟨rfl, ho⟩
  obtain ⟨hwport, -⟩ := withdrawOffer_books (e := Account.fresh 0) (was := (s.ses n).state) hoffer c
  refine ((finalMessage_keeps _ n c (.port j) (by simp)).trans (hwport j)).trans (toldWithdrawn_agree ht hport (fun g => ?_) o c j)
  exact (hreach (.host g) (by simp [lineParts])).trans (htake (.host g) (by simp))

/-- A clear of a line that is not CONNECTED or HELD withdraws its offer, and gives back the admission of an OFFERED one
(R9). -/
theorem beforeDrain_withdraws {o : Offer} (hs : ¬((s.ses n).state = .connected ∨ (s.ses n).state = .held))
    (ho : (s.ses n).offer = some o) (c : Cause) :
    (s.beforeDrain n c).records = s.records ∧ (s.beforeDrain n c).serial = s.serial ∧
    ((s.ses n).state = .offered → s.accountOf n = some e → (s.beforeDrain n c).reservations = s.reservations - 1 ∧
      (s.beforeDrain n c).accounts =
        s.accounts.map fun x => if x.number = e.number then { x with active := x.active - 1 } else x) := by
  set taken := s.takeClear n c with htaken
  set withdrawn := taken.withdrawOffer n (s.ses n).state c with hwithdrawn
  have hbefore : s.beforeDrain n c = withdrawn.finalMessage n c := by
    unfold State.beforeDrain
    dsimp only
    rw [if_neg hs]
  have hfinal := finalMessage_keeps withdrawn n c
  rw [← hbefore] at hfinal
  have htake := takeClear_keeps s n c
  obtain ⟨-, hrec, hser, -, hoffered⟩ := withdrawOffer_books (s := taken) (n := n) (was := (s.ses n).state) (e := e)
    ((takeClear_account s n c).2.trans ho) c
  refine ⟨?_, ?_, fun hst he => ?_⟩
  · exact (hfinal .records (by simp)).trans (hrec.trans (htake .records (by simp)))
  · exact (hfinal .serial (by simp)).trans (hser.trans (htake .serial (by simp)))
  · obtain ⟨h1, h2⟩ := hoffered hst ((accountOf_takeClear s n c).trans he)
    refine ⟨(hfinal .reservations (by simp)).trans (h1.trans ?_), (hfinal .accounts (by simp)).trans (h2.trans ?_)⟩
    · rw [show taken.reservations = s.reservations from htake .reservations (by simp)]
    · rw [show taken.accounts = s.accounts from htake .accounts (by simp)]

end Sys2Proof.ClearRequests
end

section
/-! PROOFS. The commands that send a clear request, and what each leaves: the session closed, the offer withdrawn, the
drain begun. -/

namespace Sys2Proof.ClearOrders


open Sys2Proof.Machine Sys2Proof.Stations Sys2Proof.Supervision Sys2Proof.Clears Sys2Proof.LineControl Sys2Proof.RelayBuffers
open Sys2Proof.UnitsCharged Sys2Proof.ClearRequests

variable {s t u w : State} {n : LineNo} {i : Instr} {c : Cause} {e : Account}

/-! ### A line about to be cleared -/

/-- A line whose clear is about to be taken: its record but for disable-pending and two timers, its Line Unit but for the
pin and watch that the command is about, and every count and host queue stand as the command found them. -/
structure Poised (i : Instr) (c : Cause) (n : LineNo) (s w : State) : Prop where
  ses : ∃ idle grace, w.ses n = { s.ses n with
    disablePending := (s.ses n).disablePending || disables i, idleTimer := idle, graceTimer := grace }
  outputs : (w.unit n).ans = (s.unit n).ans ∧ (w.unit n).trdy = (s.unit n).trdy ∧
    (w.unit n).transmitter = (s.unit n).transmitter ∧ (w.unit n).receiver = (s.unit n).receiver
  car : c ≠ .callerDropped → (w.unit n).car = (s.unit n).car
  links : ∀ h, (w.host h).up = (s.host h).up ∧ (w.port (Computer.link h)).notices = (s.port (Computer.link h)).notices ∧
    (w.port (Computer.link h)).lost = (s.port (Computer.link h)).lost ∧
    (w.port (Computer.link h)).mask = (s.port (Computer.link h)).mask
  others : unchangedBut ([.session n, .unit n, .sup n, .port .acct] ++ clearFrame i) s w

/-- The reply of a frame taken, if the command is one. -/
inductive Finished (i : Instr) : State → State → Prop where
  | event (u : State) : Finished i u u
  | frame (u : State) (k : Link) (r : Reply) (hk : clearFrame i = frameParts k) : Finished i u (u.setReply k r)

theorem Finished.kept (h : Finished i u t) :
    (∀ m, t.ses m = u.ses m) ∧ (∀ m, t.unit m = u.unit m) ∧ (∀ j, (t.port j).notices = (u.port j).notices) ∧
    (∀ j, (t.port j).lost = (u.port j).lost) ∧ unchangedBut (clearFrame i) u t := by
  cases h with
  | event => exact ⟨fun _ => rfl, fun _ => rfl, fun _ => rfl, fun _ => rfl, unchangedBut_refl _ _⟩
  | frame k r hk =>
    refine ⟨fun m => ses_setReply .., fun m => unit_setReply .., fun j => ?_, fun j => ?_, ?_⟩
    · by_cases hj : j = k
      · subst hj; rw [port_setReply_self]
      · rw [State.port_setReply_ne _ _ _ _ hj]
    · by_cases hj : j = k
      · subst hj; rw [port_setReply_self]
      · rw [State.port_setReply_ne _ _ _ _ hj]
    · rw [hk]
      exact unchangedBut_setReply _ _ _ (by simp)

/-- A line poised by an event that touches no host link. -/
theorem Poised.of_event {idle grace : Timer} {dp : Bool} (hd : disables i = dp)
    (hses : w.ses n = { s.ses n with
      disablePending := (s.ses n).disablePending || dp, idleTimer := idle, graceTimer := grace })
    (hout : (w.unit n).ans = (s.unit n).ans ∧ (w.unit n).trdy = (s.unit n).trdy ∧
      (w.unit n).transmitter = (s.unit n).transmitter ∧ (w.unit n).receiver = (s.unit n).receiver)
    (hcar : c ≠ .callerDropped → (w.unit n).car = (s.unit n).car)
    (hun : unchangedBut [.session n, .unit n, .sup n, .port .acct] s w) : Poised i c n s w where
  ses := ⟨idle, grace, hd ▸ hses⟩
  outputs := hout
  car := hcar
  links h := by
    have hport : w.port (Computer.link h) = s.port (Computer.link h) := hun (.port _) (by cases h <;> simp [Computer.link])
    rw [hport, show w.host h = s.host h from hun (.host h) (by simp)]
    exact ⟨rfl, rfl, rfl, rfl⟩
  others := hun.mono (by simp +contextual)

/-- A line poised by the order of a frame. -/
theorem Poised.of_frame {k : Link} {dp : Bool} (hd : disables i = dp) (hk : clearFrame i = frameParts k) (hl : listens s k)
    (hses : w.ses n = { s.ses n with disablePending := (s.ses n).disablePending || dp })
    (hun : unchangedBut [.session n] (s.heard k) w) : Poised i c n s w where
  ses := ⟨_, _, hd ▸ hses⟩
  outputs := by
    rw [show w.unit n = (s.heard k).unit n from hun (.unit n) (by simp), State.unit_heard]
    exact ⟨rfl, rfl, rfl, rfl⟩
  car _ := by rw [show w.unit n = (s.heard k).unit n from hun (.unit n) (by simp), State.unit_heard]
  links h := by
    rw [show w.port (Computer.link h) = (s.heard k).port (Computer.link h) from hun (.port _) (by simp),
      show w.host h = (s.heard k).host h from hun (.host h) (by simp)]
    constructor
    · by_cases hh : k.host? = some h
      · rw [State.host_heard_own _ _ _ hh, hl.2 h hh]
      · rw [State.host_heard_other _ _ _ hh]
    · by_cases hj : Computer.link h = k
      · rw [hj, State.port_heard_self]
        exact ⟨rfl, rfl, rfl⟩
      · rw [State.port_heard_ne _ _ _ hj]
        exact ⟨rfl, rfl, rfl⟩
  others := (unchangedBut_heard k s (by simp +contextual [hk])).trans (hun.mono (by simp +contextual))

theorem clearRequest_active (h : (s.ses n).state.active = true) : s.clearRequest n c = s.enterClearing n c := if_pos h

theorem release_poised {k : Link} {b : Byte} {g : Computer} (hl : listens s k) (hn : b.toNat = n.val) (hk : k.host? = some g)
    (hc : (s.ses n).state = .connected) (ho : (s.ses n).owner = some g) :
    ∃ w t, exec (.release k b) s = .next t ∧ Poised (.release k b) .hostReleased n s w ∧
      Finished (.release k b) (w.enterClearing n .hostReleased) t := by
  refine ⟨s.heard k, _, rfl, .of_frame (k := k) (dp := false) rfl rfl hl (by rw [State.ses_heard, Bool.or_false])
    (unchangedBut_refl _ _), ?_⟩
  rw [State.hostOrder_listens s k g hl hk, onLine_named hn, if_pos (by simp [Keeping.ownedBy_iff, hc, ho]),
    clearRequest_active (by rw [State.ses_heard, hc]; rfl)]
  dsimp only
  exact Finished.frame _ k _ rfl

theorem lineClear_poised {b : Byte} (hl : listens s .acct) (hn : b.toNat = n.val) (ha : (s.ses n).state.active = true) :
    ∃ w t, exec (.lineClear .acct b) s = .next t ∧ Poised (.lineClear .acct b) .forced n s w ∧
      Finished (.lineClear .acct b) (w.enterClearing n .forced) t := by
  refine ⟨s.heard .acct, _, rfl, .of_frame (k := .acct) (dp := false) rfl rfl hl (by rw [State.ses_heard, Bool.or_false])
    (unchangedBut_refl _ _), ?_⟩
  have hclear : (s.heard .acct).clearLine n = ((s.heard .acct).enterClearing n .forced, replyOf .ok) := by
    rw [← clearRequest_active (by rwa [State.ses_heard])]
    unfold State.clearLine
    rw [State.ses_heard]
    cases hs : (s.ses n).state <;> first | rfl | (rw [hs] at ha; cases ha)
  rw [State.acctOrder_listens s hl, onLine_named hn, hclear]
  dsimp only
  exact Finished.frame _ .acct _ rfl

theorem lineDisable_poised {b : Byte} (hl : listens s .acct) (hn : b.toNat = n.val) (ha : (s.ses n).state.active = true) :
    ∃ w t, exec (.lineDisable .acct b) s = .next t ∧ Poised (.lineDisable .acct b) .forced n s w ∧
      Finished (.lineDisable .acct b) (w.enterClearing n .forced) t := by
  refine ⟨(s.heard .acct).setDisablePending n, _, rfl, .of_frame (k := .acct) (dp := true) rfl rfl hl ?_
    (unchangedBut_modSes _ _ (by simp)), ?_⟩
  · rw [State.setDisablePending, State.ses_modSes_self, State.ses_heard, Bool.or_true]
  have hclear : (s.heard .acct).disableLine n = ((s.heard .acct).setDisablePending n).enterClearing n .forced := by
    rw [← clearRequest_active (by rwa [State.setDisablePending, State.ses_modSes_self, State.ses_heard])]
    unfold State.disableLine
    rw [State.ses_heard]
    cases hs : (s.ses n).state <;> first | rfl | (rw [hs] at ha; cases ha)
  rw [State.acctOrder_listens s hl, onLine_named hn, hclear]
  dsimp only
  exact Finished.frame _ .acct _ rfl

theorem carrierLost_poised {ms : Nat} {reached : Bool} (hne : (s.ses n).state ≠ .answering)
    (hw : (s.unit n).carrier = .watching ms reached false) (ha : (s.ses n).state.active = true) :
    ∃ w t, exec (.carrierLost n) s = .next t ∧ Poised (.carrierLost n) .callerDropped n s w ∧
      Finished (.carrierLost n) (w.enterClearing n .callerDropped) t := by
  have hwatched : s.watched n = .watching ms reached false := by
    unfold State.watched
    cases hs : (s.ses n).state <;> first | exact hw | exact absurd hs hne | (rw [hs] at ha; cases ha)
  have hdrain : (s.ses n).draining = false := by
    unfold Session.draining
    cases hs : (s.ses n).state <;> first | rfl | (rw [hs] at ha; cases ha)
  refine ⟨s.modUnit n fun u => { u with car := false, carrier := .watching 0 false true }, _, rfl,
    .of_event (dp := false) rfl (by rw [State.ses_modUnit, Bool.or_false]) (by rw [State.unit_modUnit_self]; exact ⟨rfl, rfl, rfl, rfl⟩)
    (fun h => absurd rfl h) (unchangedBut_modUnit _ _ (by simp)), ?_⟩
  rw [hwatched]
  dsimp only
  rw [hdrain, if_neg (by decide), clearRequest_active (by rwa [State.ses_modUnit])]
  exact .event _

theorem modemLost_poised {j : Nat} (hw : (s.unit n).modem = .watching j) (ha : (s.ses n).state.active = true) :
    ∃ w t, exec (.modemLost n) s = .next t ∧ Poised (.modemLost n) .lineFault n s w ∧
      Finished (.modemLost n) (w.enterClearing n .lineFault) t := by
  set judged := s.modUnit n fun u => { u with mrdy := false, mrdySeen := false, modem := .raised } with hjudged
  obtain ⟨-, -, hun⟩ := raiseFault_law judged n .modemLost
  have hses : (raiseFault judged n .modemLost).ses n = s.ses n := by simp [hjudged]
  have hwatch : s.modemWatch n = .watching j := by
    unfold State.modemWatch
    rw [if_neg (by intro h; rw [h] at ha; cases ha), hw]
  refine ⟨(raiseFault judged n .modemLost).modSes n fun r => { r with disablePending := true }, _, rfl,
    .of_event (dp := true) rfl (idle := (s.ses n).idleTimer) (grace := (s.ses n).graceTimer) ?_ ?_ (fun _ => ?_) ?_, ?_⟩
  · exact (State.ses_modSes_self ..).trans (by rw [hses, Bool.or_true])
  · rw [State.unit_modSes, State.unit_raiseFault, hjudged, State.unit_modUnit_self]
    exact ⟨rfl, rfl, rfl, rfl⟩
  · rw [State.unit_modSes, State.unit_raiseFault, hjudged, State.unit_modUnit_self]
  · exact (.trans (.trans (unchangedBut_modUnit _ s (by simp)) (hun.mono (by simp +contextual)))
      (unchangedBut_modSes _ _ (by simp)))
  · rw [hwatch]
    have hlose : (raiseFault judged n .modemLost).loseModem n =
        ((raiseFault judged n .modemLost).modSes n fun r => { r with disablePending := true }).clearRequest n .lineFault := by
      unfold State.loseModem
      rw [hses]
      cases hs : (s.ses n).state <;> first | rfl | (rw [hs] at ha; cases ha)
    show Finished _ _ ((raiseFault judged n .modemLost).loseModem n)
    rw [hlose, clearRequest_active (by rw [State.ses_modSes_self, hses]; exact ha)]
    exact .event _

theorem carrierLimit_poised {ms : Nat} (hs : (s.ses n).state = .answering) (ht : (s.ses n).stateTimer = .running ms) :
    ∃ w t, exec (.carrierLimitExpiry n) s = .next t ∧ Poised (.carrierLimitExpiry n) .noCarrier n s w ∧
      Finished (.carrierLimitExpiry n) (w.enterClearing n .noCarrier) t := by
  obtain ⟨-, -, hun⟩ := raiseFault_law s n .noCarrier
  refine ⟨raiseFault s n .noCarrier, _, congrArg Host.Outcome.next (if_pos ⟨hs, by rw [ht]; rfl⟩),
    .of_event (dp := false) rfl (by rw [State.ses_raiseFault, Bool.or_false]) (by rw [State.unit_raiseFault]; exact ⟨rfl, rfl, rfl, rfl⟩)
      (fun _ => by rw [State.unit_raiseFault]) (hun.mono (by simp +contextual)), ?_⟩
  rw [clearRequest_active (by rw [State.ses_raiseFault, hs]; rfl)]
  exact .event _

/-- A timer's expiry that clears the line. -/
theorem expiry_poised {f : Session → Session} {idle grace : Timer} (hx : exec i s = .next ((s.modSes n f).clearRequest n c))
    (hf : f (s.ses n) = { s.ses n with idleTimer := idle, graceTimer := grace }) (hd : disables i = false)
    (ha : (s.ses n).state.active = true) :
    ∃ w t, exec i s = .next t ∧ Poised i c n s w ∧ Finished i (w.enterClearing n c) t := by
  refine ⟨s.modSes n f, _, hx, .of_event (dp := false) hd (by rw [State.ses_modSes_self, hf, Bool.or_false])
    (by rw [State.unit_modSes]; exact ⟨rfl, rfl, rfl, rfl⟩) (fun _ => by rw [State.unit_modSes])
    (unchangedBut_modSes _ s (by simp)), ?_⟩
  rw [clearRequest_active (by rw [State.ses_modSes_self, hf]; exact ha)]
  exact .event _

/-- Every command that sends a clear request to an active line takes it: the line is poised, and enters CLEARING. -/
theorem poised (h : sendsClear s n i c) (ha : (s.ses n).state.active = true) :
    ∃ w t, exec i s = .next t ∧ Poised i c n s w ∧ Finished i (w.enterClearing n c) t := by
  have stand : ∀ {j : Instr}, exec j s = .next (s.clearRequest n c) → disables j = false →
      ∃ w t, exec j s = .next t ∧ Poised j c n s w ∧ Finished j (w.enterClearing n c) t := fun hx hd =>
    expiry_poised (f := id) (by rw [hx, AccountOrders.modSes_eq_self rfl]) rfl hd ha
  cases i with
  | release k b =>
    simp only [sendsClear] at h
    obtain ⟨hl, hn, rfl, g, hk, hc, ho⟩ := h
    exact release_poised hl hn hk hc ho
  | lineClear k b =>
    simp only [sendsClear] at h
    obtain ⟨rfl, hl, hn, rfl⟩ := h
    exact lineClear_poised hl hn ha
  | lineDisable k b =>
    simp only [sendsClear] at h
    obtain ⟨rfl, hl, hn, rfl⟩ := h
    exact lineDisable_poised hl hn ha
  | carrierLost m =>
    simp only [sendsClear] at h
    obtain ⟨rfl, rfl, hne, ms, reached, hw⟩ := h
    exact carrierLost_poised hne hw ha
  | modemLost m =>
    simp only [sendsClear] at h
    obtain ⟨rfl, rfl, j, hw⟩ := h
    exact modemLost_poised hw ha
  | holdTimerExpiry m =>
    simp only [sendsClear] at h
    obtain ⟨rfl, rfl, hs, ms, ht⟩ := h
    exact stand (congrArg Host.Outcome.next (if_pos (timing_of_running hs ht))) rfl
  | idleTimerExpiry m =>
    simp only [sendsClear] at h
    obtain ⟨rfl, rfl, ms, ht⟩ := h
    exact expiry_poised (idle := .stopped) (congrArg Host.Outcome.next (if_pos (by rw [ht]; rfl))) rfl rfl ha
  | graceTimerExpiry m =>
    simp only [sendsClear] at h
    obtain ⟨rfl, rfl, ms, ht⟩ := h
    exact expiry_poised (grace := .stopped) (congrArg Host.Outcome.next (if_pos (by rw [ht]; rfl))) rfl rfl ha
  | signOnTimerExpiry m =>
    simp only [sendsClear] at h
    obtain ⟨rfl, rfl, hs, ms, ht⟩ := h
    exact stand (congrArg Host.Outcome.next (if_pos (timing_of_running hs ht))) rfl
  | carrierLimitExpiry m =>
    simp only [sendsClear] at h
    obtain ⟨rfl, rfl, hs, ms, ht⟩ := h
    exact carrierLimit_poised hs ht
  | _ => exact absurd h (by simp [sendsClear])

/-! ### What a poised line's clear finds -/

theorem mem_clearFrame {p : Part} (h : p ∈ clearFrame i) : (∃ j, p = .port j) ∨ ∃ g, p = .host g := by
  unfold clearFrame at h
  split at h
  · exact mem_frameParts h
  · exact mem_frameParts h
  · exact mem_frameParts h
  · cases h

/-- The notices and LOST of a host link's port after a notice depend on those, on the mask and on the link's state. -/
theorem notices_postNotice_agree {h : Computer}
    (hp : (t.host h).up = (s.host h).up ∧ (t.port (Computer.link h)).notices = (s.port (Computer.link h)).notices ∧
      (t.port (Computer.link h)).lost = (s.port (Computer.link h)).lost ∧
      (t.port (Computer.link h)).mask = (s.port (Computer.link h)).mask) (m : Notice) :
    ((t.postNotice (Computer.link h) m).port (Computer.link h)).notices =
        ((s.postNotice (Computer.link h) m).port (Computer.link h)).notices ∧
      ((t.postNotice (Computer.link h) m).port (Computer.link h)).lost =
        ((s.postNotice (Computer.link h) m).port (Computer.link h)).lost := by
  obtain ⟨hup, hn, hl, hm⟩ := hp
  have hr : t.reachable (Computer.link h) = s.reachable (Computer.link h) := by cases h <;> exact hup
  rw [port_postNotice_self, port_postNotice_self, hr, hn, hm]
  by_cases h1 : (suppresses (Computer.link h) (s.port (Computer.link h)).mask m || !s.reachable (Computer.link h)) = true
  · rw [if_pos h1, if_pos h1]
    exact ⟨hn, hl⟩
  · rw [if_neg h1, if_neg h1]
    by_cases h2 : noticeRoom (Computer.link h) ≤ (s.port (Computer.link h)).notices.length
    · rw [if_pos h2, if_pos h2]
      exact ⟨hn, rfl⟩
    · rw [if_neg h2, if_neg h2]
      exact ⟨rfl, hl⟩

section
variable (hp : Poised i c n s w)
include hp

theorem Poised.stands {p : Part} (h : p ∈ [Part.accounts, .records, .reservations, .serial, .clock, .params, .tariff]) :
    p.same s w := by
  refine hp.others p fun hm => ?_
  rcases List.mem_append.1 hm with hm | hm
  · revert h hm
    simp only [List.mem_cons, List.not_mem_nil, or_false]
    rintro (rfl | rfl | rfl | rfl | rfl | rfl | rfl) <;> simp
  · rcases mem_clearFrame hm with ⟨j, rfl⟩ | ⟨g, rfl⟩ <;> simp at h

theorem Poised.accountOf : w.accountOf n = s.accountOf n := by
  obtain ⟨idle, grace, hses⟩ := hp.ses
  have hacc : w.accounts = s.accounts := hp.stands (p := .accounts) (by simp)
  rw [State.accountOf, State.accountOf, hses]
  exact congrArg _ (by funext a; rw [State.account?, State.account?, hacc])

theorem Poised.closingRecord (b : Nat) : closingRecord w n b c = Machine.closingRecord s n b c := by
  obtain ⟨idle, grace, hses⟩ := hp.ses
  have hser : w.serial = s.serial := hp.stands (p := .serial) (by simp)
  have hclock : w.clock = s.clock := hp.stands (p := .clock) (by simp)
  unfold Machine.closingRecord
  rw [hses, hser, hclock]
  rfl

end

/-- What the clear of a poised line leaves apart from what its coming to rest changes. -/
theorem Finished.books (h : Finished i (w.enterClearing n c) t) {p : Part}
    (hp : p ∈ [Part.accounts, .records, .reservations, .serial]) : p.same (w.beforeDrain n c) t := by
  refine Part.same_trans (rest_startDrain _ n c p ?_) (h.kept.2.2.2.2 p fun hm => ?_)
  · revert hp
    simp only [List.mem_cons, List.not_mem_nil, or_false, restParts]
    rintro (rfl | rfl | rfl | rfl) <;> simp
  · rcases mem_clearFrame hm with ⟨j, rfl⟩ | ⟨g, rfl⟩ <;> simp at hp

theorem Finished.queue (h : Finished i (w.enterClearing n c) t) (g : Computer) :
    (t.port (Computer.link g)).notices = ((w.beforeDrain n c).port (Computer.link g)).notices ∧
    (t.port (Computer.link g)).lost = ((w.beforeDrain n c).port (Computer.link g)).lost := by
  obtain ⟨-, -, hn, hl, -⟩ := h.kept
  have : (w.enterClearing n c).port (Computer.link g) = (w.beforeDrain n c).port (Computer.link g) :=
    rest_startDrain _ n c (.port _) (port_link_restParts g n)
  rw [hn, hl, this]
  exact ⟨rfl, rfl⟩

theorem Finished.unchanged (hf : Finished i (w.enterClearing n c) t) (hp : Poised i c n s w) :
    unchangedBut (lineParts n ++ clearFrame i) s t := by
  refine .trans (.trans (hp.others.mono ?_) (((reaches.refl n w).enterClearing c).mono (by simp +contextual)))
    (hf.kept.2.2.2.2.mono (by simp +contextual))
  intro p hm
  rcases List.mem_append.1 hm with hm | hm
  · refine List.mem_append_left _ ?_
    revert hm
    simp only [List.mem_cons, List.not_mem_nil, or_false, lineParts]
    tauto
  · exact List.mem_append_right _ hm

/-- The record that a clear leaves of its line. -/
theorem Finished.cleared (hf : Finished i (w.enterClearing n c) t) :
    Cleared ((w.beforeDrain n c).ses n) ((w.beforeDrain n c).unit n) w.params c (t.ses n) (t.unit n) := by
  obtain ⟨hses, hunit, -⟩ := hf.kept
  rw [hses, hunit]
  have := startDrain_cleared (w.beforeDrain n c) n c
  rwa [State.beforeDrain_params] at this

/-- Settles O41: the session closing of a poised line, whatever command cleared it. -/
theorem clearingClosesSession : Obligations.ClearingClosesSession := by
  intro i n c e s h hs he
  obtain ⟨w, t, hexec, hp, hf⟩ := poised h (by rcases hs with h | h <;> rw [h] <;> rfl)
  obtain ⟨idle, grace, hses⟩ := hp.ses
  obtain ⟨hrec, hser, hres, hacc, hport⟩ := beforeDrain_closes (s := w) (n := n) (e := e) (by rw [hses]; exact hs)
    (hp.accountOf.trans he) c
  have hround : roundsUp (w.ses n) = roundsUp (s.ses n) := by rw [hses]; rfl
  obtain ⟨f, bs, hsec, d, o, fe, st, wd, cur, ot, hbses, -, hzero⟩ := w.beforeDrain_ses n c
  obtain ⟨rfl, rfl, rfl, rfl, rfl, rfl, rfl, rfl⟩ := hzero (by rw [hses]; exact hs)
  refine ⟨t, hexec, ?_, ?_, ?_, ?_, fun g hc ho hg => ?_, ?_, ?_, ?_, ?_, ?_, ?_, ?_, ?_, hf.unchanged hp⟩
  · rw [show t.records = _ from hf.books (p := .records) (by simp), hrec, hp.closingRecord,
      show w.records = _ from hp.stands (p := .records) (by simp)]
  · rw [show t.serial = _ from hf.books (p := .serial) (by simp), hser, show w.serial = _ from hp.stands (p := .serial) (by simp)]
  · rw [show t.reservations = _ from hf.books (p := .reservations) (by simp), hres,
      show w.reservations = _ from hp.stands (p := .reservations) (by simp)]
  · rw [show t.accounts = _ from hf.books (p := .accounts) (by simp), hacc, hround,
      show w.accounts = _ from hp.stands (p := .accounts) (by simp)]
  · obtain ⟨hn, hl⟩ := hf.queue g
    rw [hn, hl, hport _ (by rw [hses]; exact ho), if_pos (by rw [hses]; exact hc),
      notifyOwner_owned (by rw [hses]; exact hg)]
    exact notices_postNotice_agree (hp.links g) _
  all_goals exact hf.cleared.keeps_field (by rw [hbses]) rfl rfl (fun _ _ _ _ _ => rfl)

theorem withdrawReason_of_pair {why : Reason} (h : (c, why) ∈ [(Cause.callerDropped, Reason.callerGone),
    (.hostLost, .holdExpired), (.forced, .forced), (.lineFault, .lineFault), (.creditExhausted, .forced)]) :
    State.withdrawReason c = some why := by
  simp only [List.mem_cons, Prod.mk.injEq, List.not_mem_nil, or_false] at h
  rcases h with ⟨rfl, rfl⟩ | ⟨rfl, rfl⟩ | ⟨rfl, rfl⟩ | ⟨rfl, rfl⟩ | ⟨rfl, rfl⟩ <;> rfl

/-- A clear of a line with no session and no offer counts nothing. -/
theorem books_quiet (hs : (s.ses n).state.hasSession = false) (ho : (s.ses n).offer = none) {p : Part}
    (hp : p ∈ [Part.accounts, .records, .reservations, .serial]) : p.same s (s.beforeDrain n c) := by
  have hno : ¬((s.ses n).state = .connected ∨ (s.ses n).state = .held) := by
    rintro (h | h) <;> rw [h] at hs <;> cases hs
  have hnone : ((s.takeClear n c).ses n).offer = none := by rw [State.ses_takeClear]; exact ho
  have heq : s.beforeDrain n c = (s.takeClear n c).finalMessage n c := by
    unfold State.beforeDrain
    dsimp only
    rw [if_neg hno, State.withdrawOffer, hnone]
  rw [heq]
  refine Part.same_trans (takeClear_keeps s n c p fun hm => ?_) (finalMessage_keeps _ n c p fun hm => ?_)
  · revert hp hm
    simp only [List.mem_cons, List.not_mem_nil, or_false]
    rintro (rfl | rfl | rfl | rfl) <;> simp
  · rw [List.mem_singleton] at hm
    subst hm
    simp at hp

/-- Settles O42: the offer of a poised line withdrawn, and what a line without a session leaves alone. -/
theorem clearingWithdrawsOffer : Obligations.ClearingWithdrawsOffer := by
  intro i n c s h ha
  obtain ⟨w, t, hexec, hp, hf⟩ := poised h ha
  obtain ⟨idle, grace, hses⟩ := hp.ses
  obtain ⟨f, bs, hsec, d, o', fe, st, wd, cur, ot, hbses, hot, -⟩ := w.beforeDrain_ses n c
  refine ⟨t, hexec, (hf.cleared.fields (by rw [hbses])).1, ?_, ?_, ?_, ?_, fun o ho => ⟨?_, fun why hwhy hnc => ?_⟩,
    fun o e ho hst he => ?_, fun hst ho => ?_, hf.unchanged hp⟩
  iterate 4 exact hf.cleared.keeps_field (by rw [hbses]) rfl rfl (fun _ _ _ _ _ => rfl)
  · refine hf.cleared.keeps_field (field := Session.offerTimer) ?_ rfl rfl (fun _ _ _ _ _ => rfl)
    rw [hbses]
    dsimp only
    rw [hot, hses, if_pos]
    rw [ho]
    rfl
  · rw [(hf.queue o.target).1, beforeDrain_told (by rw [hses]; exact hnc) (by rw [hses]; exact ho), toldWithdrawn,
      withdrawReason_of_pair hwhy]
    have htoggle : (w.ses n).toggle = (s.ses n).toggle := by rw [hses]
    rw [htoggle]
    exact (notices_postNotice_agree (hp.links o.target) _).1
  · have hno : ¬((w.ses n).state = .connected ∨ (w.ses n).state = .held) := by rw [hses, hst]; decide
    obtain ⟨hrec, hser, hoffered⟩ := beforeDrain_withdraws (e := e) (o := o) hno (by rw [hses]; exact ho) c
    obtain ⟨hres, hacc⟩ := hoffered (by rw [hses]; exact hst) (hp.accountOf.trans he)
    refine ⟨?_, ?_, ?_, ?_⟩
    · rw [show t.reservations = _ from hf.books (p := .reservations) (by simp), hres,
        show w.reservations = _ from hp.stands (p := .reservations) (by simp)]
    · rw [show t.records = _ from hf.books (p := .records) (by simp), hrec,
        show w.records = _ from hp.stands (p := .records) (by simp)]
    · rw [show t.serial = _ from hf.books (p := .serial) (by simp), hser,
        show w.serial = _ from hp.stands (p := .serial) (by simp)]
    · rw [show t.accounts = _ from hf.books (p := .accounts) (by simp), hacc,
        show w.accounts = _ from hp.stands (p := .accounts) (by simp)]
  · have hquiet : ∀ p ∈ [Part.accounts, .records, .reservations, .serial], p.same s t := fun p hm =>
      Part.same_trans (Part.same_trans (hp.stands (by revert hm; simp only [List.mem_cons, List.not_mem_nil, or_false]; tauto))
        (books_quiet (by rw [hses]; exact hst) (by rw [hses]; exact ho) hm)) (hf.books hm)
    exact ⟨hquiet .accounts (by simp), hquiet .records (by simp), hquiet .reservations (by simp), hquiet .serial (by simp)⟩

/-- The causes of the commands that send clear requests. -/
theorem sendsClear_cause (h : sendsClear s n i c) : c ≠ .speedFail := by
  rintro rfl
  unfold sendsClear at h
  split at h <;> simp at h

theorem hangsUpAtOnce_iff (hc : c ≠ .speedFail) : State.hangsUpAtOnce c = true ↔ c = .lineFault ∨ c = .noCarrier := by
  cases c <;> simp_all [State.hangsUpAtOnce]

/-- A cleared line's record, by what it has left to send. -/
theorem drain_or_hangUp {r r' : Session} {x x' : LineUnit} {p : Params} (h : Cleared r x p c r' x') (hs : r.state = .clearing) :
    (leftTx r c ≠ [] ∨ leftFeed r c ≠ [] → r'.state = .clearing ∧ r'.phase = .drain ∧ r'.cause = r.cause ∧
      r'.stateTimer = .running (p.drainLimit * 1000) ∧ r'.tx = leftTx r c ∧ r'.feed = leftFeed r c ∧ x' = x) ∧
    (leftTx r c = [] → leftFeed r c = [] → p.guardTime ≠ 0 → r'.state = .clearing ∧ r'.phase = .guard ∧ r'.cause = r.cause ∧
      r'.stateTimer = .running (p.guardTime * 1000) ∧ r'.tx = [] ∧ r'.feed = [] ∧ x'.ans = false ∧ x'.trdy = false ∧
      x'.receiver = .stopped ∧ x'.transmitter = .idle) ∧
    (leftTx r c = [] → leftFeed r c = [] → p.guardTime = 0 → r' = if r.disablePending then outRecord r else idleRecord r) := by
  cases h with
  | drains cur hl =>
    exact ⟨fun _ => ⟨hs, rfl, rfl, rfl, rfl, rfl, rfl⟩, fun h1 h2 => absurd hl (by simp [h1, h2]),
      fun h1 h2 => absurd hl (by simp [h1, h2])⟩
  | guards cur y htx hfeed hg hans htrdy hrec htran hmodem =>
    exact ⟨fun hl => absurd hl (by simp [htx, hfeed]),
      fun _ _ _ => ⟨hs, rfl, rfl, rfl, rfl, rfl, hans, htrdy, hrec, htran⟩, fun _ _ h0 => absurd h0 hg⟩
  | rests y htx hfeed hg hans =>
    exact ⟨fun hl => absurd hl (by simp [htx, hfeed]), fun _ _ h0 => absurd hg h0, fun _ _ _ => rfl⟩

/-- Settles O43: what the cleared line still holds decides between phase DRAIN and hang-up. -/
theorem clearingDrainsOrHangsUp : Obligations.ClearingDrainsOrHangsUp := by
  intro i n c feed tx s h ha htx hfeed
  obtain ⟨w, t, hexec, hp, hf⟩ := poised h ha
  obtain ⟨idle, grace, hses⟩ := hp.ses
  obtain ⟨f, bs, hsec, d, o', fe, st, wd, cur, ot, hbses, -, -⟩ := w.beforeDrain_ses n c
  obtain ⟨x, hbunit⟩ := w.unit_takeClear n c
  rw [← State.beforeDrain_unit] at hbunit
  have hup := hangsUpAtOnce_iff (sendsClear_cause h)
  have hparams : w.params = s.params := hp.stands (p := .params) (by simp)
  have hltx : leftTx ((w.beforeDrain n c).ses n) c = tx := by
    rw [htx, hbses, leftTx, hses]
    simp only [hup, or_assoc]
  have hlfeed : leftFeed ((w.beforeDrain n c).ses n) c = feed := by
    rw [hfeed, hbses, leftFeed, hses]
    by_cases hnone : c = .lineFault ∨ c = .noCarrier ∨ c = .callerDropped ∨ (s.ses n).rate = none
    · rw [if_pos hnone, if_pos (by rw [hup]; tauto)]
    -- `<;> rfl`: as a module of its own, the match of the statement and that of the model are two matchers.
    · rw [if_neg hnone, if_neg (by rw [hup]; tauto), hp.car (by tauto)] <;> rfl
  have hstate : ((w.beforeDrain n c).ses n).state = .clearing := by rw [hbses]
  have hcause : ((w.beforeDrain n c).ses n).cause = some c := by rw [hbses]
  have hdp : ((w.beforeDrain n c).ses n).disablePending = ((s.ses n).disablePending || disables i) := by rw [hbses, hses]
  have hcl := hf.cleared
  obtain ⟨-, -, hclearing⟩ := hcl.fields hstate
  obtain ⟨hdrain, hguard, hrest⟩ := drain_or_hangUp hcl hstate
  rw [hltx, hlfeed, hcause, hparams] at hdrain hguard
  rw [hltx, hlfeed, hdp, hparams] at hrest
  refine ⟨t, hexec, fun hl => ?_, hguard, fun h1 h2 h3 => ?_, fun hc => (hclearing hc).2.trans hdp⟩
  · obtain ⟨h1, h2, h3, h4, h5, h6, h7⟩ := hdrain hl
    obtain ⟨hans, htrdy, htran, hrec⟩ := hp.outputs
    rw [h7, hbunit]
    exact ⟨h1, h2, h3, h4, h5, h6, hans, htrdy, htran, hrec⟩
  · rw [hrest h1 h2 h3, hbses, hses]
    rfl

end Sys2Proof.ClearOrders
end

section
/-! PROOFS. The end of phase DRAIN and of the guard time, and the loss of a modem. -/

namespace Sys2Proof.ClearEnds


open Sys2Proof.Machine Sys2Proof.Stations Sys2Proof.Clears Sys2Proof.LineControl
open Sys2Proof.ClearRequests Sys2Proof.ClearOrders

variable {s t w : State} {n : LineNo}

/-! ### Phase DRAIN and the guard time (R12 to R15, R51) -/

theorem draining_iff (r : Session) : r.draining = true ↔ r.state = .clearing ∧ r.phase = .drain := by
  simp [Session.draining]

/-- Settles O44: each end is the hang-up, or the end of the guard time, of the line as it stands. -/
theorem drainAndGuardEnd : Obligations.DrainAndGuardEnd := by
  intro n s hs
  refine ⟨fun ms reached hp hw => ⟨_, rfl, ?_⟩, fun hp hf ht => ⟨_, congrArg Host.Outcome.next (if_pos ?_), s.hangUp_hungUp n⟩,
    fun ms hp ht => ⟨_, congrArg Host.Outcome.next (if_pos ?_), (s.emptyOut n).hangUp_hungUp n⟩,
    fun ms hp ht => ⟨_, congrArg Host.Outcome.next (if_pos ⟨timing_of_running hs ht, hp⟩), s.guardEnd_retired n⟩⟩
  · have hdrain := (draining_iff (s.ses n)).2 ⟨hs, hp⟩
    have hwatched : s.watched n = .watching ms reached false := by
      unfold State.watched
      rw [hs]
      exact (if_pos hdrain).trans hw
    rw [hwatched]
    dsimp only
    rw [if_pos hdrain]
    refine ⟨?_, (unchangedBut_modUnit _ s (by simp)).trans (unchangedBut_modSes _ _ (by simp))⟩
    exact (State.ses_modSes_self ..).trans (by rw [State.ses_modUnit])
  · exact ⟨(draining_iff _).2 ⟨hs, hp⟩, by rw [hf]; rfl, by rw [ht]; rfl⟩
  · exact ⟨(draining_iff _).2 ⟨hs, hp⟩, by rw [ht]; rfl⟩

/-! ### MODEM_LOST (R160) -/

/-- The line whose modem is lost, its fault flag raised (R159, R160). -/
def faulted (s : State) (n : LineNo) : State :=
  raiseFault (s.modUnit n fun u => { u with mrdy := false, mrdySeen := false, modem := .raised }) n .modemLost

theorem faulted_law (s : State) (n : LineNo) :
    (∀ m, (faulted s n).ses m = s.ses m) ∧
    (faulted s n).unit n = { s.unit n with mrdy := false, mrdySeen := false, modem := .raised } ∧
    (faulted s n).sup n = { s.sup n with faults := (s.sup n).faults ||| 1 } ∧
    (faulted s n).portAcct = faultReported s n .modemLost 0 ∧ (faulted s n).params = s.params ∧
    (faulted s n).service = s.service ∧
    unchangedBut [.unit n, .sup n, .port .acct] s (faulted s n) := by
  unfold faulted
  set judged := s.modUnit n fun u => { u with mrdy := false, mrdySeen := false, modem := .raised } with hjudged
  obtain ⟨hsup, hport, hun⟩ := raiseFault_law judged n .modemLost
  have hall : unchangedBut [.unit n, .sup n, .port .acct] s (raiseFault judged n .modemLost) :=
    (unchangedBut_modUnit _ s (by simp)).trans (hun.mono (by simp +contextual))
  refine ⟨fun m => hall (.session m) (by simp), by simp [hjudged], ?_, hport.trans ?_, hall .params (by simp),
    hall .service (by simp), hall⟩
  · rw [hsup]
    simp [hjudged, FaultKind.code]
  · have hp : judged.portAcct = s.portAcct := by simp [hjudged]
    unfold faultReported
    rw [portAcct_postNotice_congr hp, hp]
    simp [hjudged, FaultKind.code]

theorem exec_modemLost {j : Nat} (hw : (s.unit n).modem = .watching j) (hs : (s.ses n).state ≠ .outOfService) :
    exec (.modemLost n) s = .next ((faulted s n).loseModem n) := by
  show execModemLost n s = _
  have hwatch : s.modemWatch n = .watching j := by
    unfold State.modemWatch
    rw [if_neg hs, hw]
  rw [execModemLost, hwatch]
  rfl

/-! ### What a clear leaves of the accounting link (R169) -/

theorem acct_notifyOwner (s : State) (n : LineNo) (m : Notice) : (s.notifyOwner n m).port .acct = s.port .acct := by
  unfold State.notifyOwner
  split
  next h _ => exact State.port_postNotice_ne _ _ _ _ (by cases h <;> decide)
  · rfl

/-- The parts that a clear leaves alone until the line comes to rest. -/
theorem closeSession_apart (s : State) (n : LineNo) (was : LineState) (c : Cause) :
    (s.closeSession n was c).sup n = s.sup n ∧ (s.closeSession n was c).port .acct = s.port .acct ∧
    (s.closeSession n was c).service = s.service := by
  unfold State.closeSession State.endRounding State.resetBilling State.notifyCleared
  dsimp only
  by_cases hw : was = .connected <;> by_cases hf : 30000 ≤ (s.ses n).f <;> simp [hw, hf, acct_notifyOwner]

theorem withdrawOffer_apart (s : State) (n : LineNo) (was : LineState) (c : Cause) :
    (s.withdrawOffer n was c).sup n = s.sup n ∧ (s.withdrawOffer n was c).port .acct = s.port .acct ∧
    (s.withdrawOffer n was c).service = s.service := by
  have hpost : ∀ (t : State) (g : Computer) (m : Notice), (t.postNotice g.link m).port .acct = t.port .acct :=
    fun t g m => State.port_postNotice_ne _ _ _ _ (by cases g <;> decide)
  unfold State.withdrawOffer State.dropOffer
  cases (s.ses n).offer with
  | none => exact ⟨rfl, rfl, rfl⟩
  | some o =>
    dsimp only
    cases State.withdrawReason c <;> by_cases hw : was = .offered <;> simp [hw, hpost]

theorem beforeDrain_apart (s : State) (n : LineNo) (c : Cause) :
    (s.beforeDrain n c).sup n = s.sup n ∧ (s.beforeDrain n c).portAcct = s.portAcct ∧
    (s.beforeDrain n c).service = s.service := by
  set taken := s.takeClear n c with htaken
  have htake := takeClear_keeps s n c
  set closed := (if (s.ses n).state = .connected ∨ (s.ses n).state = .held then taken.closeSession n (s.ses n).state c
    else taken) with hclosed
  obtain ⟨h1, h2, h3⟩ : closed.sup n = taken.sup n ∧ closed.port .acct = taken.port .acct ∧ closed.service = taken.service := by
    rw [hclosed]
    split
    · exact closeSession_apart ..
    · exact ⟨rfl, rfl, rfl⟩
  obtain ⟨h4, h5, h6⟩ := withdrawOffer_apart closed n (s.ses n).state c
  have hfinal := finalMessage_keeps (closed.withdrawOffer n (s.ses n).state c) n c
  exact ⟨(hfinal (.sup n) (by simp)).trans (h4.trans (h1.trans (htake (.sup n) (by simp)))),
    (hfinal (.port .acct) (by simp)).trans (h5.trans (h2.trans (htake (.port .acct) (by simp)))),
    (hfinal .service (by simp)).trans (h6.trans (h3.trans (htake .service (by simp))))⟩

/-- Outside a drain of the service, a line that comes to rest tells the accounting link nothing (R169). -/
theorem hangUp_acct {v : State} (hs : v.service ≠ .draining) :
    (v.hangUp n).portAcct = v.portAcct ∧ (v.hangUp n).service = v.service := by
  obtain ⟨hguard, hrest⟩ := v.hangUp_hungUp n
  by_cases h : v.params.guardTime = 0
  · obtain ⟨-, -, -, -, -, -, hdrain, -⟩ := hrest h
    rw [drainJudged, if_neg (fun hd => hs hd.1)] at hdrain
    exact ⟨hdrain.2, hdrain.1⟩
  · obtain ⟨-, -, hun⟩ := hguard h
    exact ⟨hun (.port .acct) (by simp), hun .service (by simp)⟩

theorem drainContents_keeps (s : State) (n : LineNo) (c : Cause) : unchangedBut [.session n] s (s.drainContents n c) :=
  unchanged_ite (fun _ => unchangedBut_modSes _ s (by simp)) fun _ =>
    unchanged_ite (fun _ => unchangedBut_modSes _ s (by simp)) fun _ => unchangedBut_refl _ s

theorem startDrain_acct {v : State} (hs : v.service ≠ .draining) (c : Cause) :
    (v.startDrain n c).portAcct = v.portAcct ∧ (v.startDrain n c).service = v.service := by
  have hang : ∀ {u : State}, unchangedBut [.session n] v u → (u.hangUp n).portAcct = v.portAcct ∧ (u.hangUp n).service = v.service := by
    intro u hu
    have hsv : u.service = v.service := hu .service (by simp)
    obtain ⟨h1, h2⟩ := hangUp_acct (n := n) (v := u) (by rwa [hsv])
    exact ⟨h1.trans (hu (.port .acct) (by simp)), h2.trans hsv⟩
  unfold State.startDrain
  by_cases hup : State.hangsUpAtOnce c = true
  · rw [if_pos hup]
    exact hang (unchangedBut_modSes _ v (by simp))
  · rw [if_neg hup]
    dsimp only
    set draining := (v.drainContents n c).modSes n fun r =>
      { r with phase := .drain, stateTimer := .running (v.params.drainLimit * 1000) }
    have hun : unchangedBut [.session n] v draining := (drainContents_keeps v n c).trans (unchangedBut_modSes _ _ (by simp))
    split
    · exact hang hun
    · exact ⟨hun (.port .acct) (by simp), hun .service (by simp)⟩

/-- What the clear of a line leaves of its Supervision Unit fields and of the accounting link. -/
theorem enterClearing_apart (s : State) (n : LineNo) (c : Cause) :
    (s.enterClearing n c).sup n = s.sup n ∧
    (s.service ≠ .draining → (s.enterClearing n c).portAcct = s.portAcct ∧ (s.enterClearing n c).service = s.service) := by
  obtain ⟨h1, h2, h3⟩ := beforeDrain_apart s n c
  rw [State.enterClearing_eq]
  refine ⟨(rest_startDrain _ n c (.sup n) (by simp [restParts])).trans h1, fun hs => ?_⟩
  obtain ⟨h4, h5⟩ := startDrain_acct (n := n) (v := s.beforeDrain n c) (by rwa [h3]) c
  exact ⟨h4.trans h2, h5.trans h3⟩

/-! ### A line cleared at once (R11) -/

/-- A line cleared with a cause that sends nothing is off hook no more; in CLEARING it keeps its watch. -/
theorem enterClearing_atOnce {c : Cause} (hc : State.hangsUpAtOnce c = true) (s : State) (n : LineNo) :
    ((s.enterClearing n c).ses n).state.active = false ∧ ((s.enterClearing n c).unit n).ans = false ∧
    (((s.enterClearing n c).ses n).state = .clearing → ((s.enterClearing n c).ses n).cause = some c ∧
      ((s.enterClearing n c).ses n).disablePending = (s.ses n).disablePending ∧
      ((s.enterClearing n c).unit n).modem = (s.unit n).modem) := by
  obtain ⟨f, bs, hsec, d, o', fe, st, wd, cur, ot, hbses, -, -⟩ := s.beforeDrain_ses n c
  obtain ⟨x, hbunit⟩ := s.unit_takeClear n c
  rw [← State.beforeDrain_unit] at hbunit
  have hcl := startDrain_cleared (s.beforeDrain n c) n c
  rw [← State.enterClearing_eq] at hcl
  obtain ⟨hact, -, hclearing⟩ := hcl.fields (by rw [hbses])
  have hmodem : ((s.beforeDrain n c).unit n).modem = (s.unit n).modem := by rw [hbunit]
  have hsame : ((s.enterClearing n c).unit n).ans = false ∧
      (((s.enterClearing n c).ses n).state = .clearing → ((s.enterClearing n c).unit n).modem = (s.unit n).modem) := by
    revert hcl
    generalize (s.enterClearing n c).ses n = r'
    generalize (s.enterClearing n c).unit n = x'
    rintro (⟨cur, hl⟩ | ⟨cur, y, -, -, -, hans, -, -, -, hm⟩ | ⟨y, -, -, -, hans⟩)
    · exact absurd hl (by simp [leftTx, leftFeed, hc])
    · exact ⟨hans, fun _ => hm.trans hmodem⟩
    · refine ⟨hans, fun hclr => ?_⟩
      have hat := atRest_fields ((s.beforeDrain n c).ses n)
      rw [hclr] at hat
      simp at hat
  refine ⟨hact, hsame.1, fun h => ⟨(hclearing h).1.trans (by rw [hbses]), (hclearing h).2.trans (by rw [hbses]), hsame.2 h⟩⟩

/-! ### MODEM_LOST by the state of the line (R160, R13, R15, R20) -/

section
variable {f : State} (hf : f = faulted s n)
include hf

theorem loseModem_atRest (hs : (s.ses n).state = .idle ∨ (s.ses n).state = .ringing) : f.loseModem n = f.outEntry n := by
  obtain ⟨hses, -⟩ := faulted_law s n
  unfold State.loseModem
  rw [hf, hses]
  rcases hs with h | h <;> rw [h]

theorem loseModem_clearing (hs : (s.ses n).state = .clearing) : f.loseModem n =
    if (s.ses n).phase = .drain then ((f.modSes n fun r => { r with disablePending := true }).emptyOut n).hangUp n
    else f.modSes n fun r => { r with disablePending := true } := by
  obtain ⟨hses, -⟩ := faulted_law s n
  unfold State.loseModem
  rw [hf, hses, hs]
  dsimp only
  by_cases hp : (s.ses n).phase = .drain
  · rw [if_pos hp, if_pos ((draining_iff _).2 ⟨hs, hp⟩)]
  · rw [if_neg hp, if_neg (fun h => hp ((draining_iff _).1 h).2)]

theorem loseModem_active (hs : (s.ses n).state.active = true) :
    f.loseModem n = (f.modSes n fun r => { r with disablePending := true }).enterClearing n .lineFault := by
  obtain ⟨hses, -⟩ := faulted_law s n
  have hlose : f.loseModem n = (f.modSes n fun r => { r with disablePending := true }).clearRequest n .lineFault := by
    unfold State.loseModem
    rw [hf, hses]
    cases hst : (s.ses n).state <;> first | rfl | (rw [hst] at hs; cases hs)
  rw [hlose, clearRequest_active (by rw [State.ses_modSes_self, hf, hses]; exact hs)]

end

theorem state_cases {st : LineState} (h : st ≠ .outOfService) :
    (st = .idle ∨ st = .ringing) ∨ st = .clearing ∨ st.active = true := by
  cases st <;> simp [LineState.active] at h ⊢

/-- What a line's loss of its modem leaves of its flags and of the accounting link once they are reported. -/
theorem loseModem_apart (hs : (s.ses n).state ≠ .outOfService) :
    ((faulted s n).loseModem n).sup n = (faulted s n).sup n ∧
    (s.service ≠ .draining → ((faulted s n).loseModem n).portAcct = (faulted s n).portAcct) := by
  obtain ⟨-, -, -, -, -, hserv, -⟩ := faulted_law s n
  have hdis : unchangedBut [.session n] (faulted s n) ((faulted s n).modSes n fun r => { r with disablePending := true }) :=
    unchangedBut_modSes _ _ (by simp)
  have hdserv := hdis .service (by simp)
  rcases state_cases hs with hst | hst | hst
  · rw [loseModem_atRest rfl hst]
    obtain ⟨-, -, hdrain, hun⟩ := outEntry_law (faulted s n) n
    refine ⟨hun (.sup n) (by simp [restParts]), fun hd => ?_⟩
    rw [drainJudged, if_neg (fun h => hd (hserv ▸ h.1))] at hdrain
    exact hdrain.2
  · rw [loseModem_clearing rfl hst]
    split
    · have hempty : unchangedBut [.session n] (faulted s n)
          (((faulted s n).modSes n fun r => { r with disablePending := true }).emptyOut n) :=
        hdis.trans (unchangedBut_modSes _ _ (by simp))
      refine ⟨(rest_hangUp _ n (.sup n) (by simp [restParts])).trans (hempty (.sup n) (by simp)), fun hd => ?_⟩
      refine (hangUp_acct ?_).1.trans (hempty (.port .acct) (by simp))
      rwa [show _ = _ from hempty .service (by simp), hserv]
    · exact ⟨hdis (.sup n) (by simp), fun _ => hdis (.port .acct) (by simp)⟩
  · rw [loseModem_active rfl hst]
    obtain ⟨hsup, hacct⟩ := enterClearing_apart ((faulted s n).modSes n fun r => { r with disablePending := true }) n .lineFault
    refine ⟨hsup.trans (hdis (.sup n) (by simp)), fun hd => ?_⟩
    exact (hacct (by rwa [show _ = _ from hdserv, hserv])).1.trans (hdis (.port .acct) (by simp))

theorem loseModem_drain (hs : (s.ses n).state = .clearing) (hp : (s.ses n).phase = .drain) :
    (s.params.guardTime ≠ 0 →
      ((faulted s n).loseModem n).ses n = { s.ses n with
        disablePending := true, tx := [], feed := [], cursor := 0, phase := .guard
        stateTimer := .running (s.params.guardTime * 1000) } ∧
      ((faulted s n).loseModem n).unit n = { s.unit n with
        ans := false, trdy := false, carrier := .stopped, speed := .stopped, receiver := .stopped
        transmitter := .idle, flow := none, mrdy := false, mrdySeen := false, modem := .raised } ∧
      unchangedBut [.session n, .unit n, .sup n, .port .acct] s ((faulted s n).loseModem n)) ∧
    (s.params.guardTime = 0 →
      ((faulted s n).loseModem n).ses n = outRecord (s.ses n) ∧ (((faulted s n).loseModem n).unit n).ans = false ∧
      (((faulted s n).loseModem n).unit n).trdy = false ∧ (((faulted s n).loseModem n).unit n).transmitter = .idle ∧
      (((faulted s n).loseModem n).unit n).modem = .stopped ∧
      unchangedBut [.session n, .unit n, .sup n, .service, .port .acct] s ((faulted s n).loseModem n)) := by
  obtain ⟨hses, hunit, -, -, hpar, -, hun⟩ := faulted_law s n
  rw [loseModem_clearing rfl hs, if_pos hp]
  set emptied := ((faulted s n).modSes n fun r => { r with disablePending := true }).emptyOut n with hemptied
  have heses : emptied.ses n = { s.ses n with disablePending := true, tx := [], feed := [], cursor := 0 } := by
    rw [hemptied, State.emptyOut, State.ses_modSes_self, State.ses_modSes_self, hses]
  have heunit : emptied.unit n = { s.unit n with mrdy := false, mrdySeen := false, modem := .raised } := by
    rw [hemptied, State.emptyOut, State.unit_modSes, State.unit_modSes, hunit]
  have heun : unchangedBut [.session n, .unit n, .sup n, .port .acct] s emptied :=
    ((hun.mono (by simp +contextual)).trans (unchangedBut_modSes _ _ (by simp))).trans (unchangedBut_modSes _ _ (by simp))
  have hepar : emptied.params = s.params := heun .params (by simp)
  obtain ⟨hguard, hrest⟩ := emptied.hangUp_hungUp n
  rw [hepar, heses, heunit] at hguard
  rw [hepar] at hrest
  refine ⟨fun hg => ?_, fun hg => ?_⟩
  · obtain ⟨h1, h2, h3⟩ := hguard hg
    exact ⟨h1, h2, heun.trans (h3.mono (by simp +contextual))⟩
  · obtain ⟨-, -, hout, -, htran, -, -, hrun⟩ := hrest hg
    obtain ⟨h1, h2, h3, -, h5⟩ := hout (by rw [heses])
    rw [heses] at h1
    exact ⟨h1, h2, h3, htran, h5, (heun.mono (by simp +contextual)).trans (hrun.mono (by simp +contextual))⟩

/-- Settles O45: MODEM_LOST by the line's state, and the carrier limit's clear. -/
theorem modemLossAndFaultsRaised : Obligations.ModemLossAndFaultsRaised := by
  intro n s
  refine ⟨fun j hw hs => ⟨_, exec_modemLost hw hs, ?_⟩, fun hw => ?_, fun ms hs ht => ?_⟩
  · obtain ⟨hses, hunit, hsup, hport, hpar, hserv, hun⟩ := faulted_law s n
    obtain ⟨h1, h2⟩ := loseModem_apart hs
    refine ⟨h1.trans hsup, fun hd => (h2 hd).trans hport, fun hst => ?_, fun hst hp hg => (loseModem_drain hst hp).1 hg,
      fun hst hp hg => (loseModem_drain hst hp).2 hg, fun hst hp => ?_, fun hst => ?_⟩
    · obtain ⟨hoses, hounit, hdrain, houn⟩ := outEntry_law (faulted s n) n
      rw [loseModem_atRest rfl hst, hounit, hoses, hses]
      refine ⟨rfl, rfl, rfl, rfl, rfl, fun hd => ?_, fun hd hall => ?_, (hun.mono (by simp +contextual)).trans
        (houn.mono (by simp +contextual [restParts]))⟩
      · rw [drainJudged, if_neg (fun h => hd (hserv ▸ h.1))] at hdrain
        exact hdrain.1.trans hserv
      · rw [drainJudged, if_pos ⟨hserv.trans hd, fun m hm => by rw [hses]; exact hall m hm⟩] at hdrain
        exact hdrain.1
    · rw [loseModem_clearing rfl hst, if_neg (by rw [hp]; decide), State.ses_modSes_self, State.unit_modSes, hses, hunit]
      exact ⟨rfl, rfl, (hun.mono (by simp +contextual)).trans (unchangedBut_modSes _ _ (by simp))⟩
    · rw [loseModem_active rfl hst]
      obtain ⟨hact, hans, hcl⟩ := enterClearing_atOnce (c := .lineFault) rfl
        ((faulted s n).modSes n fun r => { r with disablePending := true }) n
      refine ⟨hact, hans, fun hc => ?_⟩
      obtain ⟨h1, h2, h3⟩ := hcl hc
      exact ⟨h1, h2.trans (by rw [State.ses_modSes_self]), h3.trans (by rw [State.unit_modSes, hunit])⟩
  · have hstop : ∀ j, s.modemWatch n ≠ .watching j := by
      intro j
      unfold State.modemWatch
      split
      · exact fun h => nomatch h
      · rcases hw with h | h <;> rw [h] <;> exact fun h => nomatch h
    show execModemLost n s = _
    unfold execModemLost
    split
    next j hj => exact absurd hj (hstop j)
    · rfl
  · obtain ⟨hsup, hport, hun⟩ := raiseFault_law s n .noCarrier
    have hserv : (raiseFault s n .noCarrier).service = s.service := hun .service (by simp)
    obtain ⟨hact, hans, hcl⟩ := enterClearing_atOnce (c := .noCarrier) rfl (raiseFault s n .noCarrier) n
    obtain ⟨hcsup, hcport⟩ := enterClearing_apart (raiseFault s n .noCarrier) n .noCarrier
    refine ⟨_, congrArg Host.Outcome.next (if_pos ⟨hs, by rw [ht]; rfl⟩), ?_⟩
    rw [clearRequest_active (by rw [State.ses_raiseFault, hs]; rfl)]
    exact ⟨hact, hans, fun hc => (hcl hc).1, hcsup.trans hsup, fun hd => (hcport (by rwa [hserv])).1.trans hport⟩

end Sys2Proof.ClearEnds
end

section
/-! PROOFS. Carrier and speed detection. -/

namespace Sys2Proof.SpeedAttempts


open Sys2Proof.Machine Sys2Proof.Stations Sys2Proof.Clears Sys2Proof.LineControl Sys2Proof.CharacterEvents
open Sys2Proof.UnitsCharged Sys2Proof.ClearRequests Sys2Proof.ClearOrders Sys2Proof.ClearEnds

variable {s t v : State} {n : LineNo}

/-! ### Failed attempts (R57, R58) -/

/-- A line cleared with a cause that sends nothing holds nothing more. -/
theorem enterClearing_empties {c : Cause} (hc : State.hangsUpAtOnce c = true) (s : State) (n : LineNo) :
    ((s.enterClearing n c).ses n).tx = [] ∧ ((s.enterClearing n c).ses n).feed = [] := by
  have hcl := startDrain_cleared (s.beforeDrain n c) n c
  rw [← State.enterClearing_eq] at hcl
  revert hcl
  generalize (s.enterClearing n c).ses n = r'
  generalize (s.enterClearing n c).unit n = x'
  rintro (⟨cur, hl⟩ | ⟨cur, y, -, -⟩ | ⟨y, -, -, -, -⟩)
  · exact absurd hl (by simp [leftTx, leftFeed, hc])
  · exact ⟨rfl, rfl⟩
  · cases ((s.beforeDrain n c).ses n).disablePending <;> exact ⟨rfl, rfl⟩

/-- An attempt that fails, on a line as its event has left it (R57, R58). -/
theorem failAttempt_law (hs : (s.ses n).state = .speedHunt) (hun : unchangedBut [.unit n, .sup n] s v)
    (hfaults : (v.sup n).faults = (s.sup n).faults) (hmasks : (v.sup n).masks = (s.sup n).masks) :
    attemptFailed n s (v.failAttempt n) := by
  have hses : v.ses n = s.ses n := hun (.session n) (by simp)
  have hpar : v.params = s.params := hun .params (by simp)
  have hserv : v.service = s.service := hun .service (by simp)
  have hacct : v.portAcct = s.portAcct := hun (.port .acct) (by simp)
  set counted := v.modSes n fun r => { r with speedUsed := satInc 5 r.speedUsed } with hcounted
  have hcun : unchangedBut [.session n] v counted := unchangedBut_modSes _ v (by simp)
  have hcses : counted.ses n = { s.ses n with speedUsed := min ((s.ses n).speedUsed + 1) 5 } := by
    rw [hcounted, State.ses_modSes_self, hses]
    rfl
  have hfail : v.failAttempt n = if s.params.speedAttempts ≤ min ((s.ses n).speedUsed + 1) 5 then counted.giveUp n
      else (counted.startSpeedWait n).modUnit n fun u => { u with speed := .waitQuiet 0 } := by
    unfold State.failAttempt
    dsimp only
    rw [← hcounted, hcses, hpar]
  refine ⟨fun hless => ?_, fun hall => ?_⟩
  · rw [hfail, if_neg (Nat.not_le.2 hless)]
    refine ⟨?_, by rw [State.unit_modUnit_self], ?_⟩
    · rw [State.ses_modUnit, State.startSpeedWait, State.ses_modSes_self, hcses,
        show counted.params = s.params from (hcun .params (by simp)).trans hpar]
    · exact (((hun.mono (by simp +contextual)).trans (hcun.mono (by simp))).trans
        (unchangedBut_modSes _ _ (by simp))).trans (unchangedBut_modUnit _ _ (by simp))
  · rw [hfail, if_pos hall, State.giveUp, clearRequest_active (by rw [State.ses_raiseFault, hcses, hs]; rfl)]
    obtain ⟨hsup, hport, hrun⟩ := raiseFault_law counted n .speedFail
    obtain ⟨hact, hans, hcause⟩ := enterClearing_atOnce (c := .speedFail) rfl (raiseFault counted n .speedFail) n
    obtain ⟨htx, hfeed⟩ := enterClearing_empties (c := .speedFail) rfl (raiseFault counted n .speedFail) n
    obtain ⟨hasup, haport⟩ := enterClearing_apart (raiseFault counted n .speedFail) n .speedFail
    have hcsup : counted.sup n = v.sup n := hcun (.sup n) (by simp)
    refine ⟨hact, fun h => (hcause h).1, htx, hfeed, hans, ?_, fun hd => ?_, ?_⟩
    · rw [hasup, hsup, hcsup]
      dsimp only
      rw [hfaults]
      rfl
    · have hrserv : (raiseFault counted n .speedFail).service = s.service := (hrun .service (by simp)).trans hserv
      rw [(haport (by rwa [hrserv])).1, hport]
      have hp : counted.portAcct = s.portAcct := (hcun (.port .acct) (by simp)).trans hacct
      unfold faultReported
      rw [portAcct_postNotice_congr hp, hp, hcsup, hfaults, hmasks]
      rfl
    · refine .trans (hun.mono (by simp [lineParts])) (.trans (hcun.mono (by simp [lineParts])) ?_)
      exact .trans (hrun.mono (by simp [lineParts])) (((reaches.refl n _).enterClearing .speedFail))

/-! ### The windows of the rates (R54) -/

theorem windowHolds_eq {r : Rate} {lo hi : Nat} (h : (r, lo, hi) ∈ rateWindows) (w : Nat) :
    r.windowHolds w = decide (lo ≤ w ∧ w ≤ hi) := by
  simp only [rateWindows, List.mem_cons, Prod.mk.injEq, List.not_mem_nil, or_false] at h
  rw [Bool.decide_and]
  rcases h with ⟨rfl, rfl, rfl⟩ | ⟨rfl, rfl, rfl⟩ | ⟨rfl, rfl, rfl⟩ | ⟨rfl, rfl, rfl⟩ | ⟨rfl, rfl, rfl⟩ <;> rfl

theorem window_of (r : Rate) : ∃ lo hi, (r, lo, hi) ∈ rateWindows := by
  cases r
  · exact ⟨154, 196, by decide⟩
  · exact ⟨112, 144, by decide⟩
  · exact ⟨56, 72, by decide⟩
  · exact ⟨28, 36, by decide⟩
  · exact ⟨14, 18, by decide⟩

/-- No two windows meet. -/
theorem windows_disjoint : rateWindows.Pairwise fun a b => b.2.2 < a.2.1 := by decide

/-- The window that holds a width is its rate's. -/
theorem rateOfWidth_of_window {r : Rate} {lo hi w : Nat} (h : (r, lo, hi) ∈ rateWindows) (h1 : lo ≤ w) (h2 : w ≤ hi) :
    rateOfWidth w = some r := by
  have heq : rateOfWidth w = (rateWindows.find? fun x => decide (x.2.1 ≤ w ∧ w ≤ x.2.2)).map (·.1) := by
    have hmap : [Rate.b110, .b150, .b300, .b600, .b1200] = rateWindows.map (·.1) := rfl
    rw [rateOfWidth, hmap, List.find?_map]
    congr 1
    refine List.find?_congr fun x hx => ?_
    exact windowHolds_eq hx w
  obtain ⟨before, after, hsplit⟩ := List.append_of_mem h
  have hpair := windows_disjoint
  rw [hsplit] at hpair
  have hfind : (rateWindows.find? fun x => decide (x.2.1 ≤ w ∧ w ≤ x.2.2)) = some (r, lo, hi) := by
    refine List.find?_eq_some_iff_append.2 ⟨by simp [h1, h2], before, after, hsplit, fun x hx => ?_⟩
    have : hi < x.2.1 := (List.pairwise_append.1 hpair).2.2 x hx (r, lo, hi) (by simp)
    simp only [Bool.not_eq_true', decide_eq_false_iff_not]
    omega
  rw [heq, hfind, Option.map_some]

theorem window_of_rateOfWidth {r : Rate} {lo hi w : Nat} (h : (r, lo, hi) ∈ rateWindows) (hw : rateOfWidth w = some r) :
    lo ≤ w ∧ w ≤ hi := by
  have := List.find?_some hw
  rw [windowHolds_eq h] at this
  exact of_decide_eq_true this

/-! ### The attempt's events (R48, R52 to R57) -/

theorem attempt_hunting (hs : (s.ses n).state = .speedHunt) : s.attempt n = (s.unit n).speed := if_pos hs

theorem carrierQualified_law {ms : Nat} {reached : Bool} (hs : (s.ses n).state = .answering)
    (hc : (s.unit n).carrier = .qualifying ms reached) : ∃ t, exec (.carrierQualified n) s = .next t ∧
      t.ses n = { s.ses n with state := .speedHunt, stateTimer := .running (s.params.speedWait * 1000) } ∧
      t.unit n = { s.unit n with
        car := true, carrier := .watching 0 false false
        speed := if (s.unit n).rxd then .armed else .waitMark } ∧
      unchangedBut [.session n, .unit n] s t := by
  refine ⟨_, rfl, ?_⟩
  rw [hs, hc]
  refine ⟨by simp [State.firstAttempt, State.startSpeedWait], by simp [State.firstAttempt, State.startSpeedWait], ?_⟩
  exact (((unchangedBut_modUnit _ s (by simp)).trans (unchangedBut_modSes _ _ (by simp))).trans
    (unchangedBut_modSes _ _ (by simp))).trans (unchangedBut_modUnit _ _ (by simp))

theorem wFinal_law {m w : Nat} (hs : (s.ses n).state = .speedHunt) (hm : (s.unit n).speed = .measuring m) :
    (∀ r lo hi, (r, lo, hi) ∈ rateWindows → lo ≤ w → w ≤ hi →
      s.tariff.classes[(s.ses n).cls.val].rates.getLsbD r.bit = true →
      ∃ t, exec (.wFinal n w) s = .next t ∧ (t.unit n).speed = .receiving r w 0 none ∧ unchangedBut [.unit n] s t) ∧
    ((∀ r lo hi, (r, lo, hi) ∈ rateWindows → lo ≤ w → w ≤ hi →
        s.tariff.classes[(s.ses n).cls.val].rates.getLsbD r.bit = false) →
      ∃ t, exec (.wFinal n w) s = .next t ∧ attemptFailed n s t) := by
  set heard := s.modUnit n fun u => { u with rxd := decide (w < 255) } with hheard
  have hrate : ∀ r, rateOfWidth w = some r → exec (.wFinal n w) s = .next (if s.permitsRate n r then
      heard.modUnit n fun u => { u with speed := .receiving r w 0 none } else heard.failAttempt n) := by
    intro r hr
    show execWFinal n w s = _
    unfold execWFinal
    rw [attempt_hunting hs, hm, hr]
  have hnorate : rateOfWidth w = none → exec (.wFinal n w) s = .next (heard.failAttempt n) := by
    intro hr
    show execWFinal n w s = _
    unfold execWFinal
    rw [attempt_hunting hs, hm, hr]
  have hfail : attemptFailed n s (heard.failAttempt n) :=
    failAttempt_law hs (unchangedBut_modUnit _ s (by simp)) (by rw [hheard, State.sup_modUnit]) (by rw [hheard, State.sup_modUnit])
  refine ⟨fun r lo hi hr h1 h2 hpermit => ⟨_, hrate r (rateOfWidth_of_window hr h1 h2), ?_⟩, fun hnone => ?_⟩
  · rw [State.permitsRate, if_pos hpermit]
    exact ⟨by rw [State.unit_modUnit_self], (unchangedBut_modUnit _ s (by simp)).trans (unchangedBut_modUnit _ _ (by simp))⟩
  · cases hw : rateOfWidth w with
    | none => exact ⟨_, hnorate hw, hfail⟩
    | some r =>
      obtain ⟨lo, hi, hr⟩ := window_of r
      obtain ⟨h1, h2⟩ := window_of_rateOfWidth hr hw
      refine ⟨_, hrate r hw, ?_⟩
      rw [State.permitsRate, if_neg (by rw [hnone r lo hi hr h1 h2]; decide)]
      exact hfail

/-- A good CR brings SIGN_ON with BANNER and PROMPT (R56). -/
theorem attemptSucceeds_law (s : State) (n : LineNo) (r : Rate) :
    (s.attemptSucceeds n r).ses n = { s.ses n with
      state := .signOn, rate := some r, stateTimer := .running (s.params.signOnLimit * 1000)
      feed := requested (requested (s.ses n).feed 0) 1, cursor := cursorRequested (s.ses n) } ∧
    (s.attemptSucceeds n r).unit n = { s.unit n with receiver := .hunting, speed := .stopped } ∧
    unchangedBut [.session n, .unit n] s (s.attemptSucceeds n r) := by
  unfold State.attemptSucceeds
  dsimp only
  rw [requestMessage_eq, requestMessage_eq]
  refine ⟨?_, ?_, ?_⟩
  · simp [cursorRequested, slotBanner, slotPrompt, requested_ne_nil]
  · simp
  · exact ((((unchangedBut_modSes _ s (by simp)).trans (unchangedBut_modUnit _ _ (by simp))).trans
      (unchangedBut_modSes _ _ (by simp))).trans (unchangedBut_modSes _ _ (by simp))).trans (unchangedBut_modSes _ _ (by simp))

theorem goodReturn_iff (f : Format) (bits : Byte) (stop : Bool) :
    goodReturn f bits stop = true ↔ stop = true ∧ f.parityOk bits = true ∧ bits &&& 127 = 13 := by
  simp [goodReturn, and_assoc]

/-- The judgement at the stop bit of an autobaud character (R55 to R57). -/
theorem stopBit_law {r : Rate} {q : Nat} {b : Byte} {st : Option Bool} (hs : (s.ses n).state = .speedHunt)
    (hr : (s.unit n).speed = .receiving r q b st) (bits : Byte) :
    ((s.formatOf n).parityOk bits = true → bits &&& 127 = 13 →
      ∃ t, exec (.autobaudStopBit n bits true) s = .next t ∧
        t.ses n = { s.ses n with
          state := .signOn, rate := some r, stateTimer := .running (s.params.signOnLimit * 1000)
          feed := requested (requested (s.ses n).feed 0) 1, cursor := cursorRequested (s.ses n) } ∧
        t.unit n = { s.unit n with rxd := true, receiver := .hunting, speed := .stopped } ∧
        (t.sup n).traffic = .running 50 ∧ unchangedBut [.session n, .unit n, .sup n] s t) ∧
    (∀ stop, stop = false ∨ (s.formatOf n).parityOk bits = false ∨ bits &&& 127 ≠ 13 →
      ∃ t, exec (.autobaudStopBit n bits stop) s = .next t ∧ attemptFailed n s t) := by
  have hexec : ∀ stop, exec (.autobaudStopBit n bits stop) s = .next (if goodReturn (s.formatOf n) bits stop then
      ((s.modUnit n fun u => { u with rxd := stop }).reportTraffic n).attemptSucceeds n r
      else ((s.modUnit n fun u => { u with rxd := stop }).reportTraffic n).failAttempt n) := by
    intro stop
    show execAutobaudStopBit n bits stop s = _
    unfold execAutobaudStopBit
    rw [attempt_hunting hs, hr]
  have hheard : ∀ stop, unchangedBut [.unit n, .sup n] s ((s.modUnit n fun u => { u with rxd := stop }).reportTraffic n) := by
    intro stop
    unfold State.reportTraffic
    exact (unchangedBut_modUnit _ s (by simp)).trans (unchangedBut_modSup _ _ (by simp))
  refine ⟨fun hpar hcr => ⟨_, hexec true, ?_⟩, fun stop hbad => ⟨_, hexec stop, ?_⟩⟩
  · rw [if_pos ((goodReturn_iff _ _ _).2 ⟨rfl, hpar, hcr⟩)]
    obtain ⟨hses, hunit, hun⟩ := attemptSucceeds_law ((s.modUnit n fun u => { u with rxd := true }).reportTraffic n) n r
    rw [hses, hunit]
    refine ⟨?_, ?_, (congrArg Supervised.traffic (hun (.sup n) (by simp))).trans ?_, ((hheard true).mono (by simp +contextual)).trans
      (hun.mono (by simp +contextual))⟩
    · simp [State.reportTraffic]
    · simp [State.reportTraffic]
    · rw [State.reportTraffic, State.sup_modSup_self]
  · rw [if_neg]
    · exact failAttempt_law hs (hheard stop) (by simp [State.reportTraffic]) (by simp [State.reportTraffic])
    · rw [goodReturn_iff]
      rintro ⟨rfl, h1, h2⟩
      rcases hbad with h | h | h
      · cases h
      · rw [h1] at h; cases h
      · exact h h2

theorem exec_arm (hs : (s.ses n).state = .speedHunt)
    (hw : (s.unit n).speed = .waitMark ∨ ∃ q, (s.unit n).speed = .waitQuiet q) :
    exec (.speedDetectorArm n) s = .next (s.modUnit n fun u => { u with rxd := true, speed := .armed }) := by
  show execSpeedDetectorArm n s = _
  unfold execSpeedDetectorArm
  rw [attempt_hunting hs]
  rcases hw with h | ⟨q, h⟩ <;> rw [h]

/-- Settles O54: each event of the attempt as its function answers it. -/
theorem speedDetection : Obligations.SpeedDetection := by
  refine ⟨fun n ms reached s hs hc => carrierQualified_law hs hc, fun n s hs => ⟨fun hw => ?_, fun harm => ?_,
    fun m w hm => wFinal_law hs hm, fun r q b st bits hr => stopBit_law hs hr bits, fun ms ht => ?_⟩⟩
  · exact ⟨_, exec_arm hs hw, State.unit_modUnit_self .., unchangedBut_modUnit _ s (by simp)⟩
  · refine ⟨_, congrArg Host.Outcome.next (if_pos ((attempt_hunting hs).trans harm)), by simp, by simp, ?_⟩
    exact (unchangedBut_modUnit _ s (by simp)).trans (unchangedBut_modSes _ _ (by simp))
  · exact ⟨_, congrArg Host.Outcome.next (if_pos ⟨hs, by rw [ht]; rfl⟩),
      failAttempt_law hs (unchangedBut_refl _ s) rfl rfl⟩

end Sys2Proof.SpeedAttempts
end

section
/-! PROOFS. The ring detector's events, and the answer. -/

namespace Sys2Proof.RingDetector


open Sys2Proof.Machine Sys2Proof.Stations Sys2Proof.Clears Sys2Proof.LineControl

variable {s t v : State} {n : LineNo} {d : Ring}

theorem ringRuns_of_hears (h : hears s n) : s.ringRuns n = true := by
  obtain ⟨hs, hopen⟩ := h
  rcases hs with hs | hs <;> simp [State.ringRuns, hs, hopen]

theorem ringIn_of (h : hears s n) {c : RingCond} (hc : (s.unit n).ring.cond = c) : s.ringIn n c = true := by
  simp [State.ringIn, ringRuns_of_hears h, hc]

theorem ringingToIdle_of {r : Session} (hr : r = s.ses n) : s.ringingToIdle n =
    if r.state = .ringing then s.modSes n fun r => { r with state := .idle, ringCount := 0, stateTimer := .stopped } else s := by
  subst hr
  rfl

/-! ### False bursts (R43) -/

/-- A false burst on a line whose detector runs. -/
theorem falseBurst_law (hs : (v.ses n).state = .idle ∨ (v.ses n).state = .ringing) :
    ((v.falseBurst n).ses n).state = .idle ∧ ((v.falseBurst n).ses n).ringCount = 0 ∧
    ((v.falseBurst n).ses n).lastOn = (v.ses n).lastOn ∧
    (v.falseBurst n).unit n = { v.unit n with
      falseRings := min ((v.unit n).falseRings + 1) 255, ring := (v.unit n).ring.toRearm true } ∧
    unchangedBut [.session n, .unit n] v (v.falseBurst n) := by
  unfold State.falseBurst
  dsimp only
  rw [ringingToIdle_of (r := v.ses n) (by rw [State.ses_modUnit])]
  have hun : unchangedBut [.session n, .unit n] v (v.modUnit n fun u =>
      { u with falseRings := satInc 255 u.falseRings, ring := u.ring.toRearm true }) := unchangedBut_modUnit _ v (by simp)
  rcases hs with hs | hs
  · rw [hs, if_neg (by decide)]
    refine ⟨?_, ?_, ?_, ?_, hun.trans (unchangedBut_modSes _ _ (by simp))⟩
    · rw [State.ses_modSes_self, State.ses_modUnit]
      exact hs
    · rw [State.ses_modSes_self]
    · rw [State.ses_modSes_self, State.ses_modUnit]
    · rw [State.unit_modSes, State.unit_modUnit_self]
      rfl
  · rw [hs, if_pos rfl]
    refine ⟨?_, ?_, ?_, ?_, (hun.trans (unchangedBut_modSes _ _ (by simp))).trans (unchangedBut_modSes _ _ (by simp))⟩
    · rw [State.ses_modSes_self, State.ses_modSes_self]
    · rw [State.ses_modSes_self]
    · rw [State.ses_modSes_self, State.ses_modSes_self, State.ses_modUnit]
    · rw [State.unit_modSes, State.unit_modSes, State.unit_modUnit_self]
      rfl

/-- A false burst found by an event that has touched the line's Line Unit and the last gap and timer of its record. -/
theorem foundFalse_of (hs : (s.ses n).state = .idle ∨ (s.ses n).state = .ringing) (hv : (v.ses n).state = (s.ses n).state)
    (hlast : (v.ses n).lastOn = (s.ses n).lastOn) (hfalse : (v.unit n).falseRings = (s.unit n).falseRings)
    (hun : unchangedBut [.session n, .unit n] s v) : foundFalse n s (v.falseBurst n) := by
  obtain ⟨h1, h2, h3, h4, h5⟩ := falseBurst_law (v := v) (n := n) (by rwa [hv])
  refine ⟨h1, h2, h3.trans hlast, ?_, ?_, ?_, hun.trans h5⟩
  · rw [h4]
    dsimp only
    rw [hfalse]
  · rw [h4]
    rfl
  · rw [h4]
    rfl

/-! ### RNG asserted and deasserted (R40 to R44) -/

/-- RNG first judged at a level, the detector having judged it. -/
def ringHeard (s : State) (n : LineNo) (level : Bool) (judge : Ring → Ring) : State :=
  (s.modUnit n fun u => { u with rng := level, rngSeen := level }).modRing n judge

theorem ringHeard_law (s : State) (n : LineNo) (level : Bool) (judge : Ring → Ring) :
    (ringHeard s n level judge).ses n = s.ses n ∧
    (ringHeard s n level judge).unit n = { s.unit n with rng := level, rngSeen := level, ring := judge (s.unit n).ring } ∧
    unchangedBut [.unit n] s (ringHeard s n level judge) := by
  unfold ringHeard State.modRing
  exact ⟨by simp, by simp, (unchangedBut_modUnit _ s (by simp)).trans (unchangedBut_modUnit _ _ (by simp))⟩

theorem exec_rngAsserted (h : hears s n) : exec (.rngAsserted n) s = .next (if (s.unit n).ring.cond = .releasing then
    (ringHeard s n true Ring.asserted).judgeFalse n (s.unit n).ring.since else ringHeard s n true Ring.asserted) := by
  show execRngAsserted n s = _
  unfold execRngAsserted
  dsimp only
  rw [if_pos (ringRuns_of_hears h)]
  rfl

theorem exec_rngDeasserted (h : hears s n) : exec (.rngDeasserted n) s =
    .next (if (s.unit n).ring.cond = .qualifying ∧ (s.unit n).ring.gapHeld then
      (ringHeard s n false Ring.deasserted).ringingToIdle n else ringHeard s n false Ring.deasserted) := by
  show execRngDeasserted n s = _
  unfold execRngDeasserted
  dsimp only
  rw [if_pos (ringRuns_of_hears h)]
  rfl

theorem asserted_law (h : hears s n) :
    ((s.unit n).ring.cond = .armed → ∃ t, exec (.rngAsserted n) s = .next t ∧ (t.unit n).ring.cond = .qualifying ∧
      (t.unit n).rng = true ∧ (t.unit n).rngSeen = true ∧ unchangedBut [.unit n] s t) ∧
    ((s.unit n).ring.cond = .releasing → (s.unit n).ring.since ≤ s.params.ringMaxOn →
      ∃ t, exec (.rngAsserted n) s = .next t ∧ (t.unit n).ring.cond = .burst ∧ (t.unit n).rng = true ∧
        unchangedBut [.unit n] s t) ∧
    ((s.unit n).ring.cond = .releasing → s.params.ringMaxOn < (s.unit n).ring.since →
      ∃ t, exec (.rngAsserted n) s = .next t ∧ foundFalse n s t ∧ (t.unit n).rng = true) := by
  obtain ⟨hses, hunit, hun⟩ := ringHeard_law s n true Ring.asserted
  have hpar : (ringHeard s n true Ring.asserted).params = s.params := hun .params (by simp)
  refine ⟨fun hc => ⟨_, exec_rngAsserted h, ?_⟩, fun hc hle => ⟨_, exec_rngAsserted h, ?_⟩, fun hc hlt => ⟨_, exec_rngAsserted h, ?_⟩⟩
  · rw [if_neg (by rw [hc]; decide), hunit]
    exact ⟨by simp [Ring.asserted, hc], rfl, rfl, hun⟩
  · rw [if_pos hc, State.judgeFalse, if_neg (by rw [hpar]; exact fun hh => absurd hh.2 (Nat.not_lt.2 hle)), hunit]
    exact ⟨by simp [Ring.asserted, hc], rfl, hun⟩
  · have hburst : (ringHeard s n true Ring.asserted).ringIn n .burst = true :=
      ringIn_of ⟨by rw [hses]; exact h.1, (hun .service (by simp)).trans h.2⟩ (by rw [hunit]; simp [Ring.asserted, hc])
    rw [if_pos hc, State.judgeFalse, if_pos ⟨hburst, by rw [hpar]; exact hlt⟩]
    refine ⟨foundFalse_of h.1 (by rw [hses]) (by rw [hses]) (by rw [hunit]) (hun.mono (by simp)), ?_⟩
    obtain ⟨-, -, -, hf, -⟩ := falseBurst_law (v := ringHeard s n true Ring.asserted) (n := n) (by rw [hses]; exact h.1)
    rw [hf, hunit]

theorem deasserted_law (h : hears s n) :
    ((s.unit n).ring.cond = .burst → ∃ t, exec (.rngDeasserted n) s = .next t ∧ (t.unit n).ring.cond = .releasing ∧
      (t.unit n).rng = false ∧ (t.unit n).rngSeen = false ∧ unchangedBut [.unit n] s t) ∧
    ((s.unit n).ring.cond = .qualifying → (s.unit n).ring.gapHeld = false → ∃ t, exec (.rngDeasserted n) s = .next t ∧
      (t.unit n).ring.cond = .armed ∧ unchangedBut [.unit n] s t) ∧
    ((s.unit n).ring.cond = .qualifying → (s.unit n).ring.gapHeld = true → (s.ses n).state = .ringing →
      ∃ t, exec (.rngDeasserted n) s = .next t ∧
        t.ses n = { s.ses n with state := .idle, ringCount := 0, stateTimer := .stopped } ∧
        (t.unit n).ring.cond = .armed ∧ unchangedBut [.session n, .unit n] s t) := by
  obtain ⟨hses, hunit, hun⟩ := ringHeard_law s n false Ring.deasserted
  refine ⟨fun hc => ⟨_, exec_rngDeasserted h, ?_⟩, fun hc hg => ⟨_, exec_rngDeasserted h, ?_⟩,
    fun hc hg hr => ⟨_, exec_rngDeasserted h, ?_⟩⟩
  · rw [if_neg (by rw [hc]; simp), hunit]
    exact ⟨by simp [Ring.deasserted, hc], rfl, rfl, hun⟩
  · rw [if_neg (by rw [hg]; simp), hunit]
    exact ⟨by simp [Ring.deasserted, hc], hun⟩
  · rw [if_pos ⟨hc, hg⟩, ringingToIdle_of (r := s.ses n) hses.symm, if_pos hr, State.ses_modSes_self, State.unit_modSes, hses,
      hunit]
    exact ⟨rfl, by simp [Ring.deasserted, hc], (hun.mono (by simp)).trans (unchangedBut_modSes _ _ (by simp))⟩

/-! ### Bursts (R41, R42, R45) -/

theorem burstStart_law (h : hears s n) (hc : (s.unit n).ring.cond = .qualifying) (gap : Nat) {lasted : Nat}
    (hl : lasted = if (s.unit n).ring.reached then (s.unit n).ring.since else max (s.unit n).ring.since s.params.ringMinOn) :
    (lasted ≤ s.params.ringMaxOn → ∃ t, exec (.burstStart n gap) s = .next t ∧ (t.unit n).ring.cond = .burst ∧
      ((s.ses n).state = .idle → t.ses n = s.ses n) ∧
      ((s.ses n).state = .ringing → t.ses n = { s.ses n with lastGap := min gap 65535, stateTimer := .stopped }) ∧
      unchangedBut [.session n, .unit n] s t) ∧
    (s.params.ringMaxOn < lasted → ∃ t, exec (.burstStart n gap) s = .next t ∧ foundFalse n s t) := by
  set started := s.modRing n (Ring.startBurst s.params) with hstarted
  set gapped := (if (s.ses n).state = .ringing then
    started.modSes n fun r => { r with lastGap := min gap maxCadence, stateTimer := .stopped } else started) with hgapped
  have hsun : unchangedBut [.session n, .unit n] s started := unchangedBut_modUnit _ s (by simp)
  have hsses : started.ses n = s.ses n := State.ses_modUnit ..
  have hun : unchangedBut [.session n, .unit n] s gapped :=
    unchanged_ite (fun _ => hsun.trans (unchangedBut_modSes _ _ (by simp))) fun _ => hsun
  have hses : gapped.ses n = if (s.ses n).state = .ringing then { s.ses n with lastGap := min gap 65535, stateTimer := .stopped }
      else s.ses n := by
    rw [hgapped]
    split
    · rw [State.ses_modSes_self, hsses]
      rfl
    · exact hsses
  have hunit : gapped.unit n = { s.unit n with ring := Ring.startBurst s.params (s.unit n).ring } := by
    have : started.unit n = { s.unit n with ring := Ring.startBurst s.params (s.unit n).ring } := State.unit_modUnit_self ..
    rw [hgapped]
    split
    · rw [State.unit_modSes, this]
    · exact this
  have hexec : exec (.burstStart n gap) s = .next (gapped.judgeFalse n lasted) := by
    show execBurstStart n gap s = _
    unfold execBurstStart
    dsimp only
    rw [if_pos (ringIn_of h hc), ← hstarted, ← hgapped, hunit, hl]
    rfl
  have hstate : (gapped.ses n).state = (s.ses n).state := by rw [hses]; split <;> rfl
  have hpar : gapped.params = s.params := hun .params (by simp)
  refine ⟨fun hle => ⟨_, hexec, ?_⟩, fun hlt => ⟨_, hexec, ?_⟩⟩
  · rw [State.judgeFalse, if_neg (by rw [hpar]; exact fun hh => absurd hh.2 (Nat.not_lt.2 hle)), hunit, hses]
    exact ⟨rfl, fun hs => by rw [hs, if_neg (by decide)], fun hs => by rw [hs, if_pos rfl], hun⟩
  · have hburst : gapped.ringIn n .burst = true :=
      ringIn_of ⟨by rw [hstate]; exact h.1, (hun .service (by simp)).trans h.2⟩ (by rw [hunit]; rfl)
    rw [State.judgeFalse, if_pos ⟨hburst, by rw [hpar]; exact hlt⟩]
    exact foundFalse_of h.1 hstate (by rw [hses]; split <;> rfl) (by rw [hunit]) hun

theorem burstEnd_law (h : hears s n) (hc : (s.unit n).ring.cond = .releasing) (onTime : Nat) {rings : Nat}
    (hr : rings = if (s.ses n).state = .ringing then (s.ses n).ringCount + 1 else 1) :
    (rings < s.params.answerAfter → ∃ t, exec (.burstEnd n onTime) s = .next t ∧
      t.ses n = { s.ses n with
        state := .ringing, ringCount := rings, lastOn := min onTime 65535
        stateTimer := .running (s.params.ringMaxOff - 19) } ∧
      (t.unit n).ring.cond = .armed ∧ (t.unit n).ans = (s.unit n).ans ∧ unchangedBut [.session n, .unit n] s t) ∧
    (s.params.answerAfter ≤ rings → ∃ t, exec (.burstEnd n onTime) s = .next t ∧
      t.ses n = { s.ses n with
        state := .answering, ringCount := rings, lastOn := min onTime 65535, cls := (s.sup n).configured
        stateTimer := .running (s.params.carrierLimit * 1000) } ∧
      t.unit n = { s.unit n with
        ans := true, callsAnswered := min ((s.unit n).callsAnswered + 1) 65535, ring := .reset
        carrier := .qualifying 0 false } ∧
      unchangedBut [.session n, .unit n] s t) := by
  set counted := (s.modRing n fun _ => Ring.rearmed ringRelease).countRing n onTime with hcounted
  have hses : counted.ses n = { s.ses n with
      state := .ringing, ringCount := rings, lastOn := min onTime 65535, stateTimer := .stopped } := by
    rw [hcounted, State.countRing, State.ses_modSes_self, State.modRing, State.ses_modUnit, hr]
    rfl
  have hunit : counted.unit n = { s.unit n with ring := Ring.rearmed ringRelease } := by
    rw [hcounted, State.countRing, State.unit_modSes, State.modRing, State.unit_modUnit_self]
  have hun : unchangedBut [.session n, .unit n] s counted := by
    rw [hcounted]
    exact (unchangedBut_modUnit (n := n) _ s (by simp)).trans (unchangedBut_modSes (n := n) _ _ (by simp))
  have hpar : counted.params = s.params := hun .params (by simp)
  have hsup : counted.sup n = s.sup n := hun (.sup n) (by simp)
  have hexec : exec (.burstEnd n onTime) s = .next (counted.judgeRings n) :=
    congrArg Host.Outcome.next (if_pos (ringIn_of h hc))
  refine ⟨fun hlt => ⟨_, hexec, ?_⟩, fun hge => ⟨_, hexec, ?_⟩⟩
  · rw [State.judgeRings, hses, hpar, if_neg (Nat.not_le.2 hlt), State.ses_modSes_self, State.unit_modSes, hses, hunit]
    exact ⟨rfl, rfl, rfl, hun.trans (unchangedBut_modSes _ _ (by simp))⟩
  · rw [State.judgeRings, hses, hpar, if_pos hge, State.answerCall]
    refine ⟨?_, ?_, (hun.trans (unchangedBut_modSes _ _ (by simp))).trans (unchangedBut_modUnit _ _ (by simp))⟩
    · rw [State.ses_modUnit, State.ses_modSes_self, hses, hsup, hpar]
    · rw [State.unit_modUnit_self, State.unit_modSes, hunit]
      rfl

/-! ### The gap timer (R44) -/

theorem gapTimer_law {ms : Nat} (hs : (s.ses n).state = .ringing) (ht : (s.ses n).stateTimer = .running ms) :
    ((s.unit n).ring.cond = .armed → ∃ t, exec (.gapTimerExpiry n) s = .next t ∧
      t.ses n = { s.ses n with state := .idle, ringCount := 0, stateTimer := .stopped } ∧
      unchangedBut [.session n] s t) ∧
    ((s.unit n).ring.cond = .qualifying → ∃ t, exec (.gapTimerExpiry n) s = .next t ∧
      t.ses n = { s.ses n with stateTimer := .stopped } ∧ (t.unit n).ring = { (s.unit n).ring with gapHeld := true } ∧
      unchangedBut [.session n, .unit n] s t) := by
  set stopped := s.modSes n fun r => { r with stateTimer := .stopped } with hstopped
  have hses : stopped.ses n = { s.ses n with stateTimer := .stopped } := State.ses_modSes_self ..
  have hun : unchangedBut [.session n] s stopped := unchangedBut_modSes _ s (by simp)
  refine ⟨fun hc => ⟨stopped.ringingToIdle n, ?_, ?_⟩, fun hc => ⟨stopped.modRing n fun d => { d with gapHeld := true }, ?_, ?_⟩⟩
  · show execGapTimerExpiry n s = _
    unfold execGapTimerExpiry
    rw [if_pos ⟨hs, by rw [ht]; rfl⟩, hc]
  · rw [ringingToIdle_of rfl, hses, hs, if_pos rfl, State.ses_modSes_self, hses]
    exact ⟨rfl, hun.trans (unchangedBut_modSes _ _ (by simp))⟩
  · show execGapTimerExpiry n s = _
    unfold execGapTimerExpiry
    rw [if_pos ⟨hs, by rw [ht]; rfl⟩, hc]
  · rw [State.modRing, State.ses_modUnit, State.unit_modUnit_self, hses, hstopped, State.unit_modSes]
    exact ⟨rfl, rfl, (hun.mono (by simp)).trans (unchangedBut_modUnit _ _ (by simp))⟩

/-- Settles O53: each event by the detector's condition, on a line that hears the ringing. -/
theorem ringEvents : Obligations.RingEvents := by
  intro n d s h hd
  subst hd
  obtain ⟨ha1, ha2, ha3⟩ := asserted_law h
  obtain ⟨hd1, hd2, hd3⟩ := deasserted_law h
  refine ⟨ha1, ha2, ha3, hd1, hd2, hd3, fun gap hc hle => (burstStart_law h hc gap rfl).1 hle,
    fun gap hc hlt => (burstStart_law h hc gap rfl).2 hlt, fun onTime rings hc hr => burstEnd_law h hc onTime hr,
    fun hc => ⟨_, congrArg Host.Outcome.next (if_pos (ringIn_of h hc)), foundFalse_of h.1 rfl rfl rfl (unchangedBut_refl _ s)⟩,
    fun onTime hc => ⟨_, congrArg Host.Outcome.next (if_pos (ringIn_of h hc)), ?_⟩, fun ms hs ht => gapTimer_law hs ht⟩
  have hun : unchangedBut [.session n, .unit n] s (s.modRing n fun _ => Ring.rearmed 0) := unchangedBut_modUnit _ s (by simp)
  dsimp only
  cases hst : (s.unit n).ring.stores with
  | true =>
    rw [if_pos rfl, if_pos rfl, State.unit_modSes, State.ses_modSes_self, State.modRing, State.unit_modUnit_self, State.ses_modUnit]
    exact ⟨rfl, rfl, hun.trans (unchangedBut_modSes _ _ (by simp))⟩
  | false =>
    rw [if_neg (by decide), if_neg (by decide)]
    exact ⟨by rw [State.modRing, State.unit_modUnit_self]; rfl, by rw [State.modRing, State.ses_modUnit], hun⟩

end Sys2Proof.RingDetector
end

section
/-! PROOFS. Refusals, offers and host routing: what each leaves of its line. -/

namespace Sys2Proof.OffersMade

open Sys2Proof.Machine Sys2Proof.Stations Sys2Proof.Clears Sys2Proof.Keeping Sys2Proof.CharacterEvents
open Sys2Proof.ClearRequests Sys2Proof.ClearOrders Sys2Proof.UnitsCharged

variable {s t u v : State} {n : LineNo} {e : Account} {g h : Computer}

/-! ### Refusals (R74, R75) -/

/-- The record of a line refused with a message, the attempt counted (R74). -/
def refusedRecord (r : Session) (slot : Fin 16) : Session :=
  { r with attempts := min (r.attempts + 1) 7, buffer := [], feed := requested r.feed slot, cursor := cursorRequested r }

/-- The line refused, before its attempts are judged. -/
def countedRefusal (s : State) (n : LineNo) (slot : Fin 16) : State :=
  (s.modSes n fun r => { r with attempts := satInc 7 r.attempts, buffer := [] }).requestMessage n slot

theorem countedRefusal_law (s : State) (n : LineNo) (slot : Fin 16) :
    (countedRefusal s n slot).ses n = refusedRecord (s.ses n) slot ∧
      unchangedBut [.session n] s (countedRefusal s n slot) := by
  unfold countedRefusal
  rw [requestMessage_eq, modSes_modSes]
  exact ⟨State.ses_modSes_self .., unchangedBut_modSes _ s (by simp)⟩

theorem refuse_eq (s : State) (n : LineNo) (slot : Fin 16) : s.refuse n slot =
    if s.params.signOnAttempts ≤ min ((s.ses n).attempts + 1) 7 then (countedRefusal s n slot).clearRequest n .signonFailed
    else ((countedRefusal s n slot).requestMessage n 1).modSes n fun r =>
      { r with stateTimer := .running (s.params.signOnLimit * 1000) } := by
  obtain ⟨hses, -⟩ := countedRefusal_law s n slot
  have hattempts : ((countedRefusal s n slot).ses n).attempts = min ((s.ses n).attempts + 1) 7 := by rw [hses]; rfl
  rw [← hattempts]
  rfl

/-- A refusal with attempts left (R74). -/
theorem refuse_left (slot : Fin 16) (h : min ((s.ses n).attempts + 1) 7 < s.params.signOnAttempts) :
    (s.refuse n slot).ses n = { s.ses n with
      attempts := min ((s.ses n).attempts + 1) 7, buffer := [], feed := requested (requested (s.ses n).feed slot) 1
      cursor := cursorRequested (s.ses n), stateTimer := .running (s.params.signOnLimit * 1000) } := by
  obtain ⟨hses, -⟩ := countedRefusal_law s n slot
  rw [refuse_eq, if_neg (Nat.not_le.2 h), requestMessage_eq, State.ses_modSes_self, State.ses_modSes_self, hses]
  simp [refusedRecord, cursorRequested, requested_ne_nil]

/-- The refusal that uses the last attempt clears the line (R75). -/
theorem refuse_last (slot : Fin 16) (hs : (s.ses n).state = .signOn)
    (h : s.params.signOnAttempts ≤ min ((s.ses n).attempts + 1) 7) :
    s.refuse n slot = (countedRefusal s n slot).enterClearing n .signonFailed := by
  rw [refuse_eq, if_pos h, clearRequest_active]
  rw [(countedRefusal_law s n slot).1, show (refusedRecord (s.ses n) slot).state = _ from hs]
  rfl

/-- What a line refused keeps of its offer, and of the call it named while it stays in SIGN_ON. -/
structure Refused (n : LineNo) (slot : Fin 16) (s t : State) : Prop where
  refused : refusedWith slot n s t
  offer : (s.ses n).offer = none → (t.ses n).offer = none
  toggle : (t.ses n).toggle = (s.ses n).toggle
  call : (t.ses n).state = .signOn → (t.ses n).account = (s.ses n).account ∧ (t.ses n).requested = (s.ses n).requested

theorem cleared_toggle {r r' : Session} {x x' : LineUnit} {p : Params} {c : Cause} (h : Cleared r x p c r' x') :
    r'.toggle = r.toggle := by
  cases h with
  | drains => rfl
  | guards => rfl
  | rests => cases r.disablePending <;> rfl

theorem refuse_refused (slot : Fin 16) (hs : (s.ses n).state = .signOn) : Refused n slot s (s.refuse n slot) := by
  by_cases hleft : min ((s.ses n).attempts + 1) 7 < s.params.signOnAttempts
  · have hses := refuse_left slot hleft
    refine ⟨⟨fun _ => ?_, fun hl => absurd hleft (Nat.not_lt.2 hl)⟩, fun ho => ?_, ?_, fun _ => ?_⟩
    · rw [hses]; exact ⟨hs, rfl, rfl, rfl, rfl⟩
    · rw [hses]; exact ho
    · rw [hses]
    · rw [hses]; exact ⟨rfl, rfl⟩
  · rw [refuse_last slot hs (Nat.not_lt.1 hleft), State.enterClearing_eq]
    obtain ⟨hcses, -⟩ := countedRefusal_law s n slot
    obtain ⟨f, bs, hsec, d, o', fe, st, wd, cur, ot, hbses, -, -⟩ := (countedRefusal s n slot).beforeDrain_ses n .signonFailed
    have hcl := startDrain_cleared ((countedRefusal s n slot).beforeDrain n .signonFailed) n .signonFailed
    obtain ⟨hact, -, hcause⟩ := hcl.fields (by rw [hbses])
    refine ⟨⟨fun hl => absurd hl hleft, fun _ => ⟨hact, fun hc => ?_⟩⟩, fun _ => ?_, ?_, fun hc => ?_⟩
    · rw [(hcause hc).1, hbses]
    · exact hcl.keeps_field (by rw [hbses]) rfl rfl (fun _ _ _ _ _ => rfl)
    · have htoggle : (((countedRefusal s n slot).beforeDrain n .signonFailed).ses n).toggle = (s.ses n).toggle := by
        rw [hbses, hcses]
        rfl
      exact (cleared_toggle hcl).trans htoggle
    · rw [hc] at hact
      cases hact

/-- A refusal is judged by the attempts, the feed queue and the parameters. -/
theorem refusedWith_congr {slot : Fin 16} (ha : (v.ses n).attempts = (s.ses n).attempts)
    (hf : (v.ses n).feed = (s.ses n).feed) (hp : v.params = s.params) (h : refusedWith slot n v t) : refusedWith slot n s t := by
  unfold refusedWith at h ⊢
  rwa [← ha, ← hf, ← hp]

/-! ### The return to SIGN_ON (R84, R74) -/

/-- The line whose admission is given back, before its refusal. -/
def returned (s : State) (n : LineNo) : State :=
  (s.releaseAdmission n).modSes n fun r =>
    { r with state := .signOn, stateTimer := .running (s.params.signOnLimit * 1000), account := none, requested := none }

theorem returned_ses (s : State) (n : LineNo) : (returned s n).ses n = { s.ses n with
    state := .signOn, stateTimer := .running (s.params.signOnLimit * 1000), account := none, requested := none } := by
  rw [returned, State.ses_modSes_self, State.ses_releaseAdmission]

/-- What a line returned to SIGN_ON shows (R84, R74). -/
structure Declined (n : LineNo) (s t : State) : Prop where
  refused : refusedWith 8 n s t
  offer : (s.ses n).offer = none → (t.ses n).offer = none
  toggle : (t.ses n).toggle = (s.ses n).toggle
  call : (t.ses n).state = .signOn → (t.ses n).account = none ∧ (t.ses n).requested = none

theorem returnToSignOn_declined (s : State) (n : LineNo) : Declined n s (s.returnToSignOn n) := by
  have hses := returned_ses s n
  obtain ⟨href, hoffer, htoggle, hcall⟩ := refuse_refused (s := returned s n) (n := n) 8 (by rw [hses])
  refine ⟨refusedWith_congr ?_ ?_ ?_ href, fun ho => hoffer ?_, htoggle.trans ?_, fun hc => ?_⟩
  · rw [hses]
  · rw [hses]
  · rw [returned, State.params_modSes, State.params_releaseAdmission]
  · rw [hses]; exact ho
  · rw [hses]
  · obtain ⟨h1, h2⟩ := hcall hc
    rw [show ((s.returnToSignOn n).ses n).account = _ from h1, show ((s.returnToSignOn n).ses n).requested = _ from h2, hses]
    exact ⟨rfl, rfl⟩

/-- The admission that it gives back. -/
theorem returnToSignOn_books (he : s.accountOf n = some e) :
    (s.returnToSignOn n).reservations = s.reservations - 1 ∧
    (s.returnToSignOn n).accounts =
      s.accounts.map (fun x => if x.number = e.number then { x with active := x.active - 1 } else x) := by
  have hrest : unchangedBut (restParts n) (returned s n) (s.returnToSignOn n) :=
    rest_refuse 8 (by rw [returned_ses]; rfl)
  refine ⟨(hrest .reservations (by simp [restParts])).trans ?_, (hrest .accounts (by simp [restParts])).trans ?_⟩
  · rw [returned, State.reservations_modSes, State.reservations_releaseAdmission]
  · rw [returned, State.accounts_modSes]
    exact accounts_modAccountOf (s := { s with reservations := s.reservations - 1 }) (number_of_accountOf he).1 _

/-! ### An offer posted (R79) -/

theorem postOffer_law (s : State) (n : LineNo) (g : Computer) (kind : OfferKind) :
    (s.postOffer n g kind).ses n = { s.ses n with
      toggle := !(s.ses n).toggle, offer := some ⟨g, kind⟩, offerTimer := .running (s.params.offerLimit * 1000) } ∧
    (s.postOffer n g kind).port g.link = { s.port g.link with
      notices := (s.port g.link).notices ++
        [State.offerNotice n kind (!(s.ses n).toggle) ((s.ses n).account.getD 0)] } ∧
    unchangedBut [.session n, .port g.link] s (s.postOffer n g kind) := by
  refine ⟨ses_postOffer s n g kind, ?_, ?_⟩
  · simp [State.postOffer, State.pushNotice]
  · unfold State.postOffer State.pushNotice
    exact (unchangedBut_modPort _ s (by simp)).trans (unchangedBut_modSes _ _ (by simp))

/-! ### The other host (R70, R93) -/

theorem otherHost_ne (h : Computer) : otherHost h ≠ h := by cases h <;> decide

theorem eq_or_other (g h : Computer) : g = h ∨ g = otherHost h := by cases g <;> cases h <;> simp [otherHost]

theorem otherHost_otherHost (h : Computer) : otherHost (otherHost h) = h := by cases h <;> rfl

/-- Where one host does not pass, the choice is the other, if that passes. -/
theorem choose_other {ok : Computer → Bool} (hno : ok h = false) :
    s.choose n ok = if ok (otherHost h) then some (otherHost h) else none := by
  cases h with
  | a => cases hb : ok .b <;> simp [State.choose, hno, otherHost, hb]
  | b => cases ha : ok .a <;> simp [State.choose, hno, otherHost, ha]

/-- Where both pass, the choice is the host with the smaller load, A when equal. -/
theorem choose_both {ok : Computer → Bool} (hok : ∀ g, ok g = true) : s.choose n ok = some (s.lighter n) := by
  simp [State.choose, hok]

/-- Host routing where one host is out of the question: not permitted, DOWN, or tried (R70). -/
theorem route_other {p tried : HostSet} {req : Option Computer}
    (hno : (p.has h && (s.host h).up && !tried.has h) = false) :
    s.route n p req tried = if req.all (· == otherHost h) && !tried.has (otherHost h) && p.has (otherHost h) &&
      (s.host (otherHost h)).up then some (otherHost h) else none := by
  unfold State.route
  cases req with
  | none =>
    dsimp only
    rw [choose_other hno]
    refine if_congr ?_ rfl rfl
    simp only [Option.all_none, Bool.and_eq_true, true_and]
    tauto
  | some x =>
    dsimp only
    rcases eq_or_other x h with rfl | rfl
    · simp [hno, Ne.symm (otherHost_ne _)]
    · refine if_congr ?_ rfl rfl
      simp only [Option.all_some, beq_self_eq_true, Bool.and_eq_true, true_and]
      tauto

theorem rerouteCandidate_eq (he : s.accountOf n = some e) : s.rerouteCandidate n =
    if 2 ≤ (s.ses n).offerAttempts then none else s.route n e.hosts (s.ses n).requested (s.ses n).tried := by
  unfold State.rerouteCandidate
  rw [he]

theorem permitsHost_eq (he : s.accountOf n = some e) (g : Computer) : s.permitsHost n g = e.hosts.has g := by
  unfold State.permitsHost
  rw [he]

/-- The load of a host is a matter of the other lines (R70). -/
theorem load_congr (hm : ∀ m, m ≠ n → t.ses m = s.ses m) (g : Computer) : t.load n g = s.load n g := by
  unfold State.load State.countLines
  refine List.countP_congr fun m _ => ?_
  by_cases h : m = n
  · simp [h]
  · have hses := hm m h
    unfold State.ses at hses
    simp only [hses]

/-! ### Offer attempts (R79) -/

/-- The record of a line offered to a host once more. -/
def attempted (r : Session) (g : Computer) : Session :=
  { r with offerAttempts := r.offerAttempts + 1, tried := r.tried.add g }

theorem signOnAttempt_room {k : Nat} (hq : s.queueFull g.link = false) :
    s.signOnAttempt n g (k + 1) = (s.modSes n fun r => attempted r g).postOffer n g .signOn := by
  unfold State.signOnAttempt
  dsimp only
  rw [queueFull_modSes, hq]
  rfl

theorem signOnAttempt_next {k : Nat} (hq : s.queueFull g.link = true)
    (hc : (s.modSes n fun r => attempted r g).rerouteCandidate n = some h) :
    s.signOnAttempt n g (k + 1) = (s.modSes n fun r => attempted r g).signOnAttempt n h k := by
  conv_lhs => unfold State.signOnAttempt
  dsimp only
  rw [queueFull_modSes, hq]
  unfold attempted at hc ⊢
  simp only [hc, Bool.not_true, Bool.false_eq_true, if_false]

theorem signOnAttempt_return {k : Nat} (hq : s.queueFull g.link = true)
    (hc : (s.modSes n fun r => attempted r g).rerouteCandidate n = none) :
    s.signOnAttempt n g (k + 1) = (s.modSes n fun r => attempted r g).returnToSignOn n := by
  conv_lhs => unfold State.signOnAttempt
  dsimp only
  rw [queueFull_modSes, hq]
  unfold attempted at hc ⊢
  simp only [hc, Bool.not_true, Bool.false_eq_true, if_false]

theorem accountOf_modSes {f : Session → Session} (hf : (f (s.ses n)).account = (s.ses n).account) :
    (s.modSes n f).accountOf n = s.accountOf n := by
  unfold State.accountOf State.account?
  rw [State.ses_modSes_self, State.accounts_modSes, hf]

end Sys2Proof.OffersMade
end

section
/-! PROOFS. The evaluation of a sign-on line and the admission of its caller. -/

namespace Sys2Proof.CallersAdmitted

open Sys2Proof.Machine Sys2Proof.Stations Sys2Proof.Clears Sys2Proof.Keeping Sys2Proof.CharacterEvents
open Sys2Proof.ClearRequests Sys2Proof.OffersMade

variable {s t v : State} {n : LineNo} {e : Account} {g h : Computer} {number : Nat} {req : Option Computer}

/-! ### The form of the sign-on line (R67) -/

theorem isDigit_iff (c : Byte) : isDigit c = true ↔ ∃ d < 10, c.toNat = 48 + d := by
  simp only [isDigit, Bool.and_eq_true, decide_eq_true_eq]
  exact ⟨fun h => ⟨c.toNat - 48, by omega, by omega⟩, fun ⟨d, hd, hc⟩ => by omega⟩

theorem hostLetter_iff (c : Byte) (h : Computer) : hostLetter c = some h ↔
    (c.toNat = 65 ∨ c.toNat = 97) ∧ h = .a ∨ (c.toNat = 66 ∨ c.toNat = 98) ∧ h = .b := by
  unfold hostLetter
  cases h <;> split <;> (try split) <;> simp <;> omega

theorem decimal_six {c1 c2 c3 c4 c5 c6 : Byte} {d1 d2 d3 d4 d5 d6 : Nat} (h1 : c1.toNat = 48 + d1) (h2 : c2.toNat = 48 + d2)
    (h3 : c3.toNat = 48 + d3) (h4 : c4.toNat = 48 + d4) (h5 : c5.toNat = 48 + d5) (h6 : c6.toNat = 48 + d6) :
    decimal [c1, c2, c3, c4, c5, c6] = 100000 * d1 + 10000 * d2 + 1000 * d3 + 100 * d4 + 10 * d5 + d6 := by
  simp only [decimal, List.foldl_cons, List.foldl_nil, h1, h2, h3, h4, h5, h6]
  omega

/-- A line that spells an account number and a host is read so (R67). -/
theorem parse_spells {buf : List Byte} (h : spells buf number req) : parseSignOn buf = some (number, req) := by
  obtain ⟨d1, d2, d3, d4, d5, d6, hd1, hd2, hd3, hd4, hd5, hd6, rfl, rest, hbuf, hrest⟩ := h
  simp only [List.cons_append, List.nil_append, List.map_eq_cons_iff] at hbuf
  obtain ⟨c1, _, rfl, h1, c2, _, rfl, h2, c3, _, rfl, h3, c4, _, rfl, h4, c5, _, rfl, h5, c6, tail, rfl, h6, htail⟩ := hbuf
  have hdigits : [c1, c2, c3, c4, c5, c6].all isDigit = true := by
    simp only [List.all_cons, List.all_nil, Bool.and_true, Bool.and_eq_true, isDigit_iff]
    exact ⟨⟨d1, hd1, h1⟩, ⟨d2, hd2, h2⟩, ⟨d3, hd3, h3⟩, ⟨d4, hd4, h4⟩, ⟨d5, hd5, h5⟩, ⟨d6, hd6, h6⟩⟩
  have hpair : ∀ {x y : Nat}, tail.map (·.toNat) = [x, y] → ∃ a b, tail = [a, b] ∧ a.toNat = x ∧ b.toNat = y := by
    intro x y hxy
    simp only [List.map_eq_cons_iff, List.map_eq_nil_iff] at hxy
    obtain ⟨a, _, rfl, ha, b, _, rfl, hb, rfl⟩ := hxy
    exact ⟨a, b, rfl, ha, hb⟩
  have hletter : ∀ {x : Nat} {g : Computer}, tail.map (·.toNat) = [44, x] → (x = 65 ∨ x = 97) ∧ g = .a ∨ (x = 66 ∨ x = 98) ∧ g = .b →
      parseSignOn (c1 :: c2 :: c3 :: c4 :: c5 :: c6 :: tail) =
        some (100000 * d1 + 10000 * d2 + 1000 * d3 + 100 * d4 + 10 * d5 + d6, some g) := by
    intro x g hx hg
    obtain ⟨a, b, rfl, ha, rfl⟩ := hpair hx
    simp [parseSignOn, hdigits, ha, (hostLetter_iff b g).2 hg, decimal_six h1 h2 h3 h4 h5 h6]
  rcases hrest with ⟨rfl, rfl⟩ | ⟨rfl | rfl, rfl⟩ | ⟨rfl | rfl, rfl⟩
  · obtain rfl := List.map_eq_nil_iff.1 htail
    simp [parseSignOn, hdigits, decimal_six h1 h2 h3 h4 h5 h6]
  · exact hletter htail (by decide)
  · exact hletter htail (by decide)
  · exact hletter htail (by decide)
  · exact hletter htail (by decide)

theorem six_of_length {l : List Byte} (h : l.length = 6) : ∃ c1 c2 c3 c4 c5 c6, l = [c1, c2, c3, c4, c5, c6] := by
  match l, h with
  | [c1, c2, c3, c4, c5, c6], _ => exact ⟨c1, c2, c3, c4, c5, c6, rfl⟩

/-- What is read was spelled (R67). -/
theorem spells_parse {buf : List Byte} (h : parseSignOn buf = some (number, req)) : spells buf number req := by
  unfold parseSignOn at h
  dsimp only at h
  split at h
  next hd =>
    obtain ⟨hlen, hall⟩ := hd
    obtain ⟨c1, c2, c3, c4, c5, c6, h6⟩ := six_of_length hlen
    rw [h6] at hall
    simp only [List.all_cons, List.all_nil, Bool.and_true, Bool.and_eq_true, isDigit_iff] at hall
    obtain ⟨⟨d1, hd1, e1⟩, ⟨d2, hd2, e2⟩, ⟨d3, hd3, e3⟩, ⟨d4, hd4, e4⟩, ⟨d5, hd5, e5⟩, ⟨d6, hd6, e6⟩⟩ := hall
    have hbuf : buf = [c1, c2, c3, c4, c5, c6] ++ buf.drop 6 := by rw [← h6, List.take_append_drop]
    have hnumber := decimal_six e1 e2 e3 e4 e5 e6
    have hmap : ∀ tail, buf.drop 6 = tail → buf.map (·.toNat) =
        [48 + d1, 48 + d2, 48 + d3, 48 + d4, 48 + d5, 48 + d6] ++ tail.map (·.toNat) := by
      rintro _ rfl
      conv_lhs => rw [hbuf]
      simp [e1, e2, e3, e4, e5, e6]
    rw [h6, hnumber] at h
    refine ⟨d1, d2, d3, d4, d5, d6, hd1, hd2, hd3, hd4, hd5, hd6, ?_, (buf.drop 6).map (·.toNat), hmap _ rfl, ?_⟩
    · split at h
      · simp only [Option.some.injEq, Prod.mk.injEq] at h
        exact h.1.symm
      · split at h
        · simp only [Option.map_eq_some_iff, Prod.mk.injEq] at h
          obtain ⟨x, -, hx, -⟩ := h
          exact hx.symm
        · cases h
      · cases h
    · split at h
      next hdrop =>
        simp only [Option.some.injEq, Prod.mk.injEq] at h
        exact .inl ⟨by rw [hdrop, List.map_nil], h.2.symm⟩
      next comma letter hdrop =>
        split at h
        next hcomma =>
          simp only [Option.map_eq_some_iff, Prod.mk.injEq] at h
          obtain ⟨x, hx, -, rfl⟩ := h
          rw [hdrop]
          simp only [List.map_cons, List.map_nil, hcomma, List.cons.injEq, true_and, and_true]
          rcases (hostLetter_iff letter x).1 hx with ⟨hl, rfl⟩ | ⟨hl, rfl⟩
          · exact .inr (.inl ⟨hl, rfl⟩)
          · exact .inr (.inr ⟨hl, rfl⟩)
        · cases h
      · cases h
  · cases h

theorem evaluation_spells (h : spells (s.ses n).buffer number req) : s.evaluation n = s.checkAccount n number req := by
  unfold State.evaluation
  rw [parse_spells h]

theorem evaluation_unread (h : ∀ number req, ¬spells (s.ses n).buffer number req) : s.evaluation n = .error 2 := by
  unfold State.evaluation
  cases hp : parseSignOn (s.ses n).buffer with
  | none => rfl
  | some found => exact absurd (spells_parse hp) (h _ _)

/-! ### The checks of an account (R66, R68 to R72) -/

theorem checkAccount_entry (he : s.account? number = some e) : s.checkAccount n number req =
    if e.state = .suspended then .error 3
    else if e.classes.getLsbD (s.ses n).cls.val = false then .error 3
    else if e.balance < s.tariff.classes[(s.ses n).cls.val].fee ∨ e.balance < 1 then .error 4
    else if e.limit ≤ e.active then .error 5
    else (s.route n e.hosts req .empty).elim (.error 6) fun h =>
      if 32 ≤ s.recordSum then .error 7 else .ok (number, req, h) := by
  unfold State.checkAccount
  rw [he]
  dsimp only
  generalize s.route n e.hosts req .empty = found
  cases found <;> rfl

/-- What an account shows that passes the checks of its entry. -/
structure Passes (s : State) (n : LineNo) (number : Nat) (e : Account) : Prop where
  entry : s.account? number = some e
  state : e.state = .opened
  classes : e.classes.getLsbD (s.ses n).cls.val = true
  fee : s.tariff.classes[(s.ses n).cls.val].fee ≤ e.balance
  balance : 0 < e.balance

theorem Passes.limit (h : Passes s n number e) (hl : e.limit ≤ e.active) : s.checkAccount n number req = .error 5 := by
  rw [checkAccount_entry h.entry, if_neg (by rw [h.state]; decide), if_neg (by rw [h.classes]; decide),
    if_neg (by have := h.fee; have := h.balance; omega), if_pos hl]

theorem Passes.host (h : Passes s n number e) (hl : e.active < e.limit) (hr : s.route n e.hosts req .empty = none) :
    s.checkAccount n number req = .error 6 := by
  rw [checkAccount_entry h.entry, if_neg (by rw [h.state]; decide), if_neg (by rw [h.classes]; decide),
    if_neg (by have := h.fee; have := h.balance; omega), if_neg (Nat.not_le.2 hl), hr, Option.elim_none]

theorem Passes.routed (h : Passes s n number e) (hl : e.active < e.limit) (hr : s.route n e.hosts req .empty = some g) :
    s.checkAccount n number req = if 32 ≤ s.recordSum then .error 7 else .ok (number, req, g) := by
  rw [checkAccount_entry h.entry, if_neg (by rw [h.state]; decide), if_neg (by rw [h.classes]; decide),
    if_neg (by have := h.fee; have := h.balance; omega), if_neg (Nat.not_le.2 hl), hr, Option.elim_some]

theorem empty_has (h : Computer) : HostSet.empty.has h = false := by cases h <;> rfl

theorem route_none {p : HostSet} (h : ∀ h, p.has h = true → (s.host h).up = true → ∃ g, req = some g ∧ g ≠ h) :
    s.route n p req .empty = none := by
  cases hr : s.route n p req .empty with
  | none => rfl
  | some x =>
    obtain ⟨hp, hu, -, hreq⟩ := route_passes hr
    obtain ⟨g, rfl, hne⟩ := h x hp hu
    rcases hreq with hreq | hreq
    · cases hreq
    · exact absurd (Option.some.inj hreq) hne

theorem route_some {p : HostSet} (hp : p.has h = true) (hu : (s.host h).up = true) (hreq : req = none ∨ req = some h) :
    ∃ g, s.route n p req .empty = some g := by
  have helig : (p.has h && (s.host h).up && !HostSet.empty.has h) = true := by rw [hp, hu, empty_has]; rfl
  unfold State.route
  rcases hreq with rfl | rfl
  · dsimp only
    cases ho : (p.has (otherHost h) && (s.host (otherHost h)).up && !HostSet.empty.has (otherHost h)) with
    | false => exact ⟨h, by rw [choose_other ho, otherHost_otherHost, helig]; rfl⟩
    | true =>
      refine ⟨_, choose_both fun g => ?_⟩
      rcases eq_or_other g h with rfl | rfl
      · exact helig
      · exact ho
  · exact ⟨h, if_pos helig⟩

/-- Which host the routing of a caller finds (R70). -/
theorem route_first {p : HostSet} (hp : p.has h = true) (hu : (s.host h).up = true)
    (hreq : req = some h ∨ req = none ∧ (p.has (otherHost h) = false ∨ (s.host (otherHost h)).up = false ∨
      s.lighter n = h)) : s.route n p req .empty = some h := by
  have helig : (p.has h && (s.host h).up && !HostSet.empty.has h) = true := by rw [hp, hu, empty_has]; rfl
  unfold State.route
  rcases hreq with rfl | ⟨rfl, hor⟩
  · exact if_pos helig
  · dsimp only
    cases ho : (p.has (otherHost h) && (s.host (otherHost h)).up && !HostSet.empty.has (otherHost h)) with
    | false => rw [choose_other ho, otherHost_otherHost, helig]; rfl
    | true =>
      simp only [Bool.and_eq_true] at ho
      obtain ⟨⟨ho1, ho2⟩, -⟩ := ho
      rw [choose_both, hor.resolve_left (by simp [ho1]) |>.resolve_left (by simp [ho2])]
      intro g
      rcases eq_or_other g h with rfl | rfl
      · exact helig
      · rw [ho1, ho2, empty_has]; rfl

theorem lighter_of (hl : h = .a ∧ s.load n .a ≤ s.load n .b ∨ h = .b ∧ s.load n .b < s.load n .a) : s.lighter n = h := by
  unfold State.lighter
  rcases hl with ⟨rfl, hl⟩ | ⟨rfl, hl⟩
  · exact if_pos hl
  · exact if_neg (Nat.not_le.2 hl)

/-! ### Admission (R73, R79, R84) -/

/-- A caller admitted, with the offer attempts made and the hosts tried. -/
def admittedWith (v : State) (n : LineNo) (number : Nat) (req : Option Computer) (k : Nat) (tried : HostSet) : State :=
  (admittedTo v n number req).modSes n fun r => { r with offerAttempts := k, tried := tried }

theorem admittedWith_first (v : State) (n : LineNo) (number : Nat) (req : Option Computer) (g : Computer) :
    ((admittedTo v n number req).modSes n fun r => attempted r g) = admittedWith v n number req 1 (HostSet.empty.add g) := by
  refine AccountOrders.modSes_congr ?_
  rw [ses_admittedTo]
  rfl

theorem admittedWith_again (v : State) (n : LineNo) (number : Nat) (req : Option Computer) (k : Nat) (tried : HostSet)
    (g : Computer) : ((admittedWith v n number req k tried).modSes n fun r => attempted r g) =
      admittedWith v n number req (k + 1) (tried.add g) := by
  unfold admittedWith
  rw [modSes_modSes]
  exact AccountOrders.modSes_congr rfl

theorem admittedWith_law (v : State) (n : LineNo) (number : Nat) (req : Option Computer) (k : Nat) (tried : HostSet) :
    (admittedWith v n number req k tried).ses n = { v.ses n with
      account := some number, requested := req, buffer := [], state := .offered, stateTimer := .stopped
      offerAttempts := k, tried := tried } ∧
    (admittedWith v n number req k tried).reservations = v.reservations + 1 ∧
    (admittedWith v n number req k tried).accounts =
      v.accounts.map (fun x => if x.number = number then { x with active := x.active + 1 } else x) ∧
    unchangedBut [.session n, .accounts, .reservations] v (admittedWith v n number req k tried) := by
  refine ⟨?_, rfl, ?_, ?_⟩
  · rw [admittedWith, State.ses_modSes_self, ses_admittedTo]
  · rw [admittedWith, State.accounts_modSes]
    exact List.map_congr_left fun x _ => if_congr beq_iff_eq rfl rfl
  · unfold admittedWith admittedTo
    have hreserved : unchangedBut [.session n, .accounts, .reservations] v { v with reservations := v.reservations + 1 } :=
      unchanged_write (by simp [storeParts, Part.same])
    exact ((hreserved.trans (unchangedBut_modAccount _ _ _ (by simp))).trans (unchangedBut_modSes _ _ (by simp))).trans
      (unchangedBut_modSes _ _ (by simp))

theorem admittedWith_port (v : State) (n : LineNo) (number : Nat) (req : Option Computer) (k : Nat) (tried : HostSet)
    (j : Link) : (admittedWith v n number req k tried).port j = v.port j :=
  (admittedWith_law v n number req k tried).2.2.2 (.port j) (by simp)

theorem admittedWith_entry (he : v.account? number = some e) (k : Nat) (tried : HostSet) :
    (admittedWith v n number req k tried).accountOf n = some { e with active := e.active + 1 } := by
  have hentry : (({ v with reservations := v.reservations + 1 } : State).modAccount number fun e =>
      { e with active := e.active + 1 }).account? number = some { e with active := e.active + 1 } :=
    AccountOrders.account?_modAccount (s := { v with reservations := v.reservations + 1 }) he fun _ h => h
  have hacct : (admittedWith v n number req k tried).account? number = some { e with active := e.active + 1 } := hentry
  rw [State.accountOf, (admittedWith_law v n number req k tried).1]
  exact hacct

/-- The other host is the candidate for a re-route once one is tried, if it qualifies (R84). -/
theorem admittedWith_candidate (he : v.account? number = some e) {tried : HostSet} (ht : tried.has h = true) :
    (admittedWith v n number req 1 tried).rerouteCandidate n =
      if req.all (· == otherHost h) && !tried.has (otherHost h) && e.hosts.has (otherHost h) &&
        (v.host (otherHost h)).up then some (otherHost h) else none := by
  obtain ⟨hses, -, -, hun⟩ := admittedWith_law v n number req 1 tried
  rw [rerouteCandidate_eq (admittedWith_entry he 1 tried), hses]
  dsimp only
  rw [if_neg (by decide), route_other (h := h) (by rw [ht]; simp), show _ = _ from hun (.host (otherHost h)) (by simp)]

/-- A caller admitted and offered to a host (R73, R79). -/
theorem admitted_offered (v : State) (n : LineNo) (number : Nat) (req : Option Computer) (k : Nat) (tried : HostSet)
    (g : Computer) :
    ((admittedWith v n number req k tried).postOffer n g .signOn).ses n = { v.ses n with
      account := some number, requested := req, buffer := [], state := .offered, stateTimer := .stopped
      offerAttempts := k, tried := tried, offer := some ⟨g, .signOn⟩, toggle := !(v.ses n).toggle
      offerTimer := .running (v.params.offerLimit * 1000) } ∧
    ((admittedWith v n number req k tried).postOffer n g .signOn).reservations = v.reservations + 1 ∧
    ((admittedWith v n number req k tried).postOffer n g .signOn).accounts =
      v.accounts.map (fun x => if x.number = number then { x with active := x.active + 1 } else x) ∧
    (((admittedWith v n number req k tried).postOffer n g .signOn).port g.link).notices =
      (v.port g.link).notices ++ [.offer n (!(v.ses n).toggle) number] ∧
    unchangedBut [.session n, .accounts, .reservations, .port g.link] v
      ((admittedWith v n number req k tried).postOffer n g .signOn) := by
  obtain ⟨hses, hres, hacc, hun⟩ := admittedWith_law v n number req k tried
  have hport := admittedWith_port v n number req k tried g.link
  have hparams : (admittedWith v n number req k tried).params = v.params := hun .params (by simp)
  obtain ⟨hpses, hpport, hpun⟩ := postOffer_law (admittedWith v n number req k tried) n g .signOn
  refine ⟨?_, (hpun .reservations (by simp)).trans hres, (hpun .accounts (by simp)).trans hacc, ?_,
    (hun.mono (by simp +contextual)).trans (hpun.mono (by simp +contextual))⟩
  · rw [hpses, hses, hparams]
  · rw [hpport, hport, hses]
    rfl

/-- A caller whom no host has room for stays in SIGN_ON, refused, with nothing reserved (R79, R84). -/
theorem admitted_returned (he : v.account? number = some e) (k : Nat) (tried : HostSet) :
    refusedWith 8 n v ((admittedWith v n number req k tried).returnToSignOn n) ∧
    ((v.ses n).offer = none → (((admittedWith v n number req k tried).returnToSignOn n).ses n).offer = none) ∧
    (((admittedWith v n number req k tried).returnToSignOn n).ses n).toggle = (v.ses n).toggle ∧
    unchangedBut (restParts n) v ((admittedWith v n number req k tried).returnToSignOn n) := by
  obtain ⟨hses, hres, hacc, hun⟩ := admittedWith_law v n number req k tried
  have hparams : (admittedWith v n number req k tried).params = v.params := hun .params (by simp)
  obtain ⟨href, hoffer, htoggle, -⟩ := returnToSignOn_declined (admittedWith v n number req k tried) n
  obtain ⟨hrres, hracc⟩ := returnToSignOn_books (admittedWith_entry (n := n) (req := req) he k tried)
  have hnumber := (account?_eq_some he).2
  refine ⟨refusedWith_congr (by rw [hses]) (by rw [hses]) hparams href, fun ho => hoffer (by rw [hses]; exact ho),
    htoggle.trans (by rw [hses]), fun p hp => ?_⟩
  by_cases hpa : p = .accounts
  · subst hpa
    refine hracc.trans ?_
    rw [hacc, List.map_map]
    refine List.map_id'' (fun x => ?_) _
    by_cases hx : x.number = number
    · rw [Function.comp_apply, if_pos hx]
      exact if_pos (hx.trans hnumber.symm)
    · rw [Function.comp_apply, if_neg hx]
      exact if_neg fun h => hx (h.trans hnumber)
  · by_cases hpr : p = .reservations
    · subst hpr
      refine hrres.trans ?_
      rw [hres, Nat.add_sub_cancel]
    · refine Part.same_trans (hun p ?_) (rest_returnToSignOn _ n p ?_)
      · simp only [restParts, List.mem_cons, List.not_mem_nil, or_false, not_or] at hp ⊢
        exact ⟨hp.1, hpa, hpr⟩
      · simp only [List.mem_cons, not_or]
        exact ⟨hpa, hpr, hp⟩

theorem admitCaller_room (hq : v.queueFull g.link = false) :
    v.admitCaller n number req g = (admittedWith v n number req 1 (HostSet.empty.add g)).postOffer n g .signOn := by
  rw [admitCaller_eq, signOnAttempt_room, admittedWith_first]
  rw [State.queueFull, port_admittedTo]
  exact hq

theorem queueFull_admittedWith (k : Nat) (tried : HostSet) (j : Link) :
    (admittedWith v n number req k tried).queueFull j = v.queueFull j := by
  rw [State.queueFull, admittedWith_port]
  rfl

/-- A caller whose first host has no room is offered to the other, where that qualifies and has room (R79, R84). -/
theorem admitCaller_next (he : v.account? number = some e) (hq : v.queueFull g.link = true)
    (hreq : req.all (· == otherHost g) = true) (hp : e.hosts.has (otherHost g) = true) (hu : (v.host (otherHost g)).up = true) :
    v.admitCaller n number req g = if v.queueFull (otherHost g).link
      then (admittedWith v n number req 2 ((HostSet.empty.add g).add (otherHost g))).returnToSignOn n
      else (admittedWith v n number req 2 ((HostSet.empty.add g).add (otherHost g))).postOffer n (otherHost g) .signOn := by
  have hcand : (admittedWith v n number req 1 (HostSet.empty.add g)).rerouteCandidate n = some (otherHost g) := by
    rw [admittedWith_candidate he (has_add_self _ g), if_pos]
    rw [hreq, hp, hu]
    cases g <;> rfl
  rw [admitCaller_eq, signOnAttempt_next (h := otherHost g) (by rw [State.queueFull, port_admittedTo]; exact hq)
    (by rw [admittedWith_first]; exact hcand), admittedWith_first]
  cases hqo : v.queueFull (otherHost g).link with
  | false => rw [signOnAttempt_room (by rw [queueFull_admittedWith, hqo]), admittedWith_again]; rfl
  | true =>
    rw [signOnAttempt_return (by rw [queueFull_admittedWith, hqo]), admittedWith_again, if_pos rfl]
    rw [admittedWith_again, rerouteCandidate_eq (admittedWith_entry he _ _), if_pos]
    rw [(admittedWith_law v n number req _ _).1]

/-- A caller whose host has no room, the other not qualifying, stays in SIGN_ON (R79, R84). -/
theorem admitCaller_none (he : v.account? number = some e) (hq : v.queueFull g.link = true)
    (hno : ¬(req.all (· == otherHost g) = true ∧ e.hosts.has (otherHost g) = true ∧ (v.host (otherHost g)).up = true)) :
    v.admitCaller n number req g = (admittedWith v n number req 1 (HostSet.empty.add g)).returnToSignOn n := by
  rw [admitCaller_eq, signOnAttempt_return (by rw [State.queueFull, port_admittedTo]; exact hq), admittedWith_first]
  rw [admittedWith_first, admittedWith_candidate he (has_add_self _ g), if_neg]
  simp only [Bool.and_eq_true]
  tauto

/-! ### CR in SIGN_ON -/

theorem signOnChar_return (s : State) (n : LineNo) : s.signOnChar n 13 = s.endOfLine n := by
  unfold State.signOnChar
  rw [if_neg (by decide), if_neg (by decide), if_neg (by decide), if_pos (by decide)]

/-- CR echoed with LF; what the evaluation finds decides (R66). -/
theorem evaluated {bits : Byte} (ht : typed s n bits 13) : ∃ v,
    v.ses n = { s.ses n with tx := echoed (s.ses n).tx [13, 10] } ∧
    unchangedBut [.session n, .unit n, .sup n] s v ∧
    (∀ slot, v.evaluation n = .error slot → exec (.characterReceived n bits true) s = .next (v.refuse n slot)) ∧
    ∀ number req g, v.evaluation n = .ok (number, req, g) →
      exec (.characterReceived n bits true) s = .next (v.admitCaller n number req g) := by
  obtain ⟨hexec, hbusy⟩ := exec_typed ht
  obtain ⟨hses, -, -, hun⟩ := heardChar_fields s n true
  rw [hexec, signOnChar_return]
  refine ⟨(heardChar s n true).echoAll n [chCr, chLf], ?_, ?_, fun slot h => ?_, fun number req g h => ?_⟩
  · rw [echoAll_busy hbusy, State.ses_modSes_self, hses]
    rfl
  · rw [echoAll_busy hbusy]
    exact (hun.mono (by simp +contextual)).trans (unchangedBut_modSes _ _ (by simp))
  · rw [State.endOfLine, h]
  · rw [State.endOfLine, h]

/-- A line as the evaluation of its sign-on line finds it, CR and LF echoed (R66). -/
structure Shown (n : LineNo) (s v : State) : Prop where
  ses : v.ses n = { s.ses n with tx := echoed (s.ses n).tx [13, 10] }
  others : unchangedBut [.session n, .unit n, .sup n] s v

section
variable (hv : Shown n s v)
include hv

theorem Shown.refuse (hs : (s.ses n).state = .signOn) (slot : Fin 16) : refusedWith slot n s (v.refuse n slot) ∧
    unchangedBut [.session n, .unit n, .sup n, .service, .port .acct] s (v.refuse n slot) := by
  have hst : (v.ses n).state = .signOn := by rw [hv.ses]; exact hs
  refine ⟨refusedWith_congr (by rw [hv.ses]) (by rw [hv.ses]) (hv.others .params (by simp)) (refuse_refused slot hst).refused, ?_⟩
  exact (hv.others.mono (by simp +contextual)).trans ((rest_refuse slot (by rw [hst]; rfl)).mono (by simp +contextual [restParts]))

theorem Shown.account? (a : Nat) : v.account? a = s.account? a := by
  rw [State.account?, State.account?, show v.accounts = _ from hv.others .accounts (by simp)]

theorem Shown.host (g : Computer) : v.host g = s.host g := hv.others (.host g) (by simp)

theorem Shown.port (k : Link) : v.port k = s.port k := hv.others (.port k) (by simp)

theorem Shown.cls : (v.ses n).cls = (s.ses n).cls := by rw [hv.ses]

theorem Shown.fee : v.tariff.classes[(v.ses n).cls.val].fee = s.tariff.classes[(s.ses n).cls.val].fee := by
  simp only [hv.cls, show v.tariff = _ from hv.others .tariff (by simp)]

theorem Shown.sum : v.recordSum = s.records.length + s.reservations := by
  rw [State.recordSum, show v.records = _ from hv.others .records (by simp),
    show v.reservations = _ from hv.others .reservations (by simp)]

theorem Shown.load (g : Computer) : v.load n g = s.load n g :=
  load_congr (fun m hm => hv.others (.session m) (by simp [hm])) g

theorem Shown.queueFull (g : Computer) : v.queueFull g.link = true ↔ 32 ≤ (s.port g.link).notices.length := by
  rw [queueFull_link, hv.port]

theorem Shown.passes (he : s.account? number = some e) (hs : e.state = .opened)
    (hc : e.classes.getLsbD (s.ses n).cls.val = true) (hf : s.tariff.classes[(s.ses n).cls.val].fee ≤ e.balance)
    (hb : 0 < e.balance) : Passes v n number e :=
  ⟨by rw [hv.account?, he], hs, by rw [hv.cls, hc], by rw [hv.fee]; exact hf, hb⟩

/-- The first check that fails is the refusal's message (R66, R68 to R72). -/
theorem Shown.check_fails {slot : Fin 16} (h : s.account? number = none ∧ slot = 3 ∨
      ∃ e, s.account? number = some e ∧
        ((e.state = .suspended ∨ e.classes.getLsbD (s.ses n).cls.val = false) ∧ slot = 3 ∨
         e.state = .opened ∧ e.classes.getLsbD (s.ses n).cls.val = true ∧
          ((e.balance < s.tariff.classes[(s.ses n).cls.val].fee ∨ e.balance = 0) ∧ slot = 4 ∨
           s.tariff.classes[(s.ses n).cls.val].fee ≤ e.balance ∧ 0 < e.balance ∧
            (e.limit ≤ e.active ∧ slot = 5 ∨
             e.active < e.limit ∧
              ((∀ h, e.hosts.has h = true → (s.host h).up = true → ∃ g, req = some g ∧ g ≠ h) ∧ slot = 6 ∨
               (∃ h, e.hosts.has h = true ∧ (s.host h).up = true ∧ (req = none ∨ req = some h)) ∧
                32 ≤ s.records.length + s.reservations ∧ slot = 7))))) :
    v.checkAccount n number req = .error slot := by
  rcases h with ⟨hnone, rfl⟩ | ⟨e, he, h⟩
  · unfold State.checkAccount
    rw [hv.account?, hnone]
    rfl
  have he' : v.account? number = some e := by rw [hv.account?, he]
  rcases h with ⟨hbad, rfl⟩ | ⟨hs, hc, h⟩
  · rw [checkAccount_entry he']
    by_cases hs : e.state = .suspended
    · rw [if_pos hs]
    · rw [if_neg hs, if_pos (by rw [hv.cls]; exact hbad.resolve_left hs)]
  rcases h with ⟨hpoor, rfl⟩ | ⟨hf, hb, h⟩
  · rw [checkAccount_entry he', if_neg (by rw [hs]; decide), if_neg (by rw [hv.cls, hc]; decide), if_pos]
    rw [hv.fee]
    omega
  have hpass := hv.passes he hs hc hf hb
  rcases h with ⟨hl, rfl⟩ | ⟨hl, h⟩
  · exact hpass.limit hl
  rcases h with ⟨hno, rfl⟩ | ⟨⟨g, hp, hu, hreq⟩, hfull, rfl⟩
  · exact hpass.host hl (route_none fun g hp hu => hno g hp (by rw [← hv.host]; exact hu))
  · obtain ⟨x, hx⟩ := route_some (s := v) (n := n) hp (by rw [hv.host]; exact hu) hreq
    rw [hpass.routed hl hx, if_pos (by rw [hv.sum]; exact hfull)]

/-- The host that the routing of a caller finds (R70). -/
theorem Shown.routed (hp : e.hosts.has h = true) (hu : (s.host h).up = true)
    (hreq : req = some h ∨ req = none ∧ (e.hosts.has (otherHost h) = false ∨ (s.host (otherHost h)).up = false ∨
      (h = .a ∧ s.load n .a ≤ s.load n .b) ∨ h = .b ∧ s.load n .b < s.load n .a)) :
    v.route n e.hosts req .empty = some h := by
  refine route_first hp (by rw [hv.host]; exact hu) (hreq.imp_right (And.imp_right fun hor => ?_))
  rw [hv.host]
  refine hor.imp_right (Or.imp_right fun hl => lighter_of ?_)
  rwa [hv.load, hv.load]

/-- A caller admitted whom no host that can take the session has room for (R79, R84). -/
theorem Shown.admit_full (he : s.account? number = some e)
    (hg : v.route n e.hosts req .empty = some g)
    (hfull : ∀ h, e.hosts.has h = true → (s.host h).up = true → req = none ∨ req = some h →
      32 ≤ (s.port h.link).notices.length) :
    ∃ k tried, v.admitCaller n number req g = (admittedWith v n number req k tried).returnToSignOn n := by
  obtain ⟨hp, hu, -, hreq⟩ := route_passes hg
  have he' : v.account? number = some e := by rw [hv.account?, he]
  have hq := (hv.queueFull g).2 (hfull g hp (by rwa [hv.host] at hu) hreq)
  by_cases hother : req.all (· == otherHost g) = true ∧ e.hosts.has (otherHost g) = true ∧ (v.host (otherHost g)).up = true
  · obtain ⟨hall, hpo, huo⟩ := hother
    refine ⟨_, _, (admitCaller_next he' hq hall hpo huo).trans (if_pos ((hv.queueFull _).2 ?_))⟩
    refine hfull _ hpo (by rwa [hv.host] at huo) ?_
    cases req with
    | none => exact .inl rfl
    | some x => exact .inr (by simpa using hall)
  · exact ⟨_, _, admitCaller_none he' hq hother⟩

end

/-- Settles O57: the evaluation reads the line and its account in the order of the checks, and admission offers the
caller. -/
theorem signOnEvaluation : Obligations.SignOnEvaluation := by
  intro n bits s ht _
  obtain ⟨v, hses, hun, herr, hok⟩ := evaluated ht
  have hv : Shown n s v := ⟨hses, hun⟩
  have hst : (s.ses n).state = .signOn := ht.1
  have hbuf : (v.ses n).buffer = (s.ses n).buffer := by rw [hses]
  have hparams : v.params = s.params := hun .params (by simp)
  refine ⟨fun hno => ?_, fun number req hsp => ?_⟩
  · exact ⟨_, herr 2 (evaluation_unread (by rw [hbuf]; exact hno)), hv.refuse hst 2⟩
  have heval : v.evaluation n = v.checkAccount n number req := evaluation_spells (by rw [hbuf]; exact hsp)
  rw [heval] at herr hok
  refine ⟨fun slot hslot => ?_, fun e h he hs hc hf hb hl htake hsum hreq => ?_, fun e he hs hc hf hb hl hsum hsome => ?_⟩
  · exact ⟨_, herr slot (hv.check_fails hslot), hv.refuse hst slot⟩
  · obtain ⟨hp, hu, hroom⟩ := htake
    have hcheck := ((hv.passes he hs hc hf hb).routed hl (hv.routed hp hu hreq)).trans
      (if_neg (by rw [hv.sum]; omega))
    refine ⟨_, hok _ _ _ hcheck, ?_⟩
    rw [admitCaller_room (Bool.eq_false_iff.2 fun hq => absurd ((hv.queueFull h).1 hq) (Nat.not_le.2 hroom))]
    obtain ⟨hoses, hores, hoacc, hoport, houn⟩ := admitted_offered v n number req 1 (HostSet.empty.add h) h
    refine ⟨?_, hores.trans ?_, hoacc.trans ?_, hoport.trans ?_, (hun.mono (by simp +contextual)).trans
      (houn.mono (by simp +contextual [Computer.link]))⟩
    · rw [hoses, hses, hparams]
      cases h <;> rfl
    · rw [show v.reservations = _ from hun .reservations (by simp)]
    · rw [show v.accounts = _ from hun .accounts (by simp)]
    · rw [hv.port, hses]
  · have hroute : ∀ {g}, v.route n e.hosts req .empty = some g →
        exec (.characterReceived n bits true) s = .next (v.admitCaller n number req g) := fun hg =>
      hok _ _ _ (((hv.passes he hs hc hf hb).routed hl hg).trans (if_neg (by rw [hv.sum]; omega)))
    refine ⟨fun hfull => ?_, fun h hreq htake hp hu hq hlight => ?_⟩
    · obtain ⟨x, hp, hu, hreq⟩ := hsome
      obtain ⟨g, hg⟩ := route_some (s := v) (n := n) hp (by rw [hv.host]; exact hu) hreq
      obtain ⟨k, tried, hadmit⟩ := hv.admit_full he hg hfull
      obtain ⟨href, hoffer, htoggle, hrun⟩ := admitted_returned (n := n) (req := req) (v := v)
        (by rw [hv.account?, he]) k tried
      refine ⟨_, hroute hg, ?_⟩
      rw [hadmit]
      refine ⟨refusedWith_congr (by rw [hses]) (by rw [hses]) hparams href, fun ho => hoffer (by rw [hses]; exact ho),
        htoggle.trans (by rw [hses]), (hun.mono (by simp +contextual)).trans (hrun.mono (by simp +contextual [restParts]))⟩
    · subst hreq
      obtain ⟨hpo, huo, hroom⟩ := htake
      refine ⟨_, hroute (hv.routed hp hu (.inr ⟨rfl, .inr (.inr hlight)⟩)), ?_⟩
      rw [admitCaller_next (by rw [hv.account?, he]) ((hv.queueFull h).2 hq) rfl hpo (by rw [hv.host]; exact huo),
        if_neg (fun hq => absurd ((hv.queueFull _).1 hq) (Nat.not_le.2 hroom))]
      obtain ⟨hoses, -, -, hoport, houn⟩ := admitted_offered v n number none 2
        ((HostSet.empty.add h).add (otherHost h)) (otherHost h)
      refine ⟨?_, hoport.trans ?_, (hun.mono (by simp +contextual)).trans
        (houn.mono (by simp +contextual [Computer.link]))⟩
      · rw [hoses, hses, hparams]
        cases h <;> rfl
      · rw [hv.port, hses]

end Sys2Proof.CallersAdmitted
end

section
/-! PROOFS. ANSWER: its refusals, and ACCEPT of either kind of offer. -/

namespace Sys2Proof.OffersAnswered

open Sys2Proof.Machine Sys2Proof.Stations Sys2Proof.Clears Sys2Proof.Keeping Sys2Proof.CharacterEvents
open Sys2Proof.RelayBuffers Sys2Proof.LineControl
open Sys2Proof.ClearRequests Sys2Proof.ClearOrders Sys2Proof.UnitsCharged Sys2Proof.OffersMade

variable {s t u v w : State} {n : LineNo} {e : Account} {g h : Computer} {k : Link}

/-! ### Notices on links that agree (R177) -/

/-- A host link shows notices the same in two states: its state, queue, LOST and mask. -/
structure SameQueue (h : Computer) (s t : State) : Prop where
  up : (t.host h).up = (s.host h).up
  notices : (t.port h.link).notices = (s.port h.link).notices
  lost : (t.port h.link).lost = (s.port h.link).lost
  mask : (t.port h.link).mask = (s.port h.link).mask

theorem mask_postNotice (s : State) (h : Computer) (m : Notice) :
    ((s.postNotice h.link m).port h.link).mask = (s.port h.link).mask := by
  rw [port_postNotice_self]
  split
  · rfl
  · split <;> rfl

theorem SameQueue.post (hq : SameQueue h s t) (m : Notice) : SameQueue h (s.postNotice h.link m) (t.postNotice h.link m) := by
  obtain ⟨hn, hl⟩ := notices_postNotice_agree ⟨hq.up, hq.notices, hq.lost, hq.mask⟩ m
  refine ⟨?_, hn, hl, ?_⟩
  · rw [State.host_postNotice, State.host_postNotice, hq.up]
  · rw [mask_postNotice, mask_postNotice, hq.mask]

theorem link_of_host (hk : k.host? = some h) : k = h.link := by
  cases k <;> cases h <;> first | rfl | cases hk

theorem host_of_link (h : Computer) : h.link.host? = some h := by cases h <;> rfl

theorem SameQueue.heard (hk : k.host? = some h) (hl : listens s k) : SameQueue h s (s.heard k) := by
  have hup : ((s.heard k).host h).up = (s.host h).up := by rw [State.host_heard_own _ _ _ hk, hl.2 h hk]
  rw [link_of_host hk] at hup ⊢
  exact ⟨hup, by rw [State.port_heard_self]; rfl, by rw [State.port_heard_self]; rfl, by rw [State.port_heard_self]; rfl⟩

/-- A notice changes nothing of its port but the queue and LOST. -/
theorem port_postNotice_shape (s : State) (h : Computer) (m : Notice) : (s.postNotice h.link m).port h.link =
    { s.port h.link with
      notices := ((s.postNotice h.link m).port h.link).notices
      lost := ((s.postNotice h.link m).port h.link).lost } := by
  rw [port_postNotice_self]
  split
  · rfl
  · split <;> rfl

/-! ### The fee (R144) -/

/-- What is told of a fee is told to the host that accepts. -/
theorem told_feePort (ho : (w.ses n).owner = some h) (hp : w.port h.link = v.port h.link) (hh : (w.host h).up = (v.host h).up)
    (warns graced : Bool) : (told w n e warns graced).port h.link = feePort v h.link n e warns graced := by
  have hup : ∀ x y : State, (x.host h).up = (y.host h).up → ∀ g, h.link.host? = some g → (x.host g).up = (y.host g).up := by
    intro x y hxy g hg
    rw [host_of_link, Option.some.injEq] at hg
    exact hg ▸ hxy
  have first : (told w n e warns false).port h.link = (feeWarned v h.link n e warns).port h.link := by
    cases warns with
    | false => exact hp
    | true =>
      rw [told_warns, notifyOwner_owned ho]
      exact port_postNotice_congr hp (hup _ _ hh) _
  cases graced with
  | false => exact first
  | true =>
    rw [told_graces, notifyOwner_owned (by rw [(told_kept w n e warns false).1, ho])]
    refine port_postNotice_congr first (hup _ _ ?_) _
    rw [(told_kept w n e warns false).2, hh]
    unfold feeWarned
    split
    · rw [State.host_postNotice]
    · rfl

/-- The feed queue of a host's port after a fee, on a link that shows notices the same. -/
theorem SameQueue.feePort (hq : SameQueue h s t) (e : Account) (warns graced : Bool) :
    feePort t h.link n e warns graced = { t.port h.link with
      notices := (Machine.feePort s h.link n e warns graced).notices
      lost := (Machine.feePort s h.link n e warns graced).lost } := by
  have hwarned : SameQueue h (feeWarned s h.link n e warns) (feeWarned t h.link n e warns) ∧
      (feeWarned t h.link n e warns).port h.link = { t.port h.link with
        notices := ((feeWarned s h.link n e warns).port h.link).notices
        lost := ((feeWarned s h.link n e warns).port h.link).lost } := by
    cases warns with
    | false =>
      refine ⟨hq, ?_⟩
      show t.port h.link = { t.port h.link with notices := (s.port h.link).notices, lost := (s.port h.link).lost }
      rw [← hq.notices, ← hq.lost]
    | true =>
      have hp := hq.post (.lowBalance n (min (e.balance - 1) (e.warn - 1)))
      refine ⟨hp, (port_postNotice_shape t h _).trans ?_⟩
      rw [hp.notices, hp.lost]
      rfl
  obtain ⟨hsame, hshape⟩ := hwarned
  unfold Machine.feePort
  cases graced with
  | false => exact hshape
  | true =>
    have hp := hsame.post (.grace n e.grace)
    refine (port_postNotice_shape _ h _).trans ?_
    rw [hp.notices, hp.lost, hshape]
    rfl

/-- The line taken by the host that accepts, its fee noted, before it is charged (R82, R144). -/
def taken (v : State) (n : LineNo) (h : Computer) : State :=
  v.modSes n fun r => { r with
    offer := none, offerTimer := .stopped, owner := some h, firstHost := some h
    fee := v.tariff.classes[(v.ses n).cls.val].fee }

/-- The line charged the fee and connected. -/
def connected (v : State) (n : LineNo) (h : Computer) : State :=
  ((((taken v n h).chargeUnits n v.tariff.classes[(v.ses n).cls.val].fee).1.modSes n fun r =>
    { r with start := v.clock.stamp }).requestMessage n 9).connect n

theorem acceptSignOn_eq (v : State) (n : LineNo) (h : Computer) : v.acceptSignOn n h =
    if ((taken v n h).chargeUnits n v.tariff.classes[(v.ses n).cls.val].fee).2
      then (connected v n h).clearRequest n .creditExhausted else connected v n h := by
  have htaken : (((v.dropOffer n).modSes n fun r => { r with owner := some h, firstHost := some h }).modSes n fun r =>
      { r with fee := v.tariff.classes[(v.ses n).cls.val].fee }) = taken v n h := by
    unfold State.dropOffer
    rw [modSes_modSes, modSes_modSes]
    rfl
  unfold State.acceptSignOn State.chargeFee
  dsimp only
  have hcls : (((v.dropOffer n).modSes n fun r => { r with owner := some h, firstHost := some h }).ses n).cls = (v.ses n).cls := by
    rw [State.ses_modSes_self, State.dropOffer, State.ses_modSes_self]
  have htariff : ((v.dropOffer n).modSes n fun r => { r with owner := some h, firstHost := some h }).tariff = v.tariff := by
    rw [State.tariff_modSes, State.dropOffer, State.tariff_modSes]
  have hclock : ((v.dropOffer n).modSes n fun r => { r with owner := some h, firstHost := some h }).clock = v.clock := by
    rw [State.clock_modSes, State.dropOffer, State.clock_modSes]
  simp only [hcls, htariff, hclock, htaken]
  rfl

theorem start_idle (p : Params) : Timer.start (p.idleLimit * 60000) = idleStart p := by simp [Timer.start, idleStart]

/-- A message requested and the line connected (R82, R83). -/
theorem connect_law (x : State) (n : LineNo) (slot : Fin 16) : (x.requestMessage n slot).connect n = x.modSes n fun r =>
    { r with
      state := .connected, stateTimer := .stopped, idleTimer := idleStart x.params
      feed := requested r.feed slot, cursor := cursorRequested r } := by
  unfold State.connect State.restartIdle
  rw [requestMessage_eq, State.params_modSes, State.params_modSes, start_idle, modSes_modSes, modSes_modSes]

/-- What a host's ACCEPT of a SIGN_ON offer leaves, before a grace of 0 minutes is judged (R82, R139, R140, R142). -/
structure Accepted (v u : State) (n : LineNo) (h : Computer) (e : Account) (fee : Nat) (warns graced : Bool) : Prop where
  ses : u.ses n = { v.ses n with
    state := .connected, owner := some h, firstHost := some h, offer := none, offerTimer := .stopped
    stateTimer := .stopped, idleTimer := idleStart v.params, fee := fee
    debited := (v.ses n).debited + min fee e.balance, overdraft := (v.ses n).overdraft + (fee - e.balance)
    warned := (v.ses n).warned || warns
    graceTimer := if graced then .running (e.grace * 60000) else (v.ses n).graceTimer, start := stampNow v
    feed := requested (chargeFeed (v.ses n).feed warns graced) 9, cursor := cursorRequested (v.ses n) }
  accounts : u.accounts = v.accounts.map fun x =>
    if x.number = e.number then { x with balance := x.balance - min fee e.balance } else x
  entry : u.accountOf n = some { e with balance := e.balance - min fee e.balance }
  port : u.port h.link = feePort v h.link n e warns graced
  others : unchangedBut [.session n, .accounts, .port h.link] v u

theorem connected_law {fee : Nat} (he : v.accountOf n = some e) (hfee : fee = v.tariff.classes[(v.ses n).cls.val].fee)
    (hd : (v.ses n).debited + min fee e.balance ≤ 16777215) (ho : (v.ses n).overdraft + (fee - e.balance) ≤ 16777215) :
    Accepted v (connected v n h) n h e fee (unitsWarn (v.ses n) e fee)
      (unitsGrace (v.ses n) e fee && decide (0 < e.grace)) ∧
    ((taken v n h).chargeUnits n fee).2 = (unitsGrace (v.ses n) e fee && decide (e.grace = 0)) := by
  have htses : (taken v n h).ses n = { v.ses n with
      offer := none, offerTimer := .stopped, owner := some h, firstHost := some h, fee := fee } := by
    rw [taken, State.ses_modSes_self, ← hfee]
  have htun : unchangedBut [.session n] v (taken v n h) := unchangedBut_modSes _ v (by simp)
  obtain ⟨hcharged, hclear⟩ := chargeUnits_charged (s := taken v n h) (n := n) (e := e)
    ((accountOf_modSes rfl).trans he) fee (by rw [htses]; exact hd) (by rw [htses]; exact ho)
  have hentry := hcharged.accountOf ((accountOf_modSes rfl).trans he)
  obtain ⟨hacc, hses, hport, hun⟩ := hcharged
  have hw : unitsWarn ((taken v n h).ses n) e fee = unitsWarn (v.ses n) e fee := by rw [htses]; rfl
  have hg : unitsGrace ((taken v n h).ses n) e fee = unitsGrace (v.ses n) e fee := by rw [htses]; rfl
  rw [hw, hg] at hses hport
  rw [hg] at hclear
  refine ⟨?_, hclear⟩
  set graced := unitsGrace (v.ses n) e fee && decide (0 < e.grace)
  have howner : ((taken v n h).ses n).owner = some h := by rw [htses]
  have hchosts : (taken v n h).host h = v.host h := htun (.host h) (by simp)
  have hcparams : ((taken v n h).chargeUnits n fee).1.params = v.params :=
    (hun .params (by simp)).trans (htun .params (by simp))
  have heq : connected v n h = ((taken v n h).chargeUnits n fee).1.modSes n fun r =>
      { r with
        start := v.clock.stamp, state := .connected, stateTimer := .stopped, idleTimer := idleStart v.params
        feed := requested r.feed 9, cursor := cursorRequested r } := by
    unfold connected
    rw [connect_law, ← hfee, State.params_modSes, hcparams, modSes_modSes]
    rfl
  have hlast : unchangedBut [.session n] ((taken v n h).chargeUnits n fee).1 (connected v n h) := by
    rw [heq]
    exact unchangedBut_modSes _ _ (by simp)
  refine ⟨?_, ?_, heq ▸ (accountOf_modSes rfl).trans hentry, ?_, fun p hp => ?_⟩
  · rw [heq, State.ses_modSes_self, hses, htses]
    simp only [chargedSession, cursorRequested]
    cases unitsWarn (v.ses n) e fee <;> cases graced <;> simp [chargeFeed, requested_ne_nil, stampNow, Clock.stamp]
  · rw [show _ = _ from hlast .accounts (by simp), hacc, show _ = _ from htun .accounts (by simp)]
  · rw [show _ = _ from hlast (.port h.link) (by simp), hport]
    exact told_feePort howner (htun (.port h.link) (by simp)) (congrArg HostLink.up hchosts) _ _
  · by_cases hlinks : p ∈ [Part.port .hostA, .port .hostB]
    · obtain ⟨j, rfl⟩ : ∃ j, p = .port j := by
        simp only [List.mem_cons, List.not_mem_nil, or_false] at hlinks
        rcases hlinks with rfl | rfl <;> exact ⟨_, rfl⟩
      have hj : j ≠ h.link := fun hj => hp (by simp [hj])
      exact (hlast (.port j) (by simp)).trans ((hport j).trans ((port_told_ne howner hj _ _).trans (htun (.port j) (by simp))))
    · simp only [List.mem_cons, List.not_mem_nil, or_false, not_or] at hp hlinks
      exact Part.same_trans (htun p (by simp [hp.1])) (Part.same_trans (hun p (by simp [hp.1, hp.2.1, hlinks]))
        (hlast p (by simp [hp.1])))

/-- The line that a fee has connected is cleared at once, with grace minutes 0 (R142, R8). -/
theorem Accepted.cleared {fee : Nat} {warns : Bool} (hu : Accepted v u n h e fee warns false) (hf : (v.ses n).f < 30000) :
    u.clearRequest n .creditExhausted = (u.beforeDrain n .creditExhausted).startDrain n .creditExhausted ∧
    (u.beforeDrain n .creditExhausted).records = v.records ++ [
      { serial := v.serial, line := n, account := (v.ses n).account, cls := (v.ses n).cls, rate := (v.ses n).rate
        firstHost := some h, lastHost := some h, adoptions := (v.ses n).adoptions, start := stampNow v
        stop := stampNow v, bandSecs := (v.ses n).bandSecs, heldSecs := (v.ses n).heldSecs, fee := fee
        debited := (v.ses n).debited + min fee e.balance, overdraft := (v.ses n).overdraft + (fee - e.balance)
        cause := .creditExhausted }] ∧
    (u.beforeDrain n .creditExhausted).reservations = v.reservations - 1 ∧
    (u.beforeDrain n .creditExhausted).accounts = v.accounts.map (fun x => if x.number = e.number then
      { x with balance := x.balance - min fee e.balance, active := x.active - 1 } else x) ∧
    (u.beforeDrain n .creditExhausted).port h.link = (u.postNotice h.link (.cleared n .creditExhausted)).port h.link := by
  obtain ⟨hses, hacc, hentry, -, hun⟩ := hu
  have hstate : (u.ses n).state = .connected := by rw [hses]
  have hround : roundsUp (u.ses n) = false := by
    rw [hses]
    exact decide_eq_false (by simpa using hf)
  obtain ⟨hrec, -, hres, haccs, hport⟩ := beforeDrain_closes (.inl hstate) hentry .creditExhausted
  refine ⟨clearRequest_active (by rw [hstate]; rfl), ?_, ?_, ?_, ?_⟩
  · rw [hrec, show u.records = _ from hun .records (by simp), closingRecord, hround, hses,
      show u.serial = _ from hun .serial (by simp), show u.clock = _ from hun .clock (by simp)]
    simp [stampNow]
  · rw [hres, show u.reservations = _ from hun .reservations (by simp)]
  · rw [haccs, hacc, List.map_map, hround]
    refine List.map_congr_left fun x _ => ?_
    by_cases hx : x.number = e.number <;> simp [hx]
  · rw [hport _ (by rw [hses]), if_pos hstate, notifyOwner_owned (by rw [hses])]

/-- ACCEPT of an ADOPT offer (R83). -/
theorem acceptAdopt_eq (v : State) (n : LineNo) (h : Computer) : v.acceptAdopt n h = v.modSes n fun r =>
    { r with
      state := .connected, owner := some h, offer := none, offerTimer := .stopped, stateTimer := .stopped
      idleTimer := idleStart v.params, adoptions := min (r.adoptions + 1) 255, declined := ⟨false, false⟩
      feed := requested r.feed 10, cursor := cursorRequested r } := by
  unfold State.acceptAdopt State.dropOffer
  rw [connect_law, modSes_modSes, modSes_modSes, State.params_modSes]
  rfl

/-! ### ANSWER (R81) -/

theorem answerLine_bad {toggle verdict : Byte} (hbad : 1 < toggle.toNat ∨ verdict ≠ 1 ∧ verdict ≠ 2) :
    v.answerLine h n toggle verdict = v.answered ⟨.badArgument, 0⟩ := if_pos hbad

section
variable {toggle verdict : Byte} (ht : toggle.toNat ≤ 1) (hv : verdict = 1 ∨ verdict = 2)
include ht hv

theorem answerLine_none (ho : ∀ kind, (v.ses n).offer ≠ some ⟨h, kind⟩) :
    v.answerLine h n toggle verdict = v.answered ⟨.noOffer, 0⟩ := by
  unfold State.answerLine
  rw [if_neg (by rintro (hb | ⟨h1, h2⟩); exacts [absurd ht (Nat.not_le.2 hb), hv.elim h1 h2])]
  cases hoff : (v.ses n).offer with
  | none => rfl
  | some o => exact if_pos fun heq => ho o.kind (by rw [hoff, ← heq])

theorem answerLine_offered {kind : OfferKind} (ho : (v.ses n).offer = some ⟨h, kind⟩) :
    v.answerLine h n toggle verdict = if toggle ≠ (if (v.ses n).toggle then 1 else 0) then v.answered ⟨.stale, 0⟩
      else (v.actOnVerdict n ⟨h, kind⟩ verdict, ⟨.ok, 0⟩) := by
  unfold State.answerLine
  rw [if_neg (by rintro (hb | ⟨h1, h2⟩); exacts [absurd ht (Nat.not_le.2 hb), hv.elim h1 h2]), ho]
  exact if_neg (by simp)

end

theorem toggleByte_le (b : Bool) : (if b then (1 : Byte) else 0).toNat ≤ 1 := by cases b <;> decide

/-- A host accepts the offer that stands to it. -/
theorem answerLine_accepts {kind : OfferKind} (ho : (v.ses n).offer = some ⟨h, kind⟩) :
    v.answerLine h n (if (v.ses n).toggle then 1 else 0) 1 = (v.acceptOffer n ⟨h, kind⟩, ⟨.ok, 0⟩) :=
  (answerLine_offered (toggleByte_le _) (.inl rfl) ho).trans (if_neg (by simp))

theorem accountOf_heard (s : State) (k : Link) (n : LineNo) : (s.heard k).accountOf n = s.accountOf n := by
  rw [State.accountOf, State.accountOf, State.ses_heard]
  exact congrArg _ (funext fun a => AccountOrders.account?_heard s k a)

section
variable {line toggle verdict : Byte} (hk : k.host? = some h) (hl : listens s k) (hn : line.toNat = n.val)
include hk hl hn

theorem answer_answers {r : Reply} (ho : (s.heard k).answerLine h n toggle verdict = (s.heard k).answered r) :
    ∃ t, exec (.answer k line toggle verdict) s = .next t ∧ onlyAnswers k r s t :=
  host_answers rfl hk hl ((onLine_named hn _).trans ho)

/-- ACCEPT of a SIGN_ON offer whose fee starts grace, or needs none (R82). -/
theorem accept_connects {fee : Nat} {warns graced : Bool}
    (ho : (s.ses n).offer = some ⟨h, .signOn⟩) (hu : Accepted (s.heard k) u n h e fee warns graced)
    (heq : (s.heard k).acceptSignOn n h = u) :
    ∃ t, exec (.answer k line (if (s.ses n).toggle then 1 else 0) 1) s = .next t ∧
      t.ses n = u.ses n ∧ t.accounts = u.accounts ∧
      carriedOut k { framePort s k ⟨.ok, 0⟩ with
        notices := (feePort s k n e warns graced).notices
        lost := (feePort s k n e warns graced).lost } [.session n, .accounts] s t := by
  obtain rfl := link_of_host hk
  have hact : (s.heard h.link).answerLine h n (if (s.ses n).toggle then 1 else 0) 1 = (u, ⟨.ok, 0⟩) := by
    have := answerLine_accepts (v := s.heard h.link) (n := n) (h := h) (kind := .signOn) (by rw [State.ses_heard]; exact ho)
    rw [State.ses_heard] at this
    rw [this, State.acceptOffer, heq]
  refine host_order rfl hk hl ((onLine_named hn _).trans hact) ⟨ses_setReply .., State.accounts_modPort .., ?_⟩
  refine carriedOut_heard ?_ (fun g _ => hu.others (.host g) (by simp)) (hu.others.mono ?_)
  · rw [hu.port, (SameQueue.heard hk hl).feePort, State.port_heard_self]
    rfl
  · simp [frameParts]

/-- ACCEPT of a SIGN_ON offer whose fee leaves no grace to start (R142, R144). -/
theorem accept_clears {fee : Nat} {warns : Bool} (ho : (s.ses n).offer = some ⟨h, .signOn⟩) (hf : (s.ses n).f < 30000)
    (hu : Accepted (s.heard k) u n h e fee warns false)
    (heq : (s.heard k).acceptSignOn n h = u.clearRequest n .creditExhausted) :
    ∃ t, exec (.answer k line (if (s.ses n).toggle then 1 else 0) 1) s = .next t ∧ (t.port k).reply = ⟨.ok, 0⟩ ∧
      (t.ses n).state.active = false ∧ ((t.ses n).state = .clearing → (t.ses n).cause = some .creditExhausted) ∧
      (∀ p ∈ [Part.accounts, .records, .reservations], p.same (u.beforeDrain n .creditExhausted) t) ∧
      (t.port k).notices = (((feeWarned s k n e warns).postNotice k (.cleared n .creditExhausted)).port k).notices ∧
      unchangedBut (lineParts n ++ frameParts k) s t := by
  obtain rfl := link_of_host hk
  obtain ⟨hclear, -, -, -, hport⟩ := hu.cleared (by rw [State.ses_heard]; exact hf)
  have hact : (s.heard h.link).answerLine h n (if (s.ses n).toggle then 1 else 0) 1 =
      ((u.beforeDrain n .creditExhausted).startDrain n .creditExhausted, ⟨.ok, 0⟩) := by
    have := answerLine_accepts (v := s.heard h.link) (n := n) (h := h) (kind := .signOn) (by rw [State.ses_heard]; exact ho)
    rw [State.ses_heard] at this
    rw [this, State.acceptOffer, heq, hclear]
  obtain ⟨f, bs, hsec, d, o', fe, st, wd, cur, ot, hbses, -, -⟩ := u.beforeDrain_ses n .creditExhausted
  have hcl := startDrain_cleared (u.beforeDrain n .creditExhausted) n .creditExhausted
  obtain ⟨hactive, -, hcause⟩ := hcl.fields (by rw [hbses])
  have hrest := rest_startDrain (u.beforeDrain n .creditExhausted) n .creditExhausted
  have hmem : ∀ p ∈ frameParts h.link, p ∈ lineParts n ++ frameParts h.link := fun p hp => List.mem_append_right _ hp
  refine host_order rfl hk hl ((onLine_named hn _).trans hact) ⟨?_, ?_, fun hc => ?_, fun p hp => ?_, ?_, ?_⟩
  · rw [port_setReply_self]
  · rw [ses_setReply]; exact hactive
  · rw [ses_setReply] at hc ⊢
    rw [(hcause hc).1, hbses]
  · refine Part.same_trans (hrest p ?_) (unchangedBut_setReply (ps := [.port h.link]) _ _ _ (by simp) p ?_)
    all_goals
      revert hp
      simp only [List.mem_cons, List.not_mem_nil, or_false, restParts]
      rintro (rfl | rfl | rfl) <;> simp
  · rw [port_setReply_self]
    have hsame : SameQueue h (feeWarned s h.link n e warns) u := by
      have hq := SameQueue.heard hk hl
      have hshape := hq.feePort (n := n) e warns false
      have hup : ((feeWarned s h.link n e warns).host h).up = (s.host h).up := by
        unfold feeWarned
        split
        · rw [State.host_postNotice]
        · rfl
      have hmask : ((feeWarned s h.link n e warns).port h.link).mask = (s.port h.link).mask := by
        unfold feeWarned
        split
        · exact mask_postNotice ..
        · rfl
      refine ⟨?_, ?_, ?_, ?_⟩
      · rw [show u.host h = _ from hu.others (.host h) (by simp), hq.up, hup]
      · rw [hu.port, hshape]; rfl
      · rw [hu.port, hshape]; rfl
      · rw [hu.port, hshape, hmask]; exact hq.mask
    show (((u.beforeDrain n .creditExhausted).startDrain n .creditExhausted).port h.link).notices = _
    rw [show _ = _ from hrest (.port h.link) (port_link_restParts h n), hport]
    exact (hsame.post _).notices
  · refine .trans (.trans (.trans (unchangedBut_heard _ s hmem) (hu.others.mono ?_)) (.trans ((u.beforeDrain_reaches n _).mono ?_)
      (hrest.mono ?_))) (unchangedBut_setReply _ _ _ (hmem _ (by simp [frameParts])))
    · cases h <;> simp [lineParts, frameParts]
    · simp +contextual
    · simp +contextual [restParts, lineParts]

end

/-- Settles O46: the refusals in their order, and ACCEPT by the kind of the offer. -/
theorem answerAccepts : Obligations.AnswerAccepts := by
  intro k h line toggle verdict n s hk hl hn
  refine ⟨fun hbad => answer_answers hk hl hn (answerLine_bad hbad), fun ht hv ho => ?_, fun kind ht hv ho hne => ?_, ?_, ?_⟩
  · exact answer_answers hk hl hn (answerLine_none ht hv (by rw [State.ses_heard]; exact ho))
  · refine answer_answers hk hl hn ((answerLine_offered ht hv (kind := kind) (by rw [State.ses_heard]; exact ho)).trans ?_)
    rw [State.ses_heard]
    exact if_pos hne
  · rintro e fee paid warns graced rfl rfl ho he hfee rfl hw hg hd hov
    obtain ⟨hu, hclear⟩ := connected_law (v := s.heard k) (n := n) (h := h) (e := e) (fee := fee)
      ((accountOf_heard s k n).trans he)
      (by simp only [State.ses_heard, State.tariff_heard]; exact hfee)
      (by rw [State.ses_heard]; exact hd) (by rw [State.ses_heard]; omega)
    have hmin : fee - min fee e.balance = fee - e.balance := by omega
    rw [hmin]
    have heq := acceptSignOn_eq (s.heard k) n h
    simp only [State.ses_heard, State.tariff_heard, ← hfee] at heq
    rw [State.ses_heard, show unitsWarn (s.ses n) e fee = warns from hw.symm, show unitsGrace (s.ses n) e fee = graced from hg.symm]
      at hu
    rw [State.ses_heard, show unitsGrace (s.ses n) e fee = graced from hg.symm] at hclear
    rw [hclear] at heq
    have hses := hu.ses
    have hacc := hu.accounts
    have hstamp : stampNow (s.heard k) = stampNow s := by unfold stampNow; rw [State.clock_heard]
    rw [State.ses_heard, State.params_heard, hstamp] at hses
    rw [State.accounts_heard] at hacc
    refine ⟨fun hgrace => ?_, fun hgraced hzero hf => ?_⟩
    · have hon : (graced && decide (0 < e.grace)) = graced := by
        rcases hgrace with rfl | hgrace
        · rfl
        · rw [decide_eq_true hgrace, Bool.and_true]
      have hoff : (graced && decide (e.grace = 0)) = false := by
        rcases hgrace with rfl | hgrace
        · rfl
        · rw [decide_eq_false (by omega), Bool.and_false]
      rw [hon] at hu hses
      rw [hoff] at heq
      obtain ⟨t, hexec, htses, htacc, hcarried⟩ := accept_connects hk hl hn ho hu heq
      exact ⟨t, hexec, htses.trans hses, htacc.trans hacc, hcarried⟩
    · subst hgraced
      rw [hzero] at hu heq
      obtain ⟨t, hexec, hreply, hactive, hcause, hbooks, hnotices, hun⟩ := accept_clears hk hl hn ho hf hu heq
      obtain ⟨-, hrec, hres, haccs, -⟩ := hu.cleared (by rw [State.ses_heard]; exact hf)
      refine ⟨t, hexec, hreply, hactive, hcause, ?_, ?_, ?_, hnotices, hun⟩
      · rw [show t.records = _ from hbooks .records (by simp), hrec, State.ses_heard, hstamp, State.records_heard, State.serial_heard]
      · rw [show t.reservations = _ from hbooks .reservations (by simp), hres, State.reservations_heard]
      · rw [show t.accounts = _ from hbooks .accounts (by simp), haccs, State.accounts_heard]
  · rintro rfl rfl ho
    have hact : (s.heard k).answerLine h n (if (s.ses n).toggle then 1 else 0) 1 = ((s.heard k).acceptAdopt n h, ⟨.ok, 0⟩) := by
      have := answerLine_accepts (v := s.heard k) (n := n) (h := h) (kind := .adopt) (by rw [State.ses_heard]; exact ho)
      rwa [State.ses_heard] at this
    rw [acceptAdopt_eq] at hact
    refine host_order rfl hk hl ((onLine_named hn _).trans hact) ⟨?_, ?_⟩
    · rw [ses_setReply, State.ses_modSes_self, State.ses_heard, State.params_heard]
    · exact carriedOut_apart (unchangedBut_modSes _ _ (by simp)) (by simp) (by simp)

end Sys2Proof.OffersAnswered
end

section
/-! PROOFS. The decline of an offer: re-routed, returned to SIGN_ON, or sought by adoption. -/

namespace Sys2Proof.OffersDeclined

open Sys2Proof.Machine Sys2Proof.Stations Sys2Proof.Clears Sys2Proof.Keeping Sys2Proof.RelayBuffers
open Sys2Proof.LineControl Sys2Proof.OffersMade Sys2Proof.OffersAnswered

variable {s t u v w : State} {n : LineNo} {e : Account} {g h : Computer} {i : Instr}

/-! ### The decline of a SIGN_ON offer (R84, R79) -/

/-- The line with its offer gone, and with the attempts made and the hosts tried. -/
def withdrawnWith (v : State) (n : LineNo) (k : Nat) (tried : HostSet) : State :=
  v.modSes n fun r => { r with offer := none, offerTimer := .stopped, offerAttempts := k, tried := tried }

theorem withdrawnWith_law (v : State) (n : LineNo) (k : Nat) (tried : HostSet) :
    (withdrawnWith v n k tried).ses n = { v.ses n with
      offer := none, offerTimer := .stopped, offerAttempts := k, tried := tried } ∧
    unchangedBut [.session n] v (withdrawnWith v n k tried) :=
  ⟨State.ses_modSes_self .., unchangedBut_modSes _ v (by simp)⟩

theorem withdrawnWith_entry (he : v.accountOf n = some e) (k : Nat) (tried : HostSet) :
    (withdrawnWith v n k tried).accountOf n = some e := (accountOf_modSes rfl).trans he

theorem dropOffer_eq (v : State) (n : LineNo) :
    v.dropOffer n = withdrawnWith v n (v.ses n).offerAttempts (v.ses n).tried := AccountOrders.modSes_congr rfl

theorem withdrawnWith_again (v : State) (n : LineNo) (k : Nat) (tried : HostSet) (g : Computer) :
    ((withdrawnWith v n k tried).modSes n fun r => attempted r g) = withdrawnWith v n (k + 1) (tried.add g) := by
  unfold withdrawnWith
  rw [modSes_modSes]
  exact AccountOrders.modSes_congr rfl

/-- The re-route finds the other host: two attempts are not made, and it is acceptable and not tried (R84, R70). -/
def findsOther (v : State) (n : LineNo) (k : Nat) (tried : HostSet) (g : Computer) : Bool :=
  decide (k ≤ 1) && ((v.ses n).requested.all (· == g) && !tried.has g && v.permitsHost n g && (v.host g).up)

theorem candidate_withdrawnWith {k : Nat} {tried : HostSet}
    (hno : (v.permitsHost n h && (v.host h).up && !tried.has h) = false) :
    (withdrawnWith v n k tried).rerouteCandidate n =
      if findsOther v n k tried (otherHost h) then some (otherHost h) else none := by
  obtain ⟨hses, hun⟩ := withdrawnWith_law v n k tried
  have hhost : ∀ x, (withdrawnWith v n k tried).host x = v.host x := fun x => hun (.host x) (by simp)
  cases he : v.accountOf n with
  | none =>
    have hnone : (withdrawnWith v n k tried).accountOf n = none := (accountOf_modSes rfl).trans he
    unfold State.rerouteCandidate findsOther State.permitsHost
    rw [hnone, he]
    simp
  | some e =>
    rw [rerouteCandidate_eq (withdrawnWith_entry he k tried), hses, findsOther, permitsHost_eq he]
    rw [permitsHost_eq he] at hno
    dsimp only
    by_cases hk : 2 ≤ k
    · rw [if_pos hk, decide_eq_false (by omega)]
      rfl
    · rw [if_neg hk, decide_eq_true (by omega), Bool.true_and, route_other (h := h) (by rw [hhost]; exact hno), hhost]

/-- What a decline of a SIGN_ON offer comes to, its host out of the question (R84, R79). -/
theorem declineSignOn_eq (hno : (v.permitsHost n h && (v.host h).up && !(v.ses n).tried.has h) = false) :
    v.declineSignOn n =
      if findsOther v n (v.ses n).offerAttempts (v.ses n).tried (otherHost h) then
        if v.queueFull (otherHost h).link
        then (withdrawnWith v n ((v.ses n).offerAttempts + 1) ((v.ses n).tried.add (otherHost h))).returnToSignOn n
        else (withdrawnWith v n ((v.ses n).offerAttempts + 1) ((v.ses n).tried.add (otherHost h))).postOffer n
          (otherHost h) .signOn
      else (withdrawnWith v n (v.ses n).offerAttempts (v.ses n).tried).returnToSignOn n := by
  have hfull : ∀ k tried, (withdrawnWith v n k tried).queueFull (otherHost h).link = v.queueFull (otherHost h).link :=
    fun k tried => queueFull_modSes ..
  unfold State.declineSignOn
  rw [dropOffer_eq]
  dsimp only
  rw [candidate_withdrawnWith hno]
  by_cases hf : findsOther v n (v.ses n).offerAttempts (v.ses n).tried (otherHost h) = true
  · rw [if_pos hf, if_pos hf]
    dsimp only
    cases hq : v.queueFull (otherHost h).link with
    | false => rw [signOnAttempt_room ((hfull _ _).trans hq), withdrawnWith_again]; rfl
    | true =>
      rw [signOnAttempt_return ((hfull _ _).trans hq), withdrawnWith_again, if_pos rfl]
      rw [withdrawnWith_again, candidate_withdrawnWith (h := h), if_neg]
      · rw [findsOther, has_add_self]
        simp
      · cases h <;> exact hno
  · rw [if_neg hf, if_neg hf]

/-- A decline after two attempts (R84). -/
theorem declineSignOn_spent (h2 : 2 ≤ (v.ses n).offerAttempts) :
    v.declineSignOn n = (withdrawnWith v n (v.ses n).offerAttempts (v.ses n).tried).returnToSignOn n := by
  have : (withdrawnWith v n (v.ses n).offerAttempts (v.ses n).tried).rerouteCandidate n = none := by
    unfold State.rerouteCandidate
    rw [if_pos]
    rw [(withdrawnWith_law v n _ _).1]
    exact h2
  unfold State.declineSignOn
  rw [dropOffer_eq]
  dsimp only
  rw [this]

/-! ### The adoption search (R93, R94) -/

/-- The adoption search finds the other host. -/
def seeksOther (v : State) (n : LineNo) (declined : HostSet) (g : Computer) : Bool :=
  (v.host g).up && v.permitsHost n g && !declined.has g

theorem adoptionCandidate_eq (ho : (v.ses n).offer = none) (hno : seeksOther v n (v.ses n).declined h = false) :
    v.adoptionCandidate n = if seeksOther v n (v.ses n).declined (otherHost h) then some (otherHost h) else none := by
  unfold State.adoptionCandidate
  rw [if_neg (by simp [ho])]
  exact choose_other hno

theorem seeksOther_addDeclined (v : State) (n : LineNo) (d : HostSet) (g h : Computer) :
    seeksOther (v.addDeclined n g) n d h = seeksOther v n d h := by
  unfold seeksOther State.permitsHost State.addDeclined
  rw [accountOf_modSes rfl, State.host_modSes]

/-- What an adoption search comes to, one host out of the question (R93, R94, R79). -/
theorem adoptionSearch_eq (ho : (v.ses n).offer = none) (hno : seeksOther v n (v.ses n).declined h = false) :
    v.adoptionSearch n 2 = if seeksOther v n (v.ses n).declined (otherHost h) then
        if v.queueFull (otherHost h).link then v.addDeclined n (otherHost h) else v.postOffer n (otherHost h) .adopt
      else v := by
  unfold State.adoptionSearch
  rw [adoptionCandidate_eq ho hno]
  by_cases hs : seeksOther v n (v.ses n).declined (otherHost h) = true
  · rw [if_pos hs, if_pos hs]
    dsimp only
    cases hq : v.queueFull (otherHost h).link with
    | false => rfl
    | true =>
      have hdec : ((v.addDeclined n (otherHost h)).ses n).declined = (v.ses n).declined.add (otherHost h) := by
        rw [State.addDeclined, State.ses_modSes_self]
      have hnone : (v.addDeclined n (otherHost h)).adoptionCandidate n = none := by
        rw [adoptionCandidate_eq (h := h) (by rw [State.addDeclined, State.ses_modSes_self]; exact ho), if_neg]
        · rw [seeksOther_addDeclined, hdec, seeksOther, has_add_self]
          simp
        · rw [seeksOther_addDeclined, hdec]
          cases h <;> exact hno
      unfold State.adoptionSearch
      rw [hnone]
      rfl
  · rw [if_neg hs, if_neg hs]

/-! ### What a decline leaves -/

/-- A line re-routed to a host with room (R84, R79). -/
theorem withdrawn_offered (v : State) (n : LineNo) (k : Nat) (tried : HostSet) (g : Computer) :
    ((withdrawnWith v n k tried).postOffer n g .signOn).ses n = { v.ses n with
      offer := some ⟨g, .signOn⟩, toggle := !(v.ses n).toggle, tried := tried, offerAttempts := k
      offerTimer := .running (v.params.offerLimit * 1000) } ∧
    (((withdrawnWith v n k tried).postOffer n g .signOn).port g.link).notices = (v.port g.link).notices ++
      [.offer n (!(v.ses n).toggle) ((v.ses n).account.getD 0)] ∧
    unchangedBut [.session n, .port g.link] v ((withdrawnWith v n k tried).postOffer n g .signOn) := by
  obtain ⟨hses, hun⟩ := withdrawnWith_law v n k tried
  obtain ⟨hpses, hpport, hpun⟩ := postOffer_law (withdrawnWith v n k tried) n g .signOn
  refine ⟨?_, ?_, (hun.mono (by simp)).trans hpun⟩
  · rw [hpses, hses, show (withdrawnWith v n k tried).params = _ from hun .params (by simp)]
  · rw [hpport, hses, show (withdrawnWith v n k tried).port g.link = _ from hun (.port g.link) (by simp)]
    rfl

/-- A line returned to SIGN_ON, refused HOST_DECLINED (R84, R74). -/
theorem withdrawn_declined (v : State) (n : LineNo) (k : Nat) (tried : HostSet) :
    Declined n v ((withdrawnWith v n k tried).returnToSignOn n) ∧
    (((withdrawnWith v n k tried).returnToSignOn n).ses n).offer = none ∧
    unchangedBut (.accounts :: .reservations :: restParts n) v ((withdrawnWith v n k tried).returnToSignOn n) := by
  obtain ⟨hses, hun⟩ := withdrawnWith_law v n k tried
  obtain ⟨href, hoffer, htoggle, hcall⟩ := returnToSignOn_declined (withdrawnWith v n k tried) n
  have hnone := hoffer (by rw [hses])
  exact ⟨⟨refusedWith_congr (by rw [hses]) (by rw [hses]) (hun .params (by simp)) href, fun _ => hnone,
    htoggle.trans (by rw [hses]), hcall⟩, hnone, (hun.mono (by simp [restParts])).trans (rest_returnToSignOn _ n)⟩

theorem withdrawn_books (he : v.accountOf n = some e) (k : Nat) (tried : HostSet) :
    ((withdrawnWith v n k tried).returnToSignOn n).reservations = v.reservations - 1 ∧
    ((withdrawnWith v n k tried).returnToSignOn n).accounts =
      v.accounts.map (fun x => if x.number = e.number then { x with active := x.active - 1 } else x) := by
  obtain ⟨hses, hun⟩ := withdrawnWith_law v n k tried
  obtain ⟨hres, hacc⟩ := returnToSignOn_books (withdrawnWith_entry he k tried)
  rw [hres, hacc, show (withdrawnWith v n k tried).reservations = _ from hun .reservations (by simp),
    show (withdrawnWith v n k tried).accounts = _ from hun .accounts (by simp)]
  exact ⟨rfl, rfl⟩

/-- What a decline of an ADOPT offer comes to (R94, R93). -/
theorem declineAdopt_eq (v : State) (n : LineNo) (h : Computer) : v.declineAdopt n h =
    if seeksOther v n ((v.ses n).declined.add h) (otherHost h) then
      if v.queueFull (otherHost h).link then v.modSes n fun r =>
        { r with offer := none, offerTimer := .stopped, declined := (r.declined.add h).add (otherHost h) }
      else (v.modSes n fun r => { r with offer := none, offerTimer := .stopped, declined := r.declined.add h }).postOffer n
        (otherHost h) .adopt
    else v.modSes n fun r => { r with offer := none, offerTimer := .stopped, declined := r.declined.add h } := by
  set w := v.modSes n fun r => { r with offer := none, offerTimer := .stopped, declined := r.declined.add h } with hw
  have hwses : w.ses n = { v.ses n with
      offer := none, offerTimer := .stopped, declined := (v.ses n).declined.add h } := State.ses_modSes_self ..
  have hseeks : ∀ x, seeksOther w n (w.ses n).declined x = seeksOther v n ((v.ses n).declined.add h) x := by
    intro x
    rw [hwses]
    unfold seeksOther State.permitsHost
    rw [hw, accountOf_modSes rfl, State.host_modSes]
  have heq : v.declineAdopt n h = w.adoptionSearch n 2 := by
    unfold State.declineAdopt State.dropOffer State.addDeclined
    rw [modSes_modSes]
  rw [heq, adoptionSearch_eq (h := h) (by rw [hwses]), hseeks, show w.queueFull (otherHost h).link = _ from queueFull_modSes ..]
  · refine if_congr Iff.rfl (if_congr Iff.rfl ?_ rfl) rfl
    rw [hw, State.addDeclined, modSes_modSes]
  · rw [hseeks, seeksOther, has_add_self]
    simp

/-! ### The commands that decline (R81, R85) -/

/-- A command by which an offer's target declines it: the state that the decline is made in, and what follows it. -/
structure DeclinePoised (i : Instr) (n : LineNo) (o : Offer) (s v : State) (finish : State → State) : Prop where
  exec : exec i s = .next (finish (v.declineOffer n o))
  before : unchangedBut (.port o.target.link :: declineFrame i) s v
  after : ∀ u, unchangedBut (declineFrame i) u (finish u)
  frame : ∀ p ∈ declineFrame i, p = .port o.target.link ∨ p = .host o.target
  told : ∀ u, u.port o.target.link = v.port o.target.link →
    (∀ m, i = .offerTimerExpiry m → (finish u).port o.target.link =
      (s.postNotice o.target.link (.withdrawn n (s.ses n).toggle .timeout)).port o.target.link) ∧
    (∀ b x y, i = .answer o.target.link b x y → (finish u).port o.target.link = framePort s o.target.link ⟨.ok, 0⟩)

theorem answer_declines {k : Link} {line : Byte} {o : Offer} (hk : k.host? = some o.target) (hl : listens s k)
    (hn : line.toNat = n.val) (ho : (s.ses n).offer = some o) :
    DeclinePoised (.answer k line (if (s.ses n).toggle then 1 else 0) 2) n o s (s.heard k) fun u => u.setReply k ⟨.ok, 0⟩ := by
  obtain rfl := link_of_host hk
  have hact : (s.heard o.target.link).answerLine o.target n (if (s.ses n).toggle then 1 else 0) 2 =
      ((s.heard o.target.link).declineOffer n o, ⟨.ok, 0⟩) := by
    rw [answerLine_offered (kind := o.kind) (toggleByte_le _) (.inr rfl) (by rw [State.ses_heard]; exact ho), State.ses_heard,
      if_neg (by simp)]
    exact congrArg (·, _) (if_neg (by decide))
  have hport : Part.port o.target.link ∈ declineFrame (.answer o.target.link line (if (s.ses n).toggle then 1 else 0) 2) := by
    simp [declineFrame, frameParts]
  refine ⟨?_, (unchangedBut_heard _ s fun p hp => hp).mono (by simp +contextual [declineFrame]),
    fun u => unchangedBut_setReply _ _ _ hport, fun p hp => ?_, fun u hu => ⟨fun m hm => (nomatch hm), fun b x y hi => ?_⟩⟩
  · show Host.Outcome.next _ = _
    rw [State.hostOrder_listens s _ _ hl hk, onLine_named hn, hact]
  · simpa [declineFrame, frameParts, hk] using hp
  · rw [port_setReply_self, hu, State.port_heard_self]
    rfl

theorem decline_poised {o : Offer} (hd : declines s n o i) (ho : (s.ses n).offer = some o) :
    ∃ v finish, DeclinePoised i n o s v finish := by
  cases i with
  | answer k line toggle verdict =>
    obtain ⟨hk, hl, hn, rfl, rfl⟩ := hd
    exact ⟨_, _, answer_declines hk hl hn ho⟩
  | offerTimerExpiry m =>
    obtain ⟨rfl, ms, ht⟩ := hd
    refine ⟨s.postNotice o.target.link (.withdrawn m (s.ses m).toggle .timeout), id, ?_,
      unchanged_postNotice _ _ s (by simp), fun u => unchangedBut_refl _ u, fun p hp => absurd hp (by simp [declineFrame]),
      fun u hu => ⟨fun _ _ => hu, fun b x y hi => (nomatch hi)⟩⟩
    show execOfferTimerExpiry m s = _
    simp only [execOfferTimerExpiry, ho, ht, Timer.isRunning, if_true]
    rfl
  | _ => exact absurd hd (by simp [declines])

section
variable {o : Offer} {finish : State → State} (hp : DeclinePoised i n o s v finish)
include hp

theorem DeclinePoised.stands {p : Part} (h1 : p ≠ .port o.target.link) (h2 : p ≠ .host o.target) : p.same s v := by
  refine hp.before p fun hm => ?_
  rcases List.mem_cons.1 hm with hm | hm
  · exact h1 hm
  · exact (hp.frame p hm).elim h1 h2

theorem DeclinePoised.keeps (u : State) {p : Part} (h1 : p ≠ .port o.target.link) (h2 : p ≠ .host o.target) :
    p.same u (finish u) :=
  hp.after u p fun hm => (hp.frame p hm).elim h1 h2

theorem DeclinePoised.ses : v.ses n = s.ses n := hp.stands (p := .session n) (by simp) (by simp)

theorem DeclinePoised.accountOf (he : s.accountOf n = some e) : v.accountOf n = some e := by
  have hacc : v.accounts = s.accounts := hp.stands (p := .accounts) (by simp) (by simp)
  refine .trans ?_ he
  rw [State.accountOf, State.accountOf, hp.ses]
  refine congrArg _ (funext fun a => ?_)
  rw [State.account?, State.account?, hacc]

theorem DeclinePoised.other_port : v.port (otherHost o.target).link = s.port (otherHost o.target).link :=
  hp.stands (p := .port _) (by simpa using link_ne (otherHost_ne _)) (by simp)

theorem DeclinePoised.other_host : v.host (otherHost o.target) = s.host (otherHost o.target) :=
  hp.stands (p := .host _) (by simp) (by simpa using otherHost_ne _)

theorem DeclinePoised.other_full :
    v.queueFull (otherHost o.target).link = true ↔ 32 ≤ (s.port (otherHost o.target).link).notices.length := by
  rw [queueFull_link, hp.other_port]

theorem DeclinePoised.unchanged {ps : List Part} {u : State} (hu : unchangedBut ps v u)
    (hport : Part.port o.target.link ∈ ps) : unchangedBut (ps ++ declineFrame i) s (finish u) := by
  refine .trans (hp.before.mono fun p hm => ?_) (.trans (hu.mono (by simp +contextual)) ((hp.after u).mono (by simp +contextual)))
  rcases List.mem_cons.1 hm with rfl | hm
  · exact List.mem_append_left _ hport
  · exact List.mem_append_right _ hm

theorem DeclinePoised.seeks (he : s.accountOf n = some e) (d : HostSet) : seeksOther v n d (otherHost o.target) =
    ((s.host (otherHost o.target)).up && e.hosts.has (otherHost o.target) && !d.has (otherHost o.target)) := by
  unfold seeksOther
  rw [permitsHost_eq (hp.accountOf he), hp.other_host]

theorem DeclinePoised.finds (he : s.accountOf n = some e) : findsOther v n (v.ses n).offerAttempts (v.ses n).tried
    (otherHost o.target) = (decide ((s.ses n).offerAttempts ≤ 1) && ((s.ses n).requested.all (· == otherHost o.target) &&
      !(s.ses n).tried.has (otherHost o.target) && e.hosts.has (otherHost o.target) && (s.host (otherHost o.target)).up)) := by
  unfold findsOther
  rw [permitsHost_eq (hp.accountOf he), hp.ses, hp.other_host]

/-- The link of the target is left alone by the decline itself (R84, R94). -/
theorem DeclinePoised.target_port (h : o.kind = .adopt ∨ (s.ses n).tried.has o.target = true) :
    (v.declineOffer n o).port o.target.link = v.port o.target.link := by
  have hne : Part.port o.target.link ∉ [Part.session n, .port (otherHost o.target).link] := by
    simpa using link_ne (otherHost_ne o.target).symm
  unfold State.declineOffer
  cases hk : o.kind with
  | signOn =>
    have ht : (s.ses n).tried.has o.target = true := h.resolve_left (by rw [hk]; simp)
    dsimp only
    rw [declineSignOn_eq (h := o.target) (by rw [hp.ses, ht]; simp)]
    have hreturn : ∀ k tried, ((withdrawnWith v n k tried).returnToSignOn n).port o.target.link = v.port o.target.link :=
      fun k tried => (withdrawn_declined v n k tried).2.2 (.port _) (by
        simp [port_link_restParts])
    split
    · split
      · exact hreturn _ _
      · exact (withdrawn_offered v n _ _ _).2.2 (.port _) hne
    · exact hreturn _ _
  | adopt =>
    dsimp only
    rw [declineAdopt_eq]
    split
    · split
      · exact State.port_modSes ..
      · exact ((postOffer_law _ n _ .adopt).2.2 (.port _) hne).trans (State.port_modSes ..)
    · exact State.port_modSes ..

end

theorem all_iff {req : Option Computer} {g : Computer} :
    req.all (· == g) = true ↔ req = none ∨ req = some g := by
  cases req <;> simp

/-- Settles O47: the decline of each kind of offer, by what the other host can take. -/
theorem declineReroutesOrReturns : Obligations.DeclineReroutesOrReturns := by
  intro i n h g kind e s hd ho he hg
  subst hg
  obtain ⟨v, finish, hp⟩ := decline_poised hd ho
  have hpar : v.params = s.params := hp.stands (p := .params) (by simp) (by simp)
  have hports : Part.port h.link ∈ [Part.session n, .port .hostA, .port .hostB] := by cases h <;> simp [Computer.link]
  have hports' : Part.port (otherHost h).link ∈ [Part.session n, .port .hostA, .port .hostB] := by
    cases h <;> simp [Computer.link, otherHost]
  have hkses : ∀ u, (finish u).ses n = u.ses n := fun u => hp.keeps u (p := .session n) (by simp) (by simp)
  have hkport : ∀ u, (finish u).port (otherHost h).link = u.port (otherHost h).link := fun u =>
    hp.keeps u (p := .port _) (by simpa using link_ne (otherHost_ne _)) (by simp)
  have hacct : (v.ses n).account = (s.ses n).account := by rw [hp.ses]
  refine ⟨fun hk => ⟨_, hp.exec, hp.told _ (hp.target_port hk)⟩, ?_, ?_, ?_, ?_, ?_⟩
  · rintro rfl hreq hatt hth htg ⟨hperm, hup, hroom⟩
    have hmoves : v.declineOffer n ⟨h, .signOn⟩ =
        (withdrawnWith v n ((v.ses n).offerAttempts + 1) ((v.ses n).tried.add (otherHost h))).postOffer n (otherHost h) .signOn := by
      refine (declineSignOn_eq (h := h) (by rw [hp.ses, hth]; simp)).trans ?_
      rw [if_pos, if_neg (fun hq => absurd (hp.other_full.1 hq) (Nat.not_le.2 hroom))]
      refine (hp.finds he).trans ?_
      rw [all_iff.2 hreq, htg, hperm, hup, decide_eq_true hatt]
      rfl
    obtain ⟨hses, hport, hun⟩ := withdrawn_offered v n ((v.ses n).offerAttempts + 1) ((v.ses n).tried.add (otherHost h)) (otherHost h)
    have htried : (s.ses n).tried.add (otherHost h) = ⟨true, true⟩ := by
      revert hth
      cases (s.ses n).tried
      cases h <;> simp [HostSet.has, HostSet.add, otherHost]
    refine ⟨_, hp.exec, ?_, ?_, ?_⟩
    · rw [hkses, hmoves, hses, hp.ses, hpar, htried]
    · rw [hkport, hmoves, hport, hp.other_port, hp.ses]
    · rw [hmoves]
      exact hp.unchanged (hun.mono (by simpa using hports')) hports
  · rintro rfl hwhy
    obtain ⟨k, tried, hreturns⟩ : ∃ k tried, v.declineOffer n ⟨h, .signOn⟩ = (withdrawnWith v n k tried).returnToSignOn n := by
      by_cases h2 : 2 ≤ (s.ses n).offerAttempts
      · exact ⟨_, _, declineSignOn_spent (by rw [hp.ses]; exact h2)⟩
      · obtain ⟨hth, hwhy⟩ := hwhy.resolve_left h2
        have heq := declineSignOn_eq (h := h) (by rw [hp.ses, hth]; simp)
        by_cases hf : findsOther v n (v.ses n).offerAttempts (v.ses n).tried (otherHost h) = true
        · rw [if_pos hf, if_pos] at heq
          · exact ⟨_, _, heq⟩
          · rw [hp.finds he] at hf
            simp only [Bool.and_eq_true, Bool.not_eq_true', all_iff] at hf
            obtain ⟨-, ⟨⟨hreq, htg⟩, hperm⟩, hup⟩ := hf
            rw [hp.other_full]
            rcases hwhy with ⟨x, hx, hxt⟩ | hwhy | hwhy | hwhy | hwhy
            · rcases hreq with hreq | hreq <;> rw [hx] at hreq
              · cases hreq
              · rw [Option.some.inj hreq, htg] at hxt; cases hxt
            · rw [htg] at hwhy; cases hwhy
            · rw [hperm] at hwhy; cases hwhy
            · rw [hup] at hwhy; cases hwhy
            · exact hwhy
        · rw [if_neg hf] at heq
          exact ⟨_, _, heq⟩
    obtain ⟨⟨href, -, htoggle, hcall⟩, hoffer, hun⟩ := withdrawn_declined v n k tried
    obtain ⟨hres, hacc⟩ := withdrawn_books (hp.accountOf he) k tried
    refine ⟨_, hp.exec, ?_⟩
    rw [hreturns]
    set u := (withdrawnWith v n k tried).returnToSignOn n
    have hk : ∀ {p : Part}, p ≠ .port h.link → p ≠ .host h → p.same u (finish u) := hp.keeps u
    rw [hkses]
    refine ⟨?_, ?_, ?_, ?_, hoffer, ?_, hcall, ?_, ?_⟩
    · have hrs := refusedWith_congr (by rw [hp.ses]) (by rw [hp.ses]) hpar href
      unfold refusedWith at hrs ⊢
      rwa [hkses]
    · rw [show (finish u).reservations = _ from hk (p := .reservations) (by simp) (by simp), hres,
        show v.reservations = _ from hp.stands (p := .reservations) (by simp) (by simp)]
    · rw [show (finish u).accounts = _ from hk (p := .accounts) (by simp) (by simp), hacc,
        show v.accounts = _ from hp.stands (p := .accounts) (by simp) (by simp)]
    · rw [show (finish u).records = _ from hk (p := .records) (by simp) (by simp),
        show u.records = _ from hun .records (by simp [restParts]),
        show v.records = _ from hp.stands (p := .records) (by simp) (by simp)]
    · rw [htoggle, hp.ses]
    · rw [hkport, ← hp.other_port]
      exact hun (.port _) (by simp [port_link_restParts])
    · refine hp.unchanged (hun.mono ?_) (by cases h <;> simp [lineParts, Computer.link])
      simp [restParts, lineParts]
  · rintro rfl hdec ⟨hperm, hup, hroom⟩
    have hmoves : v.declineOffer n ⟨h, .adopt⟩ = (v.modSes n fun r =>
        { r with offer := none, offerTimer := .stopped, declined := r.declined.add h }).postOffer n (otherHost h) .adopt := by
      refine (declineAdopt_eq v n h).trans ?_
      rw [if_pos, if_neg (fun hq => absurd (hp.other_full.1 hq) (Nat.not_le.2 hroom))]
      refine (hp.seeks he _).trans ?_
      rw [hup, hperm, hp.ses]
      revert hdec
      cases h <;> simp [HostSet.has, HostSet.add, otherHost]
    obtain ⟨hses, hport, hun⟩ := postOffer_law (v.modSes n fun r =>
        { r with offer := none, offerTimer := .stopped, declined := r.declined.add h }) n (otherHost h) .adopt
    refine ⟨_, hp.exec, ?_, ?_, ?_⟩
    · rw [hkses, hmoves, hses, State.ses_modSes_self, hp.ses, State.params_modSes, hpar]
    · rw [hkport, hmoves, hport, State.port_modSes, hp.other_port, State.ses_modSes_self, hp.ses]
      rfl
    · rw [hmoves]
      refine hp.unchanged (.trans (unchangedBut_modSes _ _ (by simp)) (hun.mono (by simpa using hports'))) hports
  · rintro rfl hdec hperm hup hfull
    have hstays : v.declineOffer n ⟨h, .adopt⟩ = v.modSes n fun r =>
        { r with offer := none, offerTimer := .stopped, declined := (r.declined.add h).add (otherHost h) } := by
      refine (declineAdopt_eq v n h).trans ?_
      rw [if_pos, if_pos (hp.other_full.2 hfull)]
      refine (hp.seeks he _).trans ?_
      rw [hup, hperm, hp.ses]
      revert hdec
      cases h <;> simp [HostSet.has, HostSet.add, otherHost]
    refine ⟨_, hp.exec, ?_, ?_⟩
    · rw [hkses, hstays, State.ses_modSes_self, hp.ses]
      cases h <;> rfl
    · rw [hstays]
      exact hp.unchanged (unchangedBut_modSes _ _ (by simp)) (by simp)
  · rintro rfl hno
    have hstays : v.declineOffer n ⟨h, .adopt⟩ = v.modSes n fun r =>
        { r with offer := none, offerTimer := .stopped, declined := r.declined.add h } := by
      refine (declineAdopt_eq v n h).trans (if_neg ?_)
      rw [show seeksOther _ _ _ _ = _ from hp.seeks he _, hp.ses]
      simp only [Bool.and_eq_true, Bool.not_eq_true']
      rintro ⟨⟨hup, hperm⟩, hdec⟩
      rcases hno with hno | hno | hno
      · rw [has_add hno] at hdec; cases hdec
      · rw [hperm] at hno; cases hno
      · rw [hup] at hno; cases hno
    refine ⟨_, hp.exec, ?_, ?_⟩
    · rw [hkses, hstays, State.ses_modSes_self, hp.ses]
    · rw [hstays]
      exact hp.unchanged (unchangedBut_modSes _ _ (by simp)) (by simp)

end Sys2Proof.OffersDeclined
end

section
/-! PROOFS. A host link comes UP. -/

namespace Sys2Proof.LinksUp

open Sys2Proof.Machine Sys2Proof.Stations Sys2Proof.Clears Sys2Proof.Keeping
open Sys2Proof.LineControl Sys2Proof.OffersMade Sys2Proof.OffersAnswered Sys2Proof.OffersDeclined

variable {s t u v w : State} {n : LineNo} {e : Account} {g h : Computer} {i : Instr} {k : Link}

/-! ### The end of the exchange and the coming UP of a link do not meet -/

section
variable (t : State) (n : LineNo) (k : Link)

theorem endExchange_modSes (f : Session → Session) : (t.endExchange k).modSes n f = (t.modSes n f).endExchange k := by
  cases k <;> rfl

theorem endExchange_queueFull (j : Link) : (t.endExchange k).queueFull j = t.queueFull j := by
  cases k <;> cases j <;> rfl

theorem endExchange_postOffer (g : Computer) (kind : OfferKind) :
    (t.endExchange k).postOffer n g kind = (t.postOffer n g kind).endExchange k := by
  cases k <;> cases g <;> rfl

theorem endExchange_postNotice (j : Link) (m : Notice) :
    (t.endExchange k).postNotice j m = (t.postNotice j m).endExchange k := by
  have hmask : ((t.endExchange k).port j).mask = (t.port j).mask := by cases k <;> cases j <;> rfl
  have hreach : (t.endExchange k).reachable j = t.reachable j := by cases k <;> cases j <;> rfl
  unfold State.postNotice
  rw [hmask, hreach, endExchange_queueFull]
  split
  · rfl
  · split
    · rfl
    · split
      · cases k <;> cases j <;> rfl
      · cases k <;> cases j <;> rfl

theorem endExchange_adoptionCandidate : (t.endExchange k).adoptionCandidate n = t.adoptionCandidate n := by
  cases k <;> rfl

theorem endExchange_adoptionSearch (fuel : Nat) :
    (t.endExchange k).adoptionSearch n fuel = (t.adoptionSearch n fuel).endExchange k := by
  induction fuel generalizing t with
  | zero => rfl
  | succ fuel ih =>
    unfold State.adoptionSearch
    rw [endExchange_adoptionCandidate]
    cases t.adoptionCandidate n with
    | none => rfl
    | some x =>
      dsimp only
      rw [endExchange_queueFull, endExchange_postOffer]
      unfold State.addDeclined
      rw [endExchange_modSes, ih]
      split <;> rfl

theorem endExchange_adoptAttempt (g : Computer) :
    (t.endExchange k).adoptAttempt n g = (t.adoptAttempt n g).endExchange k := by
  unfold State.adoptAttempt State.addDeclined
  rw [endExchange_queueFull, endExchange_postOffer, endExchange_modSes, endExchange_adoptionSearch]
  split <;> rfl

theorem endExchange_forLines {f : State → LineNo → State} (hf : ∀ t n, f (t.endExchange k) n = (f t n).endExchange k) :
    (t.endExchange k).forLines f = (t.forLines f).endExchange k := by
  unfold State.forLines
  exact (List.foldl_hom (f := fun t : State => t.endExchange k) fun t n => (hf t n)).symm ▸ rfl

theorem endExchange_linkUp (h : Computer) : (t.endExchange k).linkUp h = (t.linkUp h).endExchange k := by
  have hup : ∀ f, (t.endExchange k).modHost h f = (t.modHost h f).endExchange k := fun f => by cases k <;> cases h <;> rfl
  have hparams : (t.endExchange k).params = t.params := by cases k <;> rfl
  unfold State.linkUp
  dsimp only
  rw [hparams, hup, endExchange_forLines _ _ fun t n => endExchange_modSes t n k _, endExchange_postNotice,
    endExchange_forLines _ _ fun t n => ?_]
  have hses : (t.endExchange k).ses n = t.ses n := State.ses_modPort ..
  have hperm : (t.endExchange k).permitsHost n h = t.permitsHost n h := by cases k <;> rfl
  rw [hses, hperm, endExchange_adoptAttempt]
  split <;> rfl

end

/-! ### What a link that comes UP leaves alone -/

/-- An attempt ends with the declined-by set written, and at most an offer posted besides. -/
theorem adoptAttempt_shape (t : State) (n : LineNo) (h : Computer) :
    ∃ dec, t.adoptAttempt n h = t.modSes n (fun r => { r with declined := dec }) ∨
      ∃ g, t.adoptAttempt n h = (t.modSes n fun r => { r with declined := dec }).postOffer n g .adopt := by
  cases hq : t.queueFull h.link with
  | true =>
    obtain ⟨dec, he | ⟨g, -, -, he⟩⟩ := adoptAttempt_full t n hq
    · exact ⟨dec, .inl he⟩
    · exact ⟨dec, .inr ⟨g, he⟩⟩
  | false =>
    refine ⟨(t.ses n).declined, .inr ⟨h, ?_⟩⟩
    rw [AccountOrders.modSes_eq_self rfl]
    unfold State.adoptAttempt
    rw [hq]
    rfl

theorem exchange_postOffer (t : State) (n : LineNo) (g : Computer) (kind : OfferKind) (k : Link) :
    ((t.postOffer n g kind).port k).exchange = (t.port k).exchange := by
  by_cases hk : k = g.link
  · rw [hk, (postOffer_law t n g kind).2.1]
  · rw [show (t.postOffer n g kind).port k = _ from (postOffer_law t n g kind).2.2 (.port k) (by simpa using hk)]

theorem exchange_adoptAttempt (t : State) (n : LineNo) (h : Computer) (k : Link) :
    ((t.adoptAttempt n h).port k).exchange = (t.port k).exchange := by
  obtain ⟨dec, he | ⟨g, he⟩⟩ := adoptAttempt_shape t n h
  · rw [he, State.port_modSes]
  · rw [he, exchange_postOffer, State.port_modSes]

theorem exchange_postNotice (t : State) (j : Link) (m : Notice) (k : Link) :
    ((t.postNotice j m).port k).exchange = (t.port k).exchange := by
  by_cases hk : k = j
  · subst hk
    rw [port_postNotice_self]
    split
    · rfl
    · split <;> rfl
  · rw [State.port_postNotice_ne _ _ _ _ hk]

theorem exchange_linkUp (t : State) (h : Computer) (k : Link) : ((t.linkUp h).port k).exchange = (t.port k).exchange := by
  unfold State.linkUp
  refine State.forLines_induct (I := fun _ u => (u.port k).exchange = (t.port k).exchange) ?_ fun _ n u _ hu => ?_
  · rw [exchange_postNotice]
    refine State.forLines_induct (I := fun _ u => (u.port k).exchange = (t.port k).exchange) ?_ fun _ n u _ hu => ?_
    · rw [State.port_modHost]
    · rw [State.port_modSes]
      exact hu
  · split
    · rw [exchange_adoptAttempt]
      exact hu
    · exact hu

theorem params_linkUp (t : State) (h : Computer) : (t.linkUp h).params = t.params := by
  unfold State.linkUp
  refine State.forLines_induct (I := fun _ u => u.params = t.params) ?_ fun _ n u _ hu => ?_
  · rw [State.params_postNotice]
    refine State.forLines_induct (I := fun _ u => u.params = t.params) ?_ fun _ n u _ hu => ?_
    · rw [State.params_modHost]
    · rw [State.params_modSes]
      exact hu
  · split
    · exact (reaches_params ((reaches.refl n u).adoptAttempt h)).trans hu
    · exact hu

/-! ### The frame that brings the link UP (R92) -/

theorem inExchange_active (ha : accepts s k) : ((s.inExchange k).port k).exchange = .active := by
  unfold State.inExchange
  rcases ha with ha | ⟨hn, hr⟩
  · rw [if_neg (by rw [ha]; decide), ha]
  · rw [if_pos hn, State.beginExchange, if_pos hr, State.port_modPort_self]

theorem modHost_self {f : HostLink → HostLink} (hf : f (s.host h) = s.host h) : s.modHost h f = s := by
  cases h with
  | a =>
    show { s with hostA := f s.hostA } = s
    rw [show f s.hostA = s.hostA from hf]
  | b =>
    show { s with hostB := f s.hostB } = s
    rw [show f s.hostB = s.hostB from hf]

theorem linkActivity_up (hk : k.host? = some h) (hu : s.host h = ⟨true, .running (s.params.hostSilence * 1000)⟩) :
    s.linkActivity k = s := by
  unfold State.linkActivity
  rw [hk]
  dsimp only
  rw [if_pos (by rw [hu]), modHost_self (by rw [hu])]

/-- The order of a frame that brings its link UP is carried out as on an UP link (R92). -/
theorem exec_comesUp {f : Frame} (he : Frame.encode i = some (k, f)) (hk : k.host? = some h) (ha : accepts s k)
    (hd : (s.host h).up = false) : exec i s = exec i ((s.inExchange k).linkUp h) := by
  obtain ⟨order, ho⟩ := Frames.exec_takeOrder he
  have hbegun : ((s.inExchange k).port k).exchange = .active := inExchange_active ha
  set b := s.inExchange k with hb
  have hbhost : b.host h = s.host h := by
    rw [hb]
    unfold State.inExchange State.beginExchange
    split
    · split <;> rw [State.host_modPort]
    · rfl
  have hactive : ((b.linkUp h).port k).exchange = .active := (exchange_linkUp b h k).trans hbegun
  have hsame : (b.linkUp h).inExchange k = b.linkUp h := if_neg (by rw [hactive]; decide)
  have hfirst : (b.endExchange k).linkActivity k = (b.linkUp h).endExchange k := by
    unfold State.linkActivity
    rw [hk]
    dsimp only
    rw [if_neg, endExchange_linkUp]
    rw [State.endExchange, State.host_modPort, hbhost, hd]
    decide
  have hsecond : ((b.linkUp h).endExchange k).linkActivity k = (b.linkUp h).endExchange k := by
    refine linkActivity_up hk ?_
    unfold State.endExchange
    rw [State.host_modPort, State.params_modPort, Frames.host_linkUp, params_linkUp]
  rw [ho, ho]
  unfold State.takeOrder State.takeFrame
  dsimp only
  rw [← hb, hsame, if_neg (by rw [hbegun]; decide), if_neg (by rw [hactive]; decide), hfirst, hsecond]

/-! ### The HELD lines offered to it (R92) -/

theorem mem_allSessions (n : LineNo) : Part.session n ∈ allSessions := List.mem_map.2 ⟨n, State.mem_allLines n, rfl⟩

/-- The link UP, its host in no declined-by set, and HOST_UP posted. -/
def raised (v : State) (h : Computer) : State :=
  ((v.modHost h fun _ => ⟨true, .running (v.params.hostSilence * 1000)⟩).forLines fun t n =>
    t.modSes n fun r => { r with declined := r.declined.remove h }).postNotice .acct (.hostUp h)

theorem raised_law (v : State) (h : Computer) :
    (∀ n, (raised v h).ses n = { v.ses n with declined := (v.ses n).declined.remove h }) ∧
    (raised v h).host h = ⟨true, .running (v.params.hostSilence * 1000)⟩ ∧
    (raised v h).portAcct = (v.postNotice .acct (.hostUp h)).portAcct ∧
    unchangedBut (.host h :: .port .acct :: allSessions) v (raised v h) := by
  set up := v.modHost h fun _ => ⟨true, .running (v.params.hostSilence * 1000)⟩ with hup
  set forgiven := up.forLines fun t n => t.modSes n fun r => { r with declined := r.declined.remove h } with hforgiven
  have hun : unchangedBut (.host h :: .port .acct :: allSessions) up forgiven :=
    State.forLines_induct (I := fun _ t => unchangedBut (.host h :: .port .acct :: allSessions) up t) (unchangedBut_refl _ up)
      fun _ n t _ ht => ht.trans (unchangedBut_modSes _ t (by simp [mem_allSessions]))
  have hall : unchangedBut (.host h :: .port .acct :: allSessions) v forgiven :=
    .trans (unchangedBut_modHost _ v (by simp)) hun
  have hacct : forgiven.portAcct = v.portAcct := by
    have hf : (forgiven.port .acct) = up.port .acct :=
      State.forLines_induct (I := fun _ t => t.port .acct = up.port .acct) rfl
        fun _ n t _ ht => (State.port_modSes ..).trans ht
    exact hf.trans (State.port_modHost ..)
  refine ⟨fun n => ?_, ?_, portAcct_postNotice_congr hacct _, hall.trans (unchanged_postNotice _ _ _ (by simp))⟩
  · show (forgiven.postNotice .acct (.hostUp h)).ses n = _
    rw [State.ses_postNotice, hforgiven, AccountOrders.ses_forLines_modSes, hup, State.ses_modHost]
  · show (forgiven.postNotice .acct (.hostUp h)).host h = _
    rw [State.host_postNotice, hforgiven, Frames.host_forLines _ h fun t n => State.host_modSes .., hup, State.host_modHost_self]

/-- The ADOPT notices of the lines among some that a host coming UP is offered (R92). -/
def adoptNotices (s : State) (h : Computer) (l : List LineNo) : List Notice :=
  (l.filter fun n => awaits s h n).map fun n => .adopt n (!(s.ses n).toggle) ((s.ses n).account.getD 0)

/-- A line offered to the host that has come UP. -/
def adopted (s : State) (h : Computer) (n : LineNo) : Session := { s.ses n with
  declined := (s.ses n).declined.remove h, toggle := !(s.ses n).toggle, offer := some ⟨h, .adopt⟩
  offerTimer := .running (s.params.offerLimit * 1000) }

/-- The lines done so far, when a host that has come UP is offered its lines in order. -/
structure Offering (s v : State) (h : Computer) (done : List LineNo) (t : State) : Prop where
  port : t.port h.link = { v.port h.link with notices := adoptNotices s h done }
  todo : ∀ n, n ∉ done → t.ses n = v.ses n
  adopted : ∀ n ∈ done, awaits s h n = true → t.ses n = adopted s h n
  passed : ∀ n, awaits s h n = false → t.ses n = v.ses n
  nodup : done.Nodup
  others : unchangedBut (.port h.link :: allSessions) v t

theorem awaits_iff (s : State) (h : Computer) (n : LineNo) :
    awaits s h n = true ↔ (s.ses n).state = .held ∧ (s.ses n).offer = none ∧ s.permitsHost n h = true := by
  simp [awaits, and_assoc]

theorem permitsHost_congr (ha : t.accounts = s.accounts) (hn : (t.ses n).account = (s.ses n).account) :
    t.permitsHost n h = s.permitsHost n h := by
  unfold State.permitsHost State.accountOf State.account?
  rw [ha, hn]

theorem length_filter_le (p : LineNo → Bool) {l : List LineNo} (hl : l.Nodup) : (l.filter p).length ≤ 16 :=
  (List.length_filter_le _ _).trans (hl.length_le_card.trans (by simp))

section
variable (hses : ∀ n, v.ses n = { s.ses n with declined := (s.ses n).declined.remove h })
  (hacc : v.accounts = s.accounts) (hpar : v.params = s.params)
include hses hacc hpar

theorem Offering.step {done : List LineNo} (hn : n ∉ done) (ht : Offering s v h done t) : Offering s v h (done ++ [n])
    (if (t.ses n).state = .held ∧ (t.ses n).offer = none ∧ t.permitsHost n h = true then t.adoptAttempt n h else t) := by
  obtain ⟨hport, htodo, hadopted, hpassed, hnodup, hun⟩ := ht
  have htn : t.ses n = { s.ses n with declined := (s.ses n).declined.remove h } := (htodo n hn).trans (hses n)
  have hcond : ((t.ses n).state = .held ∧ (t.ses n).offer = none ∧ t.permitsHost n h = true) ↔ awaits s h n = true := by
    have hp : t.permitsHost n h = s.permitsHost n h := permitsHost_congr
      ((hun .accounts (by simp [allSessions])).trans hacc) (by rw [htn])
    rw [awaits_iff, htn, hp]
  have hnd : (done ++ [n]).Nodup := List.nodup_append.2 ⟨hnodup, List.nodup_singleton n, by
    rintro a ha b hb rfl
    exact hn (List.mem_singleton.1 hb ▸ ha)⟩
  by_cases ha : awaits s h n = true
  · have hlen : (adoptNotices s h done).length < 32 := by
      rw [adoptNotices, List.length_map]
      exact lt_of_le_of_lt (length_filter_le _ hnodup) (by decide)
    have hroom : t.queueFull h.link = false := by
      rw [Bool.eq_false_iff, ne_eq, queueFull_link, hport]
      exact Nat.not_le.2 hlen
    have hpost : t.adoptAttempt n h = t.postOffer n h .adopt := by
      unfold State.adoptAttempt
      rw [hroom]
      rfl
    obtain ⟨hpses, hpport, hpun⟩ := postOffer_law t n h .adopt
    rw [if_pos (hcond.2 ha), hpost]
    have hother : ∀ m, m ≠ n → (t.postOffer n h .adopt).ses m = t.ses m := fun m hm => hpun (.session m) (by simp [hm])
    have hnew : (t.postOffer n h .adopt).ses n = LinksUp.adopted s h n := by
      rw [hpses, htn, show t.params = _ from (hun .params (by simp [allSessions])).trans hpar]
      rfl
    refine ⟨?_, fun m hm => ?_, fun m hm hma => ?_, fun m hma => ?_, hnd, hun.trans (hpun.mono ?_)⟩
    · rw [hpport, hport, htn]
      simp [adoptNotices, ha, State.offerNotice]
    · rw [List.mem_append, List.mem_singleton, not_or] at hm
      rw [hother m hm.2, htodo m hm.1]
    · by_cases hmn : m = n
      · rw [hmn]
        exact hnew
      · rw [hother m hmn]
        exact hadopted m (by simpa [hmn] using hm) hma
    · rw [hother m (by rintro rfl; rw [ha] at hma; cases hma), hpassed m hma]
    · simp [mem_allSessions]
  · rw [if_neg (fun hc => ha (hcond.1 hc))]
    refine ⟨?_, fun m hm => htodo m fun hd => hm (List.mem_append_left _ hd), fun m hm hma => ?_, hpassed, hnd, hun⟩
    · rw [hport]
      simp [adoptNotices, ha]
    · rcases List.mem_append.1 hm with hm | hm
      · exact hadopted m hm hma
      · rw [List.mem_singleton.1 hm] at hma
        exact absurd hma ha

theorem offering_all (hq : (v.port h.link).notices = []) : Offering s v h allLines (v.forLines fun t n =>
    if (t.ses n).state = .held ∧ (t.ses n).offer = none ∧ t.permitsHost n h = true then t.adoptAttempt n h else t) := by
  refine State.forLines_induct (I := fun done t => Offering s v h done t) ⟨?_, fun _ _ => rfl, by simp, fun _ _ => rfl,
    List.nodup_nil, unchangedBut_refl _ v⟩ fun done n t hn ht => ht.step hses hacc hpar hn
  rw [show adoptNotices s h [] = (v.port h.link).notices from hq.symm]

end

theorem exec_nop_accepts (ha : accepts s k) : exec (.nop k) s =
    .next (((s.modPort k fun p => framePort s k p.reply).linkActivity k).setReply k ⟨.ok, 0⟩) :=
  congrArg Host.Outcome.next (State.takeFrame_accepts s k ha)

/-- Settles O50: the link raised, its lines offered to it, and the order carried out after. -/
theorem hostComesUp : Obligations.HostComesUp := by
  refine ⟨fun k h s hk ha hd hq => ?_, fun i k h f s he hk ha hd => exec_comesUp he hk ha hd⟩
  obtain rfl := link_of_host hk
  set v := s.modPort h.link fun p => framePort s h.link p.reply with hv
  have hvport : v.port h.link = framePort s h.link (s.port h.link).reply := State.port_modPort_self ..
  have hvun : unchangedBut [.port h.link] s v := unchangedBut_modPort _ s (by simp)
  have hexec : exec (.nop h.link) s = .next ((v.linkUp h).setReply h.link ⟨.ok, 0⟩) := by
    have hact : v.linkActivity h.link = v.linkUp h := by
      unfold State.linkActivity
      rw [host_of_link]
      dsimp only
      rw [if_neg]
      rw [show v.host h = _ from hvun (.host h) (by simp), hd]
      decide
    rw [exec_nop_accepts ha, ← hv, hact]
  obtain ⟨hrses, hrhost, hracct, hrun⟩ := raised_law v h
  have hvses : ∀ n, v.ses n = s.ses n := fun n => hvun (.session n) (by simp)
  have hvpar : v.params = s.params := hvun .params (by simp)
  have hlink : h.link ≠ .acct := by cases h <;> decide
  have hrport : (raised v h).port h.link = v.port h.link := hrun (.port h.link) (by simp [allSessions, hlink])
  have hrpar : (raised v h).params = s.params := (hrun .params (by simp [allSessions])).trans hvpar
  obtain ⟨hport, -, hadopted, hpassed, -, hun⟩ := offering_all (s := s) (v := raised v h) (h := h)
    (fun n => (hrses n).trans (by rw [hvses]))
    ((hrun .accounts (by simp [allSessions])).trans (hvun .accounts (by simp))) hrpar
    (by rw [hrport, hvport]; exact hq)
  have hall : unchangedBut (.host h :: .port h.link :: .port .acct :: allSessions) s (v.linkUp h) :=
    .trans (hvun.mono (by simp)) (.trans (hrun.mono (by simp +contextual)) (hun.mono (by simp +contextual)))
  set t := (v.linkUp h).setReply h.link ⟨.ok, 0⟩ with ht
  refine ⟨t, hexec, ?_, fun n hn => ?_, fun n hn => ?_, ?_, ?_, hall.trans (unchangedBut_setReply _ _ _ (by simp))⟩
  · rw [ht, State.setReply, State.host_modPort, Frames.host_linkUp, hvpar]
  · rw [ht, ses_setReply]
    exact (hpassed n hn).trans ((hrses n).trans (by rw [hvses]))
  · rw [ht, ses_setReply]
    exact hadopted n (State.mem_allLines n) hn
  · rw [ht, port_setReply_self, show (v.linkUp h).port h.link = _ from hport, hrport, hvport]
    rfl
  · have hsame : t.port .acct = (v.linkUp h).port .acct := by
      rw [ht, State.setReply, State.port_modPort_ne _ _ _ _ hlink.symm]
    have hloop : (v.linkUp h).port .acct = (raised v h).port .acct := hun (.port .acct) (by simp [allSessions, hlink.symm])
    have hvacct : v.portAcct = s.portAcct := hvun (.port .acct) (by simp [hlink.symm])
    exact hsame.trans (hloop.trans (hracct.trans (portAcct_postNotice_congr hvacct _)))

end Sys2Proof.LinksUp
end

section
/-! PROOFS. A host link goes DOWN: its lines HELD, its offers withdrawn, and the other host sought. -/

namespace Sys2Proof.LinksLost

open Sys2Proof.Machine Sys2Proof.Stations Sys2Proof.Clears Sys2Proof.Keeping Sys2Proof.CharacterEvents
open Sys2Proof.LineControl Sys2Proof.ClearRequests Sys2Proof.ClearOrders Sys2Proof.ClearEnds
open Sys2Proof.OffersMade Sys2Proof.OffersAnswered Sys2Proof.OffersDeclined Sys2Proof.LinksUp

variable {s t u v w : State} {n : LineNo} {e : Account} {g h : Computer} {i : Instr} {k : Link}

/-! ### Work that reaches each line alone -/

/-- Each line after work on all of them in which each step reaches its own line: what one step makes of it, from a state
in which it stands as it stood. -/
theorem lines_done {f : State → LineNo → State} {K : State → Prop} {Q : LineNo → Session → LineUnit → Prop}
    (hf : ∀ t n, reaches n t (f t n)) (h0 : K s) (hK : ∀ t n, K t → K (f t n))
    (hQ : ∀ t n, K t → t.ses n = s.ses n → t.unit n = s.unit n → Q n ((f t n).ses n) ((f t n).unit n)) :
    K (s.forLines f) ∧ ∀ n, Q n ((s.forLines f).ses n) ((s.forLines f).unit n) := by
  have h := State.forLines_induct (f := f) (s := s) (I := fun done t => K t ∧
      (∀ n, n ∉ done → t.ses n = s.ses n ∧ t.unit n = s.unit n) ∧ ∀ n ∈ done, Q n (t.ses n) (t.unit n))
    ⟨h0, fun _ _ => ⟨rfl, rfl⟩, by simp⟩ fun done n t hn ⟨h1, h2, h3⟩ => by
      refine ⟨hK t n h1, fun m hm => ?_, fun m hm => ?_⟩
      · simp only [List.mem_append, List.mem_singleton, not_or] at hm
        rw [reaches_ses_ne (hf t n) hm.2, reaches_unit_ne (hf t n) hm.2]
        exact h2 m hm.1
      · by_cases hmn : m = n
        · subst hmn
          exact hQ t m h1 (h2 m hn).1 (h2 m hn).2
        · rw [reaches_ses_ne (hf t n) hmn, reaches_unit_ne (hf t n) hmn]
          exact h3 m (by simpa [hmn] using hm)
  exact ⟨h.1, fun n => h.2.2 n (State.mem_allLines n)⟩

/-- A part that no work on a line reaches stands after work on all of them. -/
theorem lines_keep {f : State → LineNo → State} (hf : ∀ t n, reaches n t (f t n)) {p : Part}
    (hp : ∀ n, p ∉ lineParts n) : p.same s (s.forLines f) :=
  State.forLines_induct (I := fun _ t => p.same s t) (p.same_refl s) fun _ n t _ ht =>
    Part.same_trans ht (hf t n p (hp n))

/-! ### A line whose owner is lost (R91) -/

/-- The record of a line whose owner is lost. -/
def heldRecord (r : Session) (h : Computer) (p : Params) : Session := { r with
  state := .held, prevOwner := some h, owner := none, idleTimer := .stopped, feed := requested r.feed 13
  cursor := cursorRequested r, stateTimer := .start (p.holdLimit * 60000) }

theorem heldEntry_eq (t : State) (n : LineNo) (h : Computer) : t.heldEntry n h =
    if t.params.holdLimit = 0 then (t.modSes n fun r => heldRecord r h t.params).enterClearing n .hostLost
    else t.modSes n fun r => heldRecord r h t.params := by
  have heq : ((t.modSes n fun r =>
      { r with state := .held, prevOwner := some h, owner := none, idleTimer := .stopped }).requestMessage n slotHolding).modSes n
        (fun r => { r with stateTimer := .start (t.params.holdLimit * 60000) }) = t.modSes n fun r => heldRecord r h t.params := by
    rw [requestMessage_eq, modSes_modSes, modSes_modSes]
    rfl
  unfold State.heldEntry
  dsimp only
  rw [heq, clearRequest_active]
  rw [State.ses_modSes_self]
  rfl

theorem port_postNotice_down (hd : (s.host h).up = false) (j : Link) (m : Notice) :
    (s.postNotice j m).port h.link = s.port h.link := by
  by_cases hj : h.link = j
  · subst hj
    have hr : s.reachable h.link = false := by
      unfold State.reachable
      rw [host_of_link]
      exact hd
    rw [port_postNotice_self, if_pos (by simp [hr])]
  · rw [State.port_postNotice_ne _ _ _ _ hj]

/-- A cleared line that was not CONNECTED and has no offer tells no host. -/
theorem beforeDrain_untold {c : Cause} (hs : (t.ses n).state ≠ .connected) (ho : (t.ses n).offer = none) (j : Link) :
    (t.beforeDrain n c).port j = t.port j := by
  have htake := takeClear_keeps t n c
  obtain ⟨f, bs, hsec, d, o, fe, st, w, hses, -⟩ := State.ses_closed n c (t.ses n).state (t.takeClear n c)
  unfold State.beforeDrain
  dsimp only
  rw [show ∀ x : State, (x.finalMessage n c).port j = x.port j from fun x => finalMessage_keeps x n c (.port j) (by simp)]
  rw [State.withdrawOffer, hses, State.ses_takeClear]
  dsimp only
  rw [ho]
  dsimp only
  split
  · rw [port_closeSession_held hs, show (t.takeClear n c).port j = _ from htake (.port j) (by simp)]
  · exact htake (.port j) (by simp)

/-- A cleared line that was HELD tells no link that is DOWN. -/
theorem port_enterClearing_down {c : Cause} (hs : (t.ses n).state = .held) (hd : (t.host h).up = false) :
    (t.enterClearing n c).port h.link = t.port h.link := by
  have hne : (t.ses n).state ≠ .connected := by rw [hs]; decide
  rw [State.enterClearing_eq, show _ = _ from rest_startDrain _ n c (.port h.link) (port_link_restParts h n)]
  cases ho : (t.ses n).offer with
  | none => exact beforeDrain_untold hne ho _
  | some o =>
    rw [beforeDrain_told hne ho, toldWithdrawn]
    split
    · exact port_postNotice_down hd _ _
    · rfl

/-- What the clear of a line whose owner is lost shows (R91). -/
theorem enterClearing_ended (t : State) (n : LineNo) (c : Cause) : ((t.enterClearing n c).ses n).state.active = false ∧
    ((t.enterClearing n c).ses n).offer = none := by
  obtain ⟨f, bs, hsec, d, o', fe, st, wd, cur, ot, hbses, -, -⟩ := t.beforeDrain_ses n c
  have hcl := startDrain_cleared (t.beforeDrain n c) n c
  rw [← State.enterClearing_eq] at hcl
  exact ⟨(hcl.fields (by rw [hbses])).1, hcl.keeps_field (by rw [hbses]) rfl rfl (fun _ _ _ _ _ => rfl)⟩

/-! ### The three passes over the lines (R90), as the lost link and the accounting link see them -/

/-- What stands while a lost host's lines are dealt with. -/
structure Lost (h : Computer) (s t : State) : Prop where
  host : t.host h = ⟨false, .stopped⟩
  params : t.params = s.params
  port : t.port h.link = s.port h.link
  acct : s.service ≠ .draining → t.service = s.service ∧ t.portAcct = s.portAcct

theorem Lost.down (ht : Lost h s t) : (t.host h).up = false := by rw [ht.host]

/-- A step on a line that posts nothing to the lost link keeps what stands. -/
theorem Lost.step (ht : Lost h s t) (hu : reaches n t u) (hport : u.port h.link = t.port h.link)
    (hacct : t.service ≠ .draining → u.service = t.service ∧ u.portAcct = t.portAcct) : Lost h s u where
  host := (reaches_host hu h).trans ht.host
  params := (reaches_params hu).trans ht.params
  port := hport.trans ht.port
  acct hs := by
    obtain ⟨h1, h2⟩ := ht.acct hs
    obtain ⟨h3, h4⟩ := hacct (by rwa [h1])
    exact ⟨h3.trans h1, h4.trans h2⟩

/-- A step that changes a line's record only. -/
theorem Lost.quiet (ht : Lost h s t) (hu : unchangedBut [.session n] t u) : Lost h s u :=
  ht.step (n := n) (hu.mono (by simp [lineParts])) (hu (.port h.link) (by simp))
    fun _ => ⟨hu .service (by simp), hu (.port .acct) (by simp)⟩

/-- Step 2: the lines of the lost host. -/
theorem Lost.held (ht : Lost h s t) (n : LineNo) : Lost h s (if (t.ses n).ownedBy h then t.heldEntry n h else t) := by
  by_cases ho : (t.ses n).ownedBy h = true
  · rw [if_pos ho, heldEntry_eq]
    set held := t.modSes n fun r => heldRecord r h t.params with hheld
    have hun : unchangedBut [.session n] t held := unchangedBut_modSes _ t (by simp)
    have hlost := ht.quiet hun
    split
    · obtain ⟨-, hacct⟩ := enterClearing_apart held n .hostLost
      refine hlost.step ((reaches.refl n held).enterClearing .hostLost) ?_ fun hd => ⟨(hacct hd).2, (hacct hd).1⟩
      exact port_enterClearing_down (by rw [hheld, State.ses_modSes_self]; rfl) hlost.down
    · exact hlost
  · rwa [if_neg ho]

/-- A refusal tells the accounting link nothing but a drain's end (R169). -/
theorem refuse_acct (slot : Fin 16) (hs : (s.ses n).state = .signOn) (hd : s.service ≠ .draining) :
    (s.refuse n slot).service = s.service ∧ (s.refuse n slot).portAcct = s.portAcct := by
  obtain ⟨-, hun⟩ := countedRefusal_law s n slot
  by_cases hleft : s.params.signOnAttempts ≤ min ((s.ses n).attempts + 1) 7
  · rw [refuse_last slot hs hleft]
    have hserv : (countedRefusal s n slot).service = s.service := hun .service (by simp)
    obtain ⟨h1, h2⟩ := (enterClearing_apart (countedRefusal s n slot) n .signonFailed).2 (by rwa [hserv])
    exact ⟨h2.trans hserv, h1.trans (hun (.port .acct) (by simp))⟩
  · rw [refuse_eq, if_neg hleft]
    have hall : unchangedBut [.session n] s (((countedRefusal s n slot).requestMessage n 1).modSes n fun r =>
        { r with stateTimer := .running (s.params.signOnLimit * 1000) }) :=
      (hun.trans (unchangedBut_modSes _ _ (by simp))).trans (unchangedBut_modSes _ _ (by simp))
    exact ⟨hall .service (by simp), hall (.port .acct) (by simp)⟩

theorem returnToSignOn_acct (hd : s.service ≠ .draining) :
    (s.returnToSignOn n).service = s.service ∧ (s.returnToSignOn n).portAcct = s.portAcct := by
  have hserv : (returned s n).service = s.service := by rw [returned, State.service_modSes, State.service_releaseAdmission]
  obtain ⟨h1, h2⟩ := refuse_acct (s := returned s n) (n := n) 8 (by rw [returned_ses]) (by rwa [hserv])
  refine ⟨h1.trans hserv, h2.trans ?_⟩
  exact (State.port_modSes (k := .acct) ..).trans (State.port_releaseAdmission ..)

/-- The attempts and the hosts of a line whose offer is declined with its target DOWN. -/
theorem no_reroute_down {tried : HostSet} (hd : (t.host h).up = false) :
    (t.permitsHost n h && (t.host h).up && !tried.has h) = false := by
  rw [hd]
  simp

theorem no_search_down {declined : HostSet} (hd : (t.host h).up = false) : seeksOther t n declined h = false := by
  unfold seeksOther
  rw [hd]
  simp

/-- A line with an offer pending is not searched (R93). -/
theorem adoptionSearch_offered {o : Offer} (ho : (t.ses n).offer = some o) (fuel : Nat) : t.adoptionSearch n fuel = t := by
  cases fuel with
  | zero => rfl
  | succ k =>
    unfold State.adoptionSearch State.adoptionCandidate
    rw [if_pos (by rw [ho]; rfl)]

theorem withdrawLost_passed (ho : (t.ses n).offer.map (·.target) ≠ some h) : t.withdrawLost n h = t := by
  unfold State.withdrawLost
  cases hoff : (t.ses n).offer with
  | none => rfl
  | some o => exact if_neg fun ht => ho (by rw [hoff, ← ht]; rfl)

theorem withdrawLost_offered (hs : (t.ses n).state = .offered) (ho : (t.ses n).offer.map (·.target) = some h) :
    t.withdrawLost n h = t.declineSignOn n := by
  obtain ⟨o, hoff, rfl⟩ := Option.map_eq_some_iff.1 ho
  unfold State.withdrawLost
  rw [hoff]
  dsimp only
  rw [if_pos rfl, if_pos hs]

theorem withdrawLost_held (hs : (t.ses n).state ≠ .offered) (ho : (t.ses n).offer.map (·.target) = some h) :
    t.withdrawLost n h = t.dropOffer n := by
  obtain ⟨o, hoff, rfl⟩ := Option.map_eq_some_iff.1 ho
  unfold State.withdrawLost
  rw [hoff]
  dsimp only
  rw [if_pos rfl, if_neg hs]

theorem port_lost_offer (t : State) (n : LineNo) (h : Computer) (kind : OfferKind) :
    (t.postOffer n (otherHost h) kind).port h.link = t.port h.link :=
  port_postOffer_ne (otherHost_ne h).symm kind

theorem acct_offer (t : State) (n : LineNo) (g : Computer) (kind : OfferKind) :
    (t.postOffer n g kind).service = t.service ∧ (t.postOffer n g kind).portAcct = t.portAcct := by
  obtain ⟨-, -, hun⟩ := postOffer_law t n g kind
  exact ⟨hun .service (by simp), hun (.port .acct) (by cases g <;> simp [Computer.link])⟩

theorem reaches_postOffer (t : State) (n : LineNo) (g : Computer) (kind : OfferKind) : reaches n t (t.postOffer n g kind) :=
  (postOffer_law t n g kind).2.2.mono (by cases g <;> simp [lineParts, Computer.link])

theorem reaches_withdrawnWith (t : State) (n : LineNo) (k : Nat) (tried : HostSet) : reaches n t (withdrawnWith t n k tried) :=
  (withdrawnWith_law t n k tried).2.mono (by simp [lineParts])

/-- Step 3: the offers to the lost host. -/
theorem Lost.withdrawn (ht : Lost h s t) (n : LineNo) : Lost h s (t.withdrawLost n h) := by
  by_cases ho : (t.ses n).offer.map (·.target) = some h
  · by_cases hs : (t.ses n).state = .offered
    · rw [withdrawLost_offered hs ho]
      have hun := fun k tried => (withdrawnWith_law t n k tried).2
      have hreturn : ∀ k tried, Lost h s ((withdrawnWith t n k tried).returnToSignOn n) := fun k tried => by
        refine ht.step (reaches_withdrawnWith t n k tried).returnToSignOn ((port_returnToSignOn _ n h).trans (hun k tried (.port h.link) (by simp))) fun hd => ?_
        have hserv : (withdrawnWith t n k tried).service = t.service := hun k tried .service (by simp)
        obtain ⟨h1, h2⟩ := returnToSignOn_acct (s := withdrawnWith t n k tried) (n := n) (by rwa [hserv])
        exact ⟨h1.trans hserv, h2.trans (hun k tried (.port .acct) (by simp))⟩
      rw [declineSignOn_eq (no_reroute_down ht.down)]
      split
      · split
        · exact hreturn _ _
        · obtain ⟨h1, h2⟩ := acct_offer (withdrawnWith t n ((t.ses n).offerAttempts + 1) ((t.ses n).tried.add (otherHost h))) n
            (otherHost h) .signOn
          refine ht.step ((reaches_withdrawnWith t n _ _).trans (reaches_postOffer _ _ _ _)) ((port_lost_offer _ n h _).trans (hun _ _ (.port h.link) (by simp))) fun _ =>
            ⟨h1.trans (hun _ _ .service (by simp)), h2.trans (hun _ _ (.port .acct) (by simp))⟩
      · exact hreturn _ _
    · rw [withdrawLost_held hs ho]
      exact ht.quiet (n := n) (unchangedBut_modSes _ t (by simp))
  · rwa [withdrawLost_passed ho]

/-- Step 5: the HELD lines searched for adoption. -/
theorem Lost.sought (ht : Lost h s t) (n : LineNo) :
    Lost h s (if (t.ses n).state = .held then t.adoptionSearch n 2 else t) := by
  split
  · cases ho : (t.ses n).offer with
    | some o => rwa [adoptionSearch_offered ho]
    | none =>
      rw [adoptionSearch_eq ho (no_search_down ht.down)]
      split
      · split
        · exact ht.quiet (n := n) (unchangedBut_modSes _ t (by simp))
        · exact ht.step (reaches_postOffer _ _ _ _) (port_lost_offer t n h _) fun _ => acct_offer t n _ _
      · exact ht
  · exact ht

/-! ### The three passes, as one line sees them -/

/-- A line through step 2. -/
inductive HeldStep (h : Computer) (p : Params) (r : Session) (x : LineUnit) : Session → LineUnit → Prop where
  | passed (ho : r.ownedBy h = false) : HeldStep h p r x r x
  | held (ho : r.ownedBy h = true) (hp : p.holdLimit ≠ 0) : HeldStep h p r x (heldRecord r h p) x
  | cleared (ho : r.ownedBy h = true) (hp : p.holdLimit = 0) (r' : Session) (x' : LineUnit) (ha : r'.state.active = false)
      (hoff : r'.offer = none) : HeldStep h p r x r' x'

theorem heldStep (t : State) (n : LineNo) (h : Computer) : HeldStep h t.params (t.ses n) (t.unit n)
    ((if (t.ses n).ownedBy h then t.heldEntry n h else t).ses n)
    ((if (t.ses n).ownedBy h then t.heldEntry n h else t).unit n) := by
  cases ho : (t.ses n).ownedBy h with
  | false => exact .passed ho
  | true =>
    rw [if_pos rfl, heldEntry_eq]
    split
    next hp =>
      obtain ⟨h1, h2⟩ := enterClearing_ended (t.modSes n fun r => heldRecord r h t.params) n .hostLost
      exact .cleared ho hp _ _ h1 h2
    next hp =>
      rw [State.ses_modSes_self, State.unit_modSes]
      exact .held ho hp

/-- A line through step 3. -/
inductive WithdrawStep (h : Computer) (r : Session) (x : LineUnit) : Session → LineUnit → Prop where
  | passed (ho : r.offer.map (·.target) ≠ some h) : WithdrawStep h r x r x
  | dropped (ho : r.offer.map (·.target) = some h) (hs : r.state ≠ .offered) :
      WithdrawStep h r x { r with offer := none, offerTimer := .stopped } x
  | declined (ho : r.offer.map (·.target) = some h) (hs : r.state = .offered) (r' : Session) (x' : LineUnit)
      (hc : r'.state ≠ .connected) (hh : r'.state ≠ .held) (hoff : r'.offer.map (·.target) ≠ some h) : WithdrawStep h r x r' x'

theorem Declined.apart {n : LineNo} (hd : Declined n s t) : (t.ses n).state ≠ .connected ∧ (t.ses n).state ≠ .held := by
  obtain ⟨hleft, hlast⟩ := hd.refused
  by_cases hl : min ((s.ses n).attempts + 1) 7 < s.params.signOnAttempts
  · rw [(hleft hl).1]
    exact ⟨by decide, by decide⟩
  · have := (hlast (Nat.not_lt.1 hl)).1
    constructor <;> intro hc <;> rw [hc] at this <;> cases this

theorem withdrawStep (n : LineNo) (hd : (t.host h).up = false) :
    WithdrawStep h (t.ses n) (t.unit n) ((t.withdrawLost n h).ses n) ((t.withdrawLost n h).unit n) := by
  by_cases ho : (t.ses n).offer.map (·.target) = some h
  · by_cases hs : (t.ses n).state = .offered
    · rw [withdrawLost_offered hs ho, declineSignOn_eq (no_reroute_down hd)]
      have hreturn : ∀ k tried, WithdrawStep h (t.ses n) (t.unit n) (((withdrawnWith t n k tried).returnToSignOn n).ses n)
          (((withdrawnWith t n k tried).returnToSignOn n).unit n) := fun k tried => by
        obtain ⟨hdec, hnone, -⟩ := withdrawn_declined t n k tried
        exact .declined ho hs _ _ (Declined.apart hdec).1 (Declined.apart hdec).2 (by rw [hnone]; simp)
      split
      · split
        · exact hreturn _ _
        · obtain ⟨hses, -, -⟩ := withdrawn_offered t n ((t.ses n).offerAttempts + 1) ((t.ses n).tried.add (otherHost h)) (otherHost h)
          rw [hses]
          exact .declined ho hs _ _ (by rw [show _ = LineState.offered from hs]; decide)
            (by rw [show _ = LineState.offered from hs]; decide) (by simpa using otherHost_ne h)
      · exact hreturn _ _
    · rw [withdrawLost_held hs ho, State.dropOffer, State.ses_modSes_self, State.unit_modSes]
      exact .dropped ho hs
  · rw [withdrawLost_passed ho]
    exact .passed ho

/-- A line through step 5. -/
inductive SoughtStep (h : Computer) (r : Session) (x : LineUnit) : Session → LineUnit → Prop where
  | passed : SoughtStep h r x r x
  | sought (hs : r.state = .held) (dec : HostSet) (toggle : Bool) (off : Option Offer) (ti : Timer)
      (hoff : off.map (·.target) ≠ some h) :
      SoughtStep h r x { r with declined := dec, toggle := toggle, offer := off, offerTimer := ti } x

theorem soughtStep (n : LineNo) (hd : (t.host h).up = false) : SoughtStep h (t.ses n) (t.unit n)
    ((if (t.ses n).state = .held then t.adoptionSearch n 2 else t).ses n)
    ((if (t.ses n).state = .held then t.adoptionSearch n 2 else t).unit n) := by
  split
  next hs =>
    cases ho : (t.ses n).offer with
    | some o =>
      rw [adoptionSearch_offered ho]
      exact .passed
    | none =>
      rw [adoptionSearch_eq ho (no_search_down hd)]
      split
      · split
        · rw [State.addDeclined, State.ses_modSes_self, State.unit_modSes]
          exact .sought hs _ _ _ _ (by rw [ho]; simp)
        · obtain ⟨hses, -, hun⟩ := postOffer_law t n (otherHost h) .adopt
          rw [hses, show (t.postOffer n (otherHost h) .adopt).unit n = _ from hun (.unit n) (by simp)]
          exact .sought hs _ _ _ _ (by simpa using otherHost_ne h)
      · exact .passed
  · exact .passed

/-! ### The whole of a link's going DOWN (R90) -/

theorem reaches_soughtLine (t : State) (n : LineNo) : reaches n t (if (t.ses n).state = .held then t.adoptionSearch n 2 else t) :=
  reaches.ite (fun _ => (reaches.refl n t).adoptionSearch 2) fun _ => .refl n t

theorem Lost.refl (hs : s.host h = ⟨false, .stopped⟩) : Lost h s s := ⟨hs, rfl, rfl, fun _ => ⟨rfl, rfl⟩⟩

theorem lost_heldLines (hd : s.host h = ⟨false, .stopped⟩) : Lost h s (heldLines s h) ∧ ∀ n,
    HeldStep h s.params (s.ses n) (s.unit n) ((heldLines s h).ses n) ((heldLines s h).unit n) :=
  lines_done (fun t n => reaches_heldLine t n h) (Lost.refl hd) (fun t n ht => ht.held n) fun t n ht hses hunit => by
    rw [← ht.params, ← hses, ← hunit]
    exact heldStep t n h

theorem lost_withdrawnLines (hd : s.host h = ⟨false, .stopped⟩) : Lost h s (withdrawnLines s h) ∧ ∀ n,
    WithdrawStep h (s.ses n) (s.unit n) ((withdrawnLines s h).ses n) ((withdrawnLines s h).unit n) :=
  lines_done (fun t n => (reaches.refl n t).withdrawLost h) (Lost.refl hd) (fun t n ht => ht.withdrawn n)
    fun t n ht hses hunit => by
      have := withdrawStep (h := h) n ht.down
      rwa [hses, hunit] at this

theorem lost_soughtLines (hd : s.host h = ⟨false, .stopped⟩) : Lost h s (soughtLines s) ∧ ∀ n,
    SoughtStep h (s.ses n) (s.unit n) ((soughtLines s).ses n) ((soughtLines s).unit n) :=
  lines_done (fun t n => reaches_soughtLine t n) (Lost.refl hd) (fun t n ht => ht.sought n)
    fun t n ht hses hunit => by
      rw [← hses, ← hunit]
      exact soughtStep n ht.down

theorem downed_law (v : State) (h : Computer) : (downed v h).host h = ⟨false, .stopped⟩ ∧
    (downed v h).port h.link = { v.port h.link with notices := [], lost := false, cursor := none } ∧
    unchangedBut [.host h, .port h.link] v (downed v h) := by
  refine ⟨?_, ?_, ?_⟩
  · rw [downed, State.host_modPort, State.host_modHost_self]
  · rw [downed, State.port_modPort_self, State.port_modHost]
  · exact (unchangedBut_modHost _ v (by simp)).trans (unchangedBut_modPort _ _ (by simp))

/-- The part with its lost host's lines HELD and its offers withdrawn, HOST_DOWN posted. -/
def informed (v : State) (h : Computer) : State :=
  (withdrawnLines (heldLines (downed v h) h) h).postNotice .acct (.hostDown h)

theorem acct_ne (h : Computer) : Link.acct ≠ h.link := by cases h <;> decide

theorem informed_law (v : State) (h : Computer) : (informed v h).host h = ⟨false, .stopped⟩ ∧
    (informed v h).params = v.params ∧
    (informed v h).port h.link = { v.port h.link with notices := [], lost := false, cursor := none } ∧
    (v.service ≠ .draining → (informed v h).service = v.service ∧
      (informed v h).portAcct = (v.postNotice .acct (.hostDown h)).portAcct) ∧
    ∀ n, ∃ r x, HeldStep h v.params (v.ses n) (v.unit n) r x ∧
      WithdrawStep h r x ((informed v h).ses n) ((informed v h).unit n) := by
  obtain ⟨hdhost, hdport, hdun⟩ := downed_law v h
  obtain ⟨hheld, hhsteps⟩ := lost_heldLines hdhost
  obtain ⟨hwith, hwsteps⟩ := lost_withdrawnLines hheld.host
  have hdpar : (downed v h).params = v.params := hdun .params (by simp)
  unfold informed
  refine ⟨?_, ?_, ?_, fun hserv => ?_, fun n => ?_⟩
  · rw [State.host_postNotice, hwith.host]
  · rw [State.params_postNotice, hwith.params, hheld.params, hdpar]
  · rw [State.port_postNotice_ne _ _ _ _ (acct_ne h).symm, hwith.port, hheld.port, hdport]
  · have hdserv : (downed v h).service = v.service := hdun .service (by simp)
    obtain ⟨h1, h2⟩ := hheld.acct (by rwa [hdserv])
    obtain ⟨h3, h4⟩ := hwith.acct (by rwa [h1, hdserv])
    have hdacct : (downed v h).portAcct = v.portAcct := hdun (.port .acct) (by simpa using acct_ne h)
    exact ⟨by rw [State.service_postNotice, h3, h1, hdserv],
      portAcct_postNotice_congr (h4.trans (h2.trans hdacct)) _⟩
  · rw [State.ses_postNotice, State.unit_postNotice]
    refine ⟨_, _, ?_, hwsteps n⟩
    have := hhsteps n
    rwa [hdpar, ses_downed, show (downed v h).unit n = _ from hdun (.unit n) (by simp)] at this

/-- What a link's going DOWN leaves of its host, its port, the accounting link and each line (R90). -/
theorem linkDown_law (v : State) (h : Computer) : (v.linkDown h).host h = ⟨false, .stopped⟩ ∧
    (v.linkDown h).port h.link = { v.port h.link with notices := [], lost := false, cursor := none } ∧
    (v.service ≠ .draining → (v.linkDown h).portAcct = (v.postNotice .acct (.hostDown h)).portAcct) ∧
    ∀ n, ∃ r x r' x', HeldStep h v.params (v.ses n) (v.unit n) r x ∧ WithdrawStep h r x r' x' ∧
      SoughtStep h r' x' ((v.linkDown h).ses n) ((v.linkDown h).unit n) := by
  obtain ⟨hhost, hpar, hport, hacct, hsteps⟩ := informed_law v h
  obtain ⟨hsought, hssteps⟩ := lost_soughtLines hhost
  have heq : v.linkDown h = soughtLines (informed v h) := linkDown_eq v h
  rw [heq]
  refine ⟨hsought.host, hsought.port.trans hport, fun hserv => ?_, fun n => ?_⟩
  · obtain ⟨h1, h2⟩ := hacct hserv
    exact (hsought.acct (by rwa [h1])).2.trans h2
  · obtain ⟨r, x, h1, h2⟩ := hsteps n
    exact ⟨r, x, _, _, h1, h2, hssteps n⟩

theorem linkDown_keep (v : State) (h : Computer) {p : Part} (hp : ∀ n, p ∉ lineParts n) (hh : p ≠ .host h) :
    p.same v (v.linkDown h) := by
  obtain ⟨-, -, hdun⟩ := downed_law v h
  have hport : ∀ k, p ≠ .port k := by
    rintro k rfl
    exact hp 0 (by cases k <;> simp [lineParts])
  rw [linkDown_eq]
  refine Part.same_trans (hdun p (by simp [hh, hport])) (Part.same_trans (lines_keep (fun t n => reaches_heldLine t n h) hp)
    (Part.same_trans (lines_keep (fun t n => (reaches.refl n t).withdrawLost h) hp)
      (Part.same_trans (unchanged_postNotice (ps := [.port .acct]) _ _ _ (by simp) p (by simp [hport]))
        (lines_keep (fun t n => reaches_soughtLine t n) hp))))

/-! ### The commands that take a link DOWN (R88, R89) -/

/-- A command that takes a link DOWN: the state that it goes DOWN in, and what follows. -/
structure LossPoised (i : Instr) (h : Computer) (s v : State) (finish : State → State) : Prop where
  exec : exec i s = .next (finish (v.linkDown h))
  before : unchangedBut [.port h.link, .host h] s v
  mask : (v.port h.link).mask = (s.port h.link).mask
  after : ∀ u, unchangedBut [.port h.link] u (finish u)
  port : ∀ u, ∃ r, (finish u).port h.link = { u.port h.link with reply := r } ∧
    ((u.port h.link).reply = (v.port h.link).reply →
      r = if i = .silenceTimerExpiry h then (s.port h.link).reply else ⟨.ok, 0⟩)

theorem exec_detach (hk : k.host? = some h) (hl : listens s k) :
    exec (.detach k) s = .next (((s.heard k).linkDown h).setReply k ⟨.ok, 0⟩) := by
  show execDetach k s = _
  unfold execDetach
  rw [State.hostOrder_listens s k h hl hk]
  simp only [replyOf]

theorem exec_silence {ms : Nat} (ht : (s.host h).silence = .running ms) :
    exec (.silenceTimerExpiry h) s = .next (s.linkDown h) := by
  show execSilenceTimerExpiry h s = _
  unfold execSilenceTimerExpiry
  rw [ht]
  rfl

theorem loss_poised (hi : takesDown s h i) : ∃ v finish, LossPoised i h s v finish := by
  cases i with
  | detach k =>
    simp only [takesDown] at hi
    obtain ⟨hk, hl⟩ := hi
    obtain rfl := link_of_host hk
    refine ⟨s.heard h.link, fun u => u.setReply h.link ⟨.ok, 0⟩, exec_detach hk hl, ?_, ?_,
      fun u => unchangedBut_setReply _ _ _ (by simp), fun u => ⟨⟨.ok, 0⟩, port_setReply_self .., fun _ => ?_⟩⟩
    · exact unchangedBut_heard _ s (by simp [frameParts, hk])
    · rw [State.port_heard_self]
      rfl
    · rw [if_neg (by simp)]
  | silenceTimerExpiry g =>
    simp only [takesDown] at hi
    obtain ⟨rfl, ms, ht⟩ := hi
    refine ⟨s, fun u => u, exec_silence ht, unchangedBut_refl _ s, rfl,
      fun u => unchangedBut_refl _ u, fun u => ⟨_, rfl, fun hu => ?_⟩⟩
    rw [if_pos rfl]
    exact hu
  | _ => exact absurd hi (by simp [takesDown])

/-! ### What becomes of each line -/

section
variable {p : Params} {r r1 r2 r3 : Session} {x x1 x2 x3 : LineUnit}
  (h1 : HeldStep h p r x r1 x1) (h2 : WithdrawStep h r1 x1 r2 x2) (h3 : SoughtStep h r2 x2 r3 x3)
include h1 h2 h3

/-- No line is CONNECTED to the lost host, and none has an offer there. -/
theorem steps_leave : (r3.state = .connected → r3.owner ≠ some h) ∧ r3.offer.map (·.target) ≠ some h := by
  have hown : r1.state = .connected → r1.owner ≠ some h := by
    cases h1 with
    | passed ho =>
      intro hc hw
      rw [Bool.eq_false_iff] at ho
      exact ho ((ownedBy_iff _ _).2 ⟨hc, hw⟩)
    | held ho hp => exact fun hc => nomatch (show LineState.held = .connected from hc)
    | cleared ho hp _ _ ha hoff =>
      intro hc
      rw [hc] at ha
      cases ha
  have htwo : (r2.state = .connected → r2.owner ≠ some h) ∧ r2.offer.map (·.target) ≠ some h := by
    cases h2 with
    | passed ho => exact ⟨hown, ho⟩
    | dropped ho hs => exact ⟨hown, by simp⟩
    | declined ho hs _ _ hc hh hoff => exact ⟨fun hcon => absurd hcon hc, hoff⟩
  cases h3 with
  | passed => exact htwo
  | sought hs dec toggle off ti hoff => exact ⟨htwo.1, hoff⟩

/-- A line that has nothing to do with the lost host stays as it was, unless it is HELD. -/
theorem steps_pass (hs : r.state ≠ .held) (ho : r.ownedBy h = false) (hoff : r.offer.map (·.target) ≠ some h) :
    r3 = r ∧ x3 = x := by
  cases h1 with
  | held ho' => rw [ho] at ho'; cases ho'
  | cleared ho' => rw [ho] at ho'; cases ho'
  | passed =>
    cases h2 with
    | dropped ho' => exact absurd ho' hoff
    | declined ho' => exact absurd ho' hoff
    | passed =>
      cases h3 with
      | passed => exact ⟨rfl, rfl⟩
      | sought hs' => exact absurd hs' hs

/-- A line whose owner is lost is HELD, whatever is offered next. -/
theorem steps_hold (ho : r.ownedBy h = true) (hp : p.holdLimit ≠ 0) : ∃ dec toggle off ti, r3 =
    { heldRecord r h p with declined := dec, toggle := toggle, offer := off, offerTimer := ti } := by
  obtain rfl : r1 = heldRecord r h p := by
    cases h1 with
    | passed ho' => rw [ho] at ho'; cases ho'
    | held => rfl
    | cleared _ hp' => exact absurd hp' hp
  have hheld : (heldRecord r h p).state = .held := rfl
  obtain ⟨off, ti, rfl⟩ : ∃ off ti, r2 = { heldRecord r h p with offer := off, offerTimer := ti } := by
    cases h2 with
    | passed => exact ⟨_, _, rfl⟩
    | dropped => exact ⟨_, _, rfl⟩
    | declined _ hs => rw [hheld] at hs; cases hs
  cases h3 with
  | passed => exact ⟨_, _, _, _, rfl⟩
  | sought => exact ⟨_, _, _, _, rfl⟩

end

/-- Settles O48: the three passes of the loss, as the link, the accounting link and each line see them. -/
theorem hostGoesDown : Obligations.HostGoesDown := by
  intro i h s hi
  obtain ⟨v, finish, hexec, hbefore, hmask, hafter, hreply⟩ := loss_poised hi
  obtain ⟨hhost, hport, hacct, hsteps⟩ := linkDown_law v h
  have hpar : v.params = s.params := hbefore .params (by simp)
  have hses : ∀ n, (finish (v.linkDown h)).ses n = (v.linkDown h).ses n := fun n => hafter _ (.session n) (by simp)
  have hunit : ∀ n, (finish (v.linkDown h)).unit n = (v.linkDown h).unit n := fun n => hafter _ (.unit n) (by simp)
  have hvses : ∀ n, v.ses n = s.ses n := fun n => hbefore (.session n) (by simp)
  have hvunit : ∀ n, v.unit n = s.unit n := fun n => hbefore (.unit n) (by simp)
  have hkeep : ∀ {p : Part}, (∀ n, p ∉ lineParts n) → p ≠ .host h → p.same s (finish (v.linkDown h)) := fun {p} hp hh => by
    have hports : p ≠ .port h.link := by
      rintro rfl
      exact hp 0 (by cases h <;> simp [lineParts, Computer.link])
    exact Part.same_trans (hbefore p (by simp [hports, hh])) (Part.same_trans (linkDown_keep v h hp hh)
      (hafter _ p (by simp [hports])))
  obtain ⟨r, hfport, hr⟩ := hreply (v.linkDown h)
  rw [hport] at hfport
  have hfr := hr (by rw [hport])
  refine ⟨finish (v.linkDown h), hexec, ?_, ?_, ?_, ?_, ?_, ?_, fun n hc ho => ?_, fun n o ho ht => ?_, fun n hc ho hp => ?_,
    fun n hs hno hoff => ?_, fun hserv => ?_, hkeep (p := .clock) (by simp [lineParts]) (by simp),
    hkeep (p := .tariff) (by simp [lineParts]) (by simp), hkeep (p := .messages) (by simp [lineParts]) (by simp),
    hkeep (p := .params) (by simp [lineParts]) (by simp)⟩
  · rw [show (finish (v.linkDown h)).host h = _ from hafter _ (.host h) (by simp), hhost]
  · rw [hfport]
  · rw [hfport]
  · rw [hfport]
  · rw [hfport]
    exact hmask
  · rw [hfport]
    exact hfr
  · obtain ⟨r1, x1, r2, x2, h1, h2, h3⟩ := hsteps n
    rw [hses] at hc ho
    exact (steps_leave h1 h2 h3).1 hc ho
  · obtain ⟨r1, x1, r2, x2, h1, h2, h3⟩ := hsteps n
    rw [hses] at ho
    exact (steps_leave h1 h2 h3).2 (by rw [ho, ← ht]; rfl)
  · obtain ⟨r1, x1, r2, x2, h1, h2, h3⟩ := hsteps n
    rw [hvses, hpar] at h1
    obtain ⟨dec, toggle, off, ti, heq⟩ := steps_hold h1 h2 h3 ((ownedBy_iff _ _).2 ⟨hc, ho⟩) hp
    rw [hses, heq]
    refine ⟨rfl, rfl, rfl, rfl, ?_, rfl, rfl, rfl, rfl, rfl, rfl, rfl, rfl⟩
    show Timer.start (s.params.holdLimit * 60000) = _
    simp [Timer.start, hp]
  · obtain ⟨r1, x1, r2, x2, h1, h2, h3⟩ := hsteps n
    rw [hvses, hvunit] at h1
    obtain ⟨hr3, hx3⟩ := steps_pass h1 h2 h3 hs (RelayBuffers.not_ownedBy hno) (fun hmap => by
      obtain ⟨⟨g, kind⟩, ho, rfl⟩ := Option.map_eq_some_iff.1 hmap
      exact hoff kind ho)
    rw [hses, hunit, hr3, hx3]
    exact ⟨rfl, rfl⟩
  · have hvacct : v.portAcct = s.portAcct := hbefore (.port .acct) (by simpa using acct_ne h)
    have hfacct : (finish (v.linkDown h)).portAcct = (v.linkDown h).portAcct := hafter _ (.port .acct) (by simpa using acct_ne h)
    rw [hfacct, hacct (by rwa [show v.service = _ from hbefore .service (by simp)]), portAcct_postNotice_congr hvacct]

end Sys2Proof.LinksLost
end

section
/-! PROOFS. What the clear of a session leaves in the Charge Record Queue, and of what an account permits. -/

namespace Sys2Proof.SessionsClosed

open Sys2Proof.Machine Sys2Proof.Stations Sys2Proof.Clears Sys2Proof.Keeping
open Sys2Proof.ClearRequests Sys2Proof.ClearOrders Sys2Proof.OffersMade

variable {s t u v w : State} {n m : LineNo} {c : Cause} {was : LineState}

/-! ### Charge records (R8, R149) -/

/-- A record that a session's closing leaves, as its line's record stood. -/
structure RecordOf (r : Session) (was : LineState) (n : LineNo) (c : Cause) (x : ChargeRecord) : Prop where
  line : x.line = n
  cause : x.cause = c
  lastHost : x.lastHost = if was = .connected then r.owner else r.prevOwner
  account : x.account = r.account
  bandSecs : x.bandSecs = r.bandSecs
  fee : x.fee = r.fee

theorem closeSession_record (s : State) (n : LineNo) (was : LineState) (c : Cause) :
    ∃ x, (s.closeSession n was c).records = s.records ++ [x] ∧ RecordOf (s.ses n) was n c x := by
  obtain ⟨d, o, hses⟩ := s.ses_unitDebit n
  have hround : ∃ d o, (s.endRounding n).ses n = { s.ses n with f := 0, debited := d, overdraft := o } := by
    unfold State.endRounding
    dsimp only
    split
    · exact ⟨d, o, by rw [State.ses_modSes_self, hses]⟩
    · exact ⟨_, _, State.ses_modSes_self ..⟩
  obtain ⟨d, o, hr⟩ := hround
  have hrecs : (s.endRounding n).records = s.records := by unfold State.endRounding; dsimp only; split <;> simp
  refine ⟨(s.endRounding n).buildRecord n was c, ?_, ?_⟩
  · have hlast : (s.closeSession n was c).records =
        ((s.endRounding n).queueRecord ((s.endRounding n).buildRecord n was c)).records := by
      unfold State.closeSession State.notifyCleared State.resetBilling
      dsimp only
      split <;> simp
    rw [hlast, State.records_queueRecord, hrecs]
  · unfold State.buildRecord
    rw [hr]
    exact ⟨rfl, rfl, rfl, rfl, rfl, rfl⟩

/-- A session cleared leaves one record (R8). -/
theorem enterClearing_record (hs : (t.ses n).state = .connected ∨ (t.ses n).state = .held) (c : Cause) :
    ∃ x, (t.enterClearing n c).records = t.records ++ [x] ∧ RecordOf (t.ses n) (t.ses n).state n c x := by
  obtain ⟨x, hrec, hx⟩ := closeSession_record (t.takeClear n c) n (t.ses n).state c
  have htake : (t.takeClear n c).records = t.records := takeClear_keeps t n c .records (by simp)
  have hw : ∀ x : State, (x.withdrawOffer n (t.ses n).state c).records = x.records := fun x => by
    cases ho : (x.ses n).offer with
    | none => rw [State.withdrawOffer, ho]
    | some o => exact (withdrawOffer_books (e := Account.fresh 0) ho c).2.1
  have hbefore : (t.beforeDrain n c).records = ((t.takeClear n c).closeSession n (t.ses n).state c).records := by
    unfold State.beforeDrain
    dsimp only
    rw [show ∀ x : State, (x.finalMessage n c).records = x.records from fun x => finalMessage_keeps x n c .records (by simp),
      if_pos hs, hw]
  refine ⟨x, ?_, ?_⟩
  · rw [State.enterClearing_eq, show (State.startDrain _ n c).records = _ from rest_startDrain _ n c .records (by simp [restParts]),
      hbefore, hrec, htake]
  · rw [State.ses_takeClear] at hx
    exact ⟨hx.line, hx.cause, hx.lastHost, hx.account, hx.bandSecs, hx.fee⟩

/-- A line with no session to close leaves none. -/
theorem enterClearing_unrecorded (hs : ¬((t.ses n).state = .connected ∨ (t.ses n).state = .held)) (c : Cause) :
    (t.enterClearing n c).records = t.records := by
  have htake : (t.takeClear n c).records = t.records := takeClear_keeps t n c .records (by simp)
  have hw : ∀ x : State, (x.withdrawOffer n (t.ses n).state c).records = x.records := fun x => by
    cases ho : (x.ses n).offer with
    | none => rw [State.withdrawOffer, ho]
    | some o => exact (withdrawOffer_books (e := Account.fresh 0) ho c).2.1
  have hbefore : (t.beforeDrain n c).records = t.records := by
    unfold State.beforeDrain
    dsimp only
    rw [show ∀ x : State, (x.finalMessage n c).records = x.records from fun x => finalMessage_keeps x n c .records (by simp),
      if_neg hs, hw, htake]
  rw [State.enterClearing_eq, show (State.startDrain _ n c).records = _ from rest_startDrain _ n c .records (by simp [restParts]),
    hbefore]

/-! ### What an account permits -/

/-- The Account Table changed in no number and in no hosts permitted. -/
def SameHosts (s t : State) : Prop :=
  ∃ f : Account → Account, t.accounts = s.accounts.map f ∧ ∀ e, (f e).number = e.number ∧ (f e).hosts = e.hosts

theorem SameHosts.of_eq (h : t.accounts = s.accounts) : SameHosts s t := ⟨id, by simp [h], fun _ => ⟨rfl, rfl⟩⟩

theorem SameHosts.trans (h : SameHosts s t) (h' : SameHosts t u) : SameHosts s u := by
  obtain ⟨f, hf, hfs⟩ := h
  obtain ⟨g, hg, hgs⟩ := h'
  refine ⟨g ∘ f, by rw [hg, hf, List.map_map], fun e => ?_⟩
  exact ⟨(hgs (f e)).1.trans (hfs e).1, (hgs (f e)).2.trans (hfs e).2⟩

theorem SameHosts.modAccountOf (s : State) (n : LineNo) {f : Account → Account}
    (hf : ∀ e, (f e).number = e.number ∧ (f e).hosts = e.hosts) : SameHosts s (s.modAccountOf n f) := by
  unfold State.modAccountOf
  split
  next a ha =>
    refine ⟨fun e => if e.number == a then f e else e, rfl, fun e => ?_⟩
    dsimp only
    split
    · exact hf e
    · exact ⟨rfl, rfl⟩
  · exact .of_eq rfl

theorem SameHosts.permits (h : SameHosts s t) (hn : (t.ses n).account = (s.ses n).account) (g : Computer) :
    t.permitsHost n g = s.permitsHost n g := by
  obtain ⟨f, hacc, hf⟩ := h
  have hfind : ∀ a, t.account? a = (s.account? a).map f := fun a => by
    unfold State.account?
    rw [hacc, List.find?_map]
    refine congrArg _ (List.find?_congr fun e _ => ?_)
    show ((f e).number == a) = (e.number == a)
    rw [(hf e).1]
  unfold State.permitsHost State.accountOf
  rw [hn]
  cases (s.ses n).account with
  | none => rfl
  | some a =>
    simp only [Option.bind_some, hfind]
    cases s.account? a with
    | none => rfl
    | some e => exact congrFun (congrArg HostSet.has (hf e).2) g

theorem SameHosts.releaseAdmission (s : State) (n : LineNo) : SameHosts s (s.releaseAdmission n) :=
  SameHosts.modAccountOf { s with reservations := s.reservations - 1 } n fun _ => ⟨rfl, rfl⟩

theorem SameHosts.unitDebit (s : State) (n : LineNo) : SameHosts s (s.unitDebit n).1 := by
  unfold State.unitDebit
  split
  · split
    · exact (SameHosts.modAccountOf s n (f := fun e => { e with balance := e.balance - 1 }) fun _ => ⟨rfl, rfl⟩).trans (.of_eq (State.accounts_modSes ..))
    · exact .of_eq (State.accounts_modSes ..)
  · exact .of_eq rfl

theorem SameHosts.closeSession (s : State) (n : LineNo) (was : LineState) (c : Cause) :
    SameHosts s (s.closeSession n was c) := by
  have hround : SameHosts s (s.endRounding n) := by
    unfold State.endRounding
    dsimp only
    split
    · exact (SameHosts.unitDebit s n).trans (.of_eq (State.accounts_modSes ..))
    · exact .of_eq (State.accounts_modSes ..)
  have hqueue : SameHosts (s.endRounding n) ((s.endRounding n).queueRecord ((s.endRounding n).buildRecord n was c)) :=
    .of_eq (State.accounts_queueRecord ..)
  refine (hround.trans (hqueue.trans (SameHosts.modAccountOf _ n (f := fun e => { e with active := e.active - 1 })
    fun _ => ⟨rfl, rfl⟩))).trans (.of_eq ?_)
  · show (State.resetBilling _ n).accounts = _
    rw [State.resetBilling, State.accounts_modSes, (notifyCleared_books _ n was c).1]

theorem SameHosts.withdrawOffer (s : State) (n : LineNo) (was : LineState) (c : Cause) :
    SameHosts s (s.withdrawOffer n was c) := by
  unfold State.withdrawOffer State.dropOffer
  split
  · dsimp only
    have hrelease : ∀ x : State, x.accounts = s.accounts → SameHosts s (if was = .offered then x.releaseAdmission n else x) :=
      fun x hx => by
        split
        · exact (SameHosts.of_eq hx).trans (SameHosts.releaseAdmission x n)
        · exact .of_eq hx
    apply hrelease
    split <;> simp
  · exact .of_eq rfl

theorem SameHosts.enterClearing (s : State) (n : LineNo) (c : Cause) : SameHosts s (s.enterClearing n c) := by
  have htake : SameHosts s (s.takeClear n c) := .of_eq (takeClear_keeps s n c .accounts (by simp))
  have hclosed : SameHosts s (if (s.ses n).state = .connected ∨ (s.ses n).state = .held then
      (s.takeClear n c).closeSession n (s.ses n).state c else s.takeClear n c) := by
    split
    · exact htake.trans (SameHosts.closeSession ..)
    · exact htake
  rw [State.enterClearing_eq]
  refine .trans (hclosed.trans (SameHosts.withdrawOffer _ n (s.ses n).state c)) (.of_eq ?_)
  rw [show (State.startDrain _ n c).accounts = _ from rest_startDrain _ n c .accounts (by simp [restParts])]
  exact finalMessage_keeps _ n c .accounts (by simp)

theorem SameHosts.returnToSignOn (s : State) (n : LineNo) : SameHosts s (s.returnToSignOn n) := by
  have hrest : unchangedBut (restParts n) (returned s n) (s.returnToSignOn n) :=
    rest_refuse 8 (by rw [returned_ses]; rfl)
  refine ((SameHosts.releaseAdmission s n).trans (.of_eq ?_)).trans (.of_eq (hrest .accounts (by simp [restParts])))
  rw [returned, State.accounts_modSes]

end Sys2Proof.SessionsClosed
end

section
/-! PROOFS. The sessions of a lost host: what moves to the other host, in which order, and what returns or is cleared. -/

namespace Sys2Proof.SessionsMoved

open Sys2Proof.Machine Sys2Proof.Stations Sys2Proof.Clears Sys2Proof.Keeping
open Sys2Proof.LineControl Sys2Proof.ClearRequests Sys2Proof.ClearOrders
open Sys2Proof.OffersMade Sys2Proof.OffersAnswered Sys2Proof.OffersDeclined Sys2Proof.LinksUp Sys2Proof.LinksLost
open Sys2Proof.SessionsClosed

variable {s t u v w d t1 : State} {n : LineNo} {h : Computer} {i : Instr} {done : List LineNo}

/-! ### A queue filled as far as it has room (R79) -/

/-- A notice queue of 32 places, with what was posted at its back as far as it has room. -/
def queued (q l : List Notice) : List Notice := q ++ l.take (32 - q.length)

theorem length_queued (q l : List Notice) : (queued q l).length = q.length + min (32 - q.length) l.length := by
  rw [queued, List.length_append, List.length_take]

theorem queued_full {q l : List Notice} (hf : 32 ≤ (queued q l).length) (x : Notice) : queued q (l ++ [x]) = queued q l := by
  rw [length_queued] at hf
  rw [queued, queued, List.take_append_of_le_length (by omega)]

theorem queued_room {q l : List Notice} (hr : (queued q l).length < 32) (x : Notice) :
    queued q (l ++ [x]) = queued q l ++ [x] := by
  rw [length_queued] at hr
  rw [queued, queued, List.take_of_length_le (by simp; omega), List.take_of_length_le (by omega), List.append_assoc]

theorem queued_nil (q : List Notice) : queued q [] = q := by simp [queued]

/-! ### What stands while the lines are dealt with -/

/-- What stands of a lost host, of the other host and of what the accounts permit. -/
structure Moving (h : Computer) (d t : State) : Prop where
  lost : Lost h d t
  hosts : SameHosts d t
  other : t.host (otherHost h) = d.host (otherHost h)

theorem Moving.refl (hd : d.host h = ⟨false, .stopped⟩) : Moving h d d := ⟨Lost.refl hd, .of_eq rfl, rfl⟩

theorem sameHosts_heldEntry (t : State) (n : LineNo) (h : Computer) : SameHosts t (t.heldEntry n h) := by
  rw [heldEntry_eq]
  have hheld : SameHosts t (t.modSes n fun r => heldRecord r h t.params) := .of_eq (State.accounts_modSes ..)
  split
  · exact hheld.trans (SameHosts.enterClearing ..)
  · exact hheld

theorem sameHosts_postOffer (t : State) (n : LineNo) (g : Computer) (kind : OfferKind) : SameHosts t (t.postOffer n g kind) :=
  .of_eq ((postOffer_law t n g kind).2.2 .accounts (by simp))

theorem sameHosts_withdrawnWith (t : State) (n : LineNo) (k : Nat) (tried : HostSet) : SameHosts t (withdrawnWith t n k tried) :=
  .of_eq ((withdrawnWith_law t n k tried).2 .accounts (by simp))

theorem sameHosts_withdrawLost (n : LineNo) (hd : (t.host h).up = false) : SameHosts t (t.withdrawLost n h) := by
  by_cases ho : (t.ses n).offer.map (·.target) = some h
  · by_cases hs : (t.ses n).state = .offered
    · rw [withdrawLost_offered hs ho, declineSignOn_eq (no_reroute_down hd)]
      split
      · split
        · exact (sameHosts_withdrawnWith ..).trans (SameHosts.returnToSignOn ..)
        · exact (sameHosts_withdrawnWith ..).trans (sameHosts_postOffer ..)
      · exact (sameHosts_withdrawnWith ..).trans (SameHosts.returnToSignOn ..)
    · rw [withdrawLost_held hs ho]
      exact .of_eq (State.accounts_modSes ..)
  · rw [withdrawLost_passed ho]
    exact .of_eq rfl

theorem Moving.held (ht : Moving h d t) (n : LineNo) : Moving h d (if (t.ses n).ownedBy h then t.heldEntry n h else t) where
  lost := ht.lost.held n
  hosts := ht.hosts.trans (by
    split
    · exact sameHosts_heldEntry t n h
    · exact .of_eq rfl)
  other := (reaches_host (reaches_heldLine t n h) _).trans ht.other

theorem Moving.withdrawn (ht : Moving h d t) (n : LineNo) : Moving h d (t.withdrawLost n h) where
  lost := ht.lost.withdrawn n
  hosts := ht.hosts.trans (sameHosts_withdrawLost n ht.lost.down)
  other := (reaches_host ((reaches.refl n t).withdrawLost h) _).trans ht.other

/-! ### Step 2: the lost host's own lines (R91) -/

/-- The record of a line cleared because its host was lost with a hold limit of 0. -/
def clearedLost (h : Computer) (r : Session) (x : LineUnit) (r' : Session) : Prop :=
  r'.state.active = false ∧ (r'.state = .clearing → r'.cause = some .hostLost ∧ r'.prevOwner = some h ∧ r'.owner = none ∧
    (r'.phase = .drain → r'.feed =
      if x.car then requested (requested r.feed 13) 14 else requested r.feed 13))

theorem enterClearing_lost (t : State) (n : LineNo) (h : Computer) :
    clearedLost h (t.ses n) (t.unit n)
      (((t.modSes n fun r => heldRecord r h t.params).enterClearing n .hostLost).ses n) := by
  set held := t.modSes n fun r => heldRecord r h t.params with hheld
  have hhses : held.ses n = heldRecord (t.ses n) h t.params := State.ses_modSes_self ..
  have hhunit : held.unit n = t.unit n := State.unit_modSes ..
  obtain ⟨f, bs, hsec, d, o', fe, st, wd, cur, ot, hbses, -, -⟩ := held.beforeDrain_ses n .hostLost
  have hcl := startDrain_cleared (held.beforeDrain n .hostLost) n .hostLost
  rw [← State.enterClearing_eq] at hcl
  obtain ⟨hact, -, hcause⟩ := hcl.fields (by rw [hbses])
  have hfeed : ((held.beforeDrain n .hostLost).ses n).feed =
      if (t.unit n).car then requested (requested (t.ses n).feed 13) 14 else requested (t.ses n).feed 13 := by
    rw [hbses, hhses, hhunit]
    rfl
  have hprev : ((held.beforeDrain n .hostLost).ses n).prevOwner = some h := by rw [hbses, hhses]; rfl
  have howner : ((held.beforeDrain n .hostLost).ses n).owner = none := by rw [hbses, hhses]; rfl
  have hc : ((held.beforeDrain n .hostLost).ses n).cause = some .hostLost := by rw [hbses]
  have hst : ((held.beforeDrain n .hostLost).ses n).state = .clearing := by rw [hbses]
  refine ⟨hact, fun hclear => ⟨(hcause hclear).1.trans hc, ?_⟩⟩
  revert hclear hfeed hprev howner hst hcl
  generalize (held.beforeDrain n .hostLost).ses n = r
  generalize (held.beforeDrain n .hostLost).unit n = x
  generalize (held.enterClearing n .hostLost).ses n = r'
  generalize (held.enterClearing n .hostLost).unit n = x'
  intro hcl hfeed hprev howner hst hclear
  cases hcl with
  | drains cur hl =>
    refine ⟨hprev, howner, fun _ => ?_⟩
    have hrate : r.rate ≠ none := by
      intro hr
      simp [leftTx, leftFeed, hr] at hl
    refine .trans ?_ hfeed
    show leftFeed r .hostLost = r.feed
    rw [leftFeed, if_neg (by simp [State.hangsUpAtOnce, hrate])]
  | guards => exact ⟨hprev, howner, fun hp => nomatch (show ClearPhase.guard = .drain from hp)⟩
  | rests =>
    have hat := atRest_fields r
    rw [hclear] at hat
    simp at hat

/-- The other host's link hears nothing of a line lost. -/
theorem port_heldEntry_other (t : State) (n : LineNo) (h : Computer) (ho : (t.ses n).offer = none) :
    (t.heldEntry n h).port (otherHost h).link = t.port (otherHost h).link := by
  rw [heldEntry_eq]
  have hheld : (t.modSes n fun r => heldRecord r h t.params).port (otherHost h).link = t.port (otherHost h).link :=
    State.port_modSes ..
  split
  · rw [State.enterClearing_eq, show _ = _ from rest_startDrain _ n .hostLost (.port (otherHost h).link) (port_link_restParts _ n),
      beforeDrain_untold (by rw [State.ses_modSes_self]; exact fun hc => nomatch (show LineState.held = .connected from hc)) (by rw [State.ses_modSes_self]; exact ho), hheld]
  · exact hheld

/-- A line CONNECTED has no offer (R80). -/
def unoffered (t : State) : Prop := ∀ n, (t.ses n).state = .connected → (t.ses n).offer = none

/-- The state in which step 2 stands after some of the lines. -/
structure Holding (h : Computer) (d : State) (done : List LineNo) (t : State) : Prop where
  moving : Moving h d t
  todo : ∀ n, n ∉ done → t.ses n = d.ses n ∧ t.unit n = d.unit n
  lines : ∀ n ∈ done, HeldStep h d.params (d.ses n) (d.unit n) (t.ses n) (t.unit n) ∧
    ((d.ses n).ownedBy h = true → d.params.holdLimit = 0 → clearedLost h (d.ses n) (d.unit n) (t.ses n))
  port : t.port (otherHost h).link = d.port (otherHost h).link
  kept : d.params.holdLimit ≠ 0 → t.records = d.records ∧ t.serial = d.serial
  recorded : d.params.holdLimit = 0 → t.records.length = d.records.length + done.countP (fun n => (d.ses n).ownedBy h) ∧
    ∀ n ∈ done, (d.ses n).ownedBy h = true → ∃ x ∈ t.records, RecordOf (heldRecord (d.ses n) h d.params) .held n .hostLost x
  idle : (∀ n, (d.ses n).ownedBy h = false) → t = d

theorem Holding.step (hu : unoffered d) (hn : n ∉ done) (ht : Holding h d done t) :
    Holding h d (done ++ [n]) (if (t.ses n).ownedBy h then t.heldEntry n h else t) := by
  set u := if (t.ses n).ownedBy h then t.heldEntry n h else t with hudef
  obtain ⟨htn, hxn⟩ := ht.todo n hn
  have hpar : t.params = d.params := ht.moving.lost.params
  have hreach : reaches n t u := reaches_heldLine t n h
  have hown : (t.ses n).ownedBy h = (d.ses n).ownedBy h := by rw [htn]
  have hcleared : (d.ses n).ownedBy h = true → d.params.holdLimit = 0 →
      u = (t.modSes n fun r => heldRecord r h t.params).enterClearing n .hostLost := fun ho hp => by
    rw [hudef, hown, if_pos ho, heldEntry_eq, hpar, if_pos hp]
  have hheld : (d.ses n).ownedBy h = true → d.params.holdLimit ≠ 0 → u = t.modSes n fun r => heldRecord r h t.params :=
    fun ho hp => by rw [hudef, hown, if_pos ho, heldEntry_eq, hpar, if_neg hp]
  have hpassed : (d.ses n).ownedBy h = false → u = t := fun ho => by rw [hudef, hown, ho]; rfl
  refine ⟨ht.moving.held n, fun m hm => ?_, fun m hm => ?_, ?_, fun hp => ?_, fun hp => ?_, fun hall => ?_⟩
  · rw [List.mem_append, List.mem_singleton, not_or] at hm
    rw [reaches_ses_ne hreach hm.2, reaches_unit_ne hreach hm.2]
    exact ht.todo m hm.1
  · by_cases hmn : m = n
    · subst hmn
      refine ⟨?_, fun ho hp => ?_⟩
      · rw [← hpar, ← htn, ← hxn]
        exact heldStep t m h
      · rw [hcleared ho hp, ← htn, ← hxn]
        exact enterClearing_lost t m h
    · rw [reaches_ses_ne hreach hmn, reaches_unit_ne hreach hmn]
      exact ht.lines m (by simpa [hmn] using hm)
  · cases ho : (d.ses n).ownedBy h with
    | false => rw [hpassed ho, ht.port]
    | true =>
      rw [hudef, hown, if_pos ho, port_heldEntry_other, ht.port]
      rw [htn]
      exact hu n ((ownedBy_iff _ _).1 ho).1
  · cases ho : (d.ses n).ownedBy h with
    | false => rw [hpassed ho]; exact ht.kept hp
    | true =>
      rw [hheld ho hp, State.records_modSes, State.serial_modSes]
      exact ht.kept hp
  · obtain ⟨hlen, hrec⟩ := ht.recorded hp
    cases ho : (d.ses n).ownedBy h with
    | false =>
      rw [hpassed ho]
      refine ⟨by simp [List.countP_append, ho, hlen], fun m hm hom => hrec m ?_ hom⟩
      rcases List.mem_append.1 hm with hm | hm
      · exact hm
      · rw [List.mem_singleton.1 hm, ho] at hom
        cases hom
    | true =>
      obtain ⟨x, hx, hof⟩ := enterClearing_record (t := t.modSes n fun r => heldRecord r h t.params) (n := n)
        (by rw [State.ses_modSes_self]; exact .inr rfl) .hostLost
      rw [State.records_modSes] at hx
      rw [State.ses_modSes_self, htn, hpar] at hof
      rw [hcleared ho hp, hx]
      refine ⟨by simp [List.countP_append, ho, hlen]; omega, fun m hm hom => ?_⟩
      rcases List.mem_append.1 hm with hm | hm
      · obtain ⟨y, hy, hyof⟩ := hrec m hm hom
        exact ⟨y, List.mem_append_left _ hy, hyof⟩
      · rw [List.mem_singleton.1 hm]
        exact ⟨x, by simp, hof⟩
  · rw [hpassed (hall n)]
    exact ht.idle hall

theorem holding_all (hd : d.host h = ⟨false, .stopped⟩) (hu : unoffered d) : Holding h d allLines (heldLines d h) :=
  State.forLines_induct (I := Holding h d)
    ⟨Moving.refl hd, fun _ _ => ⟨rfl, rfl⟩, by simp, rfl, fun _ => ⟨rfl, rfl⟩, fun _ => ⟨by simp, by simp⟩, fun _ => rfl⟩
    fun _ _ _ hn ht => ht.step hu hn

end Sys2Proof.SessionsMoved
end

section
/-! PROOFS. The offers of a lost host's sessions to the other host, in the order in which its queue takes them. -/

namespace Sys2Proof.SessionsOffered

open Sys2Proof.Machine Sys2Proof.Stations Sys2Proof.Clears Sys2Proof.Keeping
open Sys2Proof.LineControl Sys2Proof.ClearRequests Sys2Proof.ClearOrders
open Sys2Proof.OffersMade Sys2Proof.OffersAnswered Sys2Proof.OffersDeclined Sys2Proof.LinksUp Sys2Proof.LinksLost
open Sys2Proof.SessionsClosed Sys2Proof.SessionsMoved

variable {s t u v w d : State} {n : LineNo} {h : Computer} {done : List LineNo} {r r' : Session} {x x' : LineUnit}

/-! ### Lines that post to one queue in ascending order (R79) -/

/-- What a step on a line does to a queue that takes its notice as far as it has room. -/
def postsAt (j : Link) (p : Bool) (m : Notice) (t u : State) : Prop :=
  u.port j = if p = true ∧ (t.port j).notices.length < 32 then
    { t.port j with notices := (t.port j).notices ++ [m] } else t.port j

section
variable {f : State → LineNo → State} {P : LineNo → Bool} {m : LineNo → Notice} {j : Link} {q l : List Notice} {p0 : LinkPort}
  {K : State → Prop} {R : Bool → LineNo → Session → LineUnit → Prop}

/-- How far the lines done have filled the queue. -/
structure Filling (f : State → LineNo → State) (P : LineNo → Bool) (m : LineNo → Notice) (j : Link) (q l : List Notice)
    (p0 : LinkPort) (K : State → Prop) (R : Bool → LineNo → Session → LineUnit → Prop) (s : State) (done : List LineNo)
    (t : State) : Prop where
  keeps : K t
  port : t.port j = { p0 with notices := queued q (l ++ (done.filter P).map m) }
  todo : ∀ n, n ∉ done → t.ses n = s.ses n ∧ t.unit n = s.unit n
  lines : ∀ n ∈ done, ∃ b, R b n (t.ses n) (t.unit n) ∧ (32 ≤ q.length → b = false) ∧
    (P n = true → q.length ≤ 16 → l.length + (allLines.filter P).length ≤ 16 → b = true)
  nodup : done.Nodup

theorem Filling.step (hf : ∀ t n, reaches n t (f t n)) (hstep : ∀ t n, K t → t.ses n = s.ses n → t.unit n = s.unit n →
      K (f t n) ∧ postsAt j (P n) (m n) t (f t n) ∧
      R (decide ((t.port j).notices.length < 32)) n ((f t n).ses n) ((f t n).unit n))
    (hn : n ∉ done) (ht : Filling f P m j q l p0 K R s done t) : Filling f P m j q l p0 K R s (done ++ [n]) (f t n) := by
  obtain ⟨hk, hport, htodo, hlines, hnodup⟩ := ht
  obtain ⟨hk', hposts, hr⟩ := hstep t n hk (htodo n hn).1 (htodo n hn).2
  have hnd : (done ++ [n]).Nodup := List.nodup_append.2 ⟨hnodup, List.nodup_singleton n, by
    rintro a ha b hb rfl
    exact hn (List.mem_singleton.1 hb ▸ ha)⟩
  have hlen : (t.port j).notices.length = q.length + min (32 - q.length) (l.length + (done.filter P).length) := by
    rw [hport]
    exact (length_queued _ _).trans (by rw [List.length_append, List.length_map])
  refine ⟨hk', ?_, fun a ha => ?_, fun a ha => ?_, hnd⟩
  · rw [hposts, hport, List.filter_append, List.map_append, ← List.append_assoc]
    cases hp : P n with
    | false => simp [hp]
    | true =>
      have hone : ([n].filter P).map m = [m n] := by simp [hp]
      rw [hone]
      by_cases hroom : (queued q (l ++ (done.filter P).map m)).length < 32
      · rw [if_pos ⟨rfl, hroom⟩, queued_room hroom]
      · rw [if_neg (fun hc => hroom hc.2), queued_full (Nat.not_lt.1 hroom)]
  · rw [List.mem_append, List.mem_singleton, not_or] at ha
    rw [reaches_ses_ne (hf t n) ha.2, reaches_unit_ne (hf t n) ha.2]
    exact htodo a ha.1
  · by_cases han : a = n
    · subst han
      refine ⟨_, hr, fun hq => decide_eq_false (by omega), fun hp hq hl => decide_eq_true ?_⟩
      have hsub : ((done ++ [a]).filter P).length ≤ (allLines.filter P).length :=
        (List.subperm_of_subset (hnd.filter P) fun y hy =>
          List.mem_filter.2 ⟨State.mem_allLines y, (List.mem_filter.1 hy).2⟩).length_le
      rw [List.filter_append, List.length_append, show [a].filter P = [a] by simp [hp]] at hsub
      simp only [List.length_singleton] at hsub
      omega
    · rw [reaches_ses_ne (hf t n) han, reaches_unit_ne (hf t n) han]
      exact hlines a (by simpa [han] using ha)

theorem filling_all (hf : ∀ t n, reaches n t (f t n)) (hk : K s)
    (hport : s.port j = { p0 with notices := queued q l })
    (hstep : ∀ t n, K t → t.ses n = s.ses n → t.unit n = s.unit n →
      K (f t n) ∧ postsAt j (P n) (m n) t (f t n) ∧
      R (decide ((t.port j).notices.length < 32)) n ((f t n).ses n) ((f t n).unit n)) :
    Filling f P m j q l p0 K R s allLines (s.forLines f) :=
  State.forLines_induct (I := Filling f P m j q l p0 K R s)
    ⟨hk, by simpa using hport, fun _ _ => ⟨rfl, rfl⟩, by simp, List.nodup_nil⟩
    fun _ _ _ hn ht => ht.step hf hstep hn

end

/-! ### Step 3: the offers to the lost host (R84) -/

/-- A line offered to the other host. -/
def offeredAgain (r : Session) (g : Computer) (p : Params) : Session := { r with
  offer := some ⟨g, .signOn⟩, toggle := !r.toggle, tried := r.tried.add g, offerAttempts := r.offerAttempts + 1
  offerTimer := .running (p.offerLimit * 1000) }

/-- A line through step 3, by whether the other host's queue has room. -/
inductive Rerouting (h : Computer) (s : State) (room : Bool) (n : LineNo) (r : Session) (x : LineUnit) :
    Session → LineUnit → Prop where
  | passed (ho : r.offer.map (·.target) ≠ some h) : Rerouting h s room n r x r x
  | dropped (ho : r.offer.map (·.target) = some h) (hs : r.state ≠ .offered) :
      Rerouting h s room n r x { r with offer := none, offerTimer := .stopped } x
  | again (ho : offeredTo s h n = true) (hr : rerouted s h n = true) (hb : room = true) :
      Rerouting h s room n r x (offeredAgain r (otherHost h) s.params) x
  | declined (ho : offeredTo s h n = true) (hr : rerouted s h n = false ∨ room = false) (u : State) (x' : LineUnit)
      (hd : Declined n s u) (hoff : (u.ses n).offer = none) : Rerouting h s room n r x (u.ses n) x'

theorem finds_iff : rerouted t h n =
    (offeredTo t h n && findsOther t n (t.ses n).offerAttempts (t.ses n).tried (otherHost h)) := by
  simp only [rerouted, findsOther, Bool.and_assoc]

theorem offeredTo_iff : offeredTo t h n = true ↔
    (t.ses n).state = .offered ∧ (t.ses n).offer.map (·.target) = some h := by
  simp [offeredTo]

theorem rerouted_congr (hses : t.ses n = s.ses n) (hh : SameHosts s t) (ho : t.host (otherHost h) = s.host (otherHost h)) :
    rerouted t h n = rerouted s h n := by
  unfold rerouted offeredTo
  rw [hses, hh.permits (by rw [hses]), ho]

theorem Declined.of_eq (hd : Declined n t u) (hses : t.ses n = s.ses n) (hp : t.params = s.params) : Declined n s u where
  refused := refusedWith_congr (by rw [hses]) (by rw [hses]) hp hd.refused
  offer ho := hd.offer (by rw [hses, ho])
  toggle := hd.toggle.trans (by rw [hses])
  call := hd.call

theorem rerouting_step (hd : (t.host h).up = false) (hoff : offeredTo t h n = offeredTo s h n)
    (hr : rerouted t h n = rerouted s h n) (hp : t.params = s.params) (hses : offeredTo s h n = true → t.ses n = s.ses n) :
    postsAt (otherHost h).link (rerouted s h n) (.offer n (!(t.ses n).toggle) ((t.ses n).account.getD 0)) t (t.withdrawLost n h) ∧
    Rerouting h s (decide ((t.port (otherHost h).link).notices.length < 32)) n (t.ses n) (t.unit n)
      ((t.withdrawLost n h).ses n) ((t.withdrawLost n h).unit n) := by
  have hquiet : offeredTo s h n = false → ∀ {u : State}, u.port (otherHost h).link = t.port (otherHost h).link →
      postsAt (otherHost h).link (rerouted s h n) (.offer n (!(t.ses n).toggle) ((t.ses n).account.getD 0)) t u :=
    fun hno u hu => by
      rw [postsAt, if_neg, hu]
      rw [← hr, finds_iff, hoff, hno]
      simp
  by_cases ho : (t.ses n).offer.map (·.target) = some h
  · by_cases hs : (t.ses n).state = .offered
    · have hto : offeredTo s h n = true := hoff ▸ offeredTo_iff.2 ⟨hs, ho⟩
      have hfinds : findsOther t n (t.ses n).offerAttempts (t.ses n).tried (otherHost h) = rerouted s h n := by
        rw [← hr, finds_iff, hoff, hto, Bool.true_and]
      have hreturn : ∀ k tried, rerouted s h n = false ∨ ¬(t.port (otherHost h).link).notices.length < 32 →
          postsAt (otherHost h).link (rerouted s h n) (.offer n (!(t.ses n).toggle) ((t.ses n).account.getD 0)) t
            ((withdrawnWith t n k tried).returnToSignOn n) ∧
          Rerouting h s (decide ((t.port (otherHost h).link).notices.length < 32)) n (t.ses n) (t.unit n)
            (((withdrawnWith t n k tried).returnToSignOn n).ses n) (((withdrawnWith t n k tried).returnToSignOn n).unit n) :=
        fun k tried hor => by
          obtain ⟨hdec, hnone, hun⟩ := withdrawn_declined t n k tried
          refine ⟨?_, .declined hto (hor.imp_right fun hf => decide_eq_false hf) _ _ (Declined.of_eq hdec (hses hto) hp) hnone⟩
          rw [postsAt, if_neg (by rintro ⟨h1, h2⟩; exact hor.elim (fun hf => by rw [h1] at hf; cases hf) fun hf => hf h2)]
          exact hun (.port _) (by simp [port_link_restParts])
      rw [withdrawLost_offered hs ho, declineSignOn_eq (no_reroute_down hd), hfinds]
      cases hb : rerouted s h n with
      | false =>
        have := hreturn (t.ses n).offerAttempts (t.ses n).tried (.inl hb)
        rwa [hb] at this
      | true =>
        rw [if_pos rfl]
        split
        next hq =>
          have := hreturn ((t.ses n).offerAttempts + 1) ((t.ses n).tried.add (otherHost h))
            (.inr (Nat.not_lt.2 ((queueFull_link t (otherHost h)).1 hq)))
          rwa [hb] at this
        next hq =>
          have hroom : (t.port (otherHost h).link).notices.length < 32 :=
            Nat.not_le.1 fun hl => hq ((queueFull_link t (otherHost h)).2 hl)
          set w := withdrawnWith t n ((t.ses n).offerAttempts + 1) ((t.ses n).tried.add (otherHost h)) with hw
          obtain ⟨hwses, hwun⟩ := withdrawnWith_law t n ((t.ses n).offerAttempts + 1) ((t.ses n).tried.add (otherHost h))
          rw [← hw] at hwses hwun
          obtain ⟨hnew, -, -⟩ := withdrawn_offered t n ((t.ses n).offerAttempts + 1) ((t.ses n).tried.add (otherHost h)) (otherHost h)
          rw [← hw] at hnew
          obtain ⟨-, hport, hun⟩ := postOffer_law w n (otherHost h) .signOn
          have hwport : w.port (otherHost h).link = t.port (otherHost h).link := hwun (.port _) (by simp)
          have hunit : (w.postOffer n (otherHost h) .signOn).unit n = t.unit n :=
            (show _ = w.unit n from hun (.unit n) (by simp)).trans (hwun (.unit n) (by simp))
          refine ⟨?_, ?_⟩
          · rw [postsAt, if_pos ⟨rfl, hroom⟩, hport, hwport, hwses]
            rfl
          · rw [hnew, hunit, hp]
            exact .again hto hb (decide_eq_true hroom)
    · rw [withdrawLost_held hs ho, State.dropOffer, State.ses_modSes_self, State.unit_modSes]
      refine ⟨hquiet ?_ (State.port_modSes ..), .dropped ho hs⟩
      rw [← hoff, Bool.eq_false_iff]
      exact fun hto => hs (offeredTo_iff.1 hto).1
  · rw [withdrawLost_passed ho]
    refine ⟨hquiet ?_ rfl, .passed ho⟩
    rw [← hoff, Bool.eq_false_iff]
    exact fun hto => ho (offeredTo_iff.1 hto).2

theorem withdrawLost_apart (n : LineNo) (hd : (t.host h).up = false) :
    unchangedBut (.port (otherHost h).link :: .accounts :: .reservations :: restParts n) t (t.withdrawLost n h) := by
  by_cases ho : (t.ses n).offer.map (·.target) = some h
  · by_cases hs : (t.ses n).state = .offered
    · have hreturn := fun k tried => (withdrawn_declined t n k tried).2.2.mono
        (qs := .port (otherHost h).link :: .accounts :: .reservations :: restParts n) (fun p hp => List.mem_cons_of_mem _ hp)
      rw [withdrawLost_offered hs ho, declineSignOn_eq (no_reroute_down hd)]
      split
      · split
        · exact hreturn _ _
        · exact (withdrawn_offered t n _ _ _).2.2.mono (by simp [restParts])
      · exact hreturn _ _
    · rw [withdrawLost_held hs ho]
      exact unchangedBut_modSes _ t (by simp [restParts])
  · rw [withdrawLost_passed ho]
    exact unchangedBut_refl _ t

/-- The notice of an offer of a line's session to the other host. -/
def offerOf (t : State) (n : LineNo) : Notice := .offer n (!(t.ses n).toggle) ((t.ses n).account.getD 0)

/-- What step 3 keeps. -/
structure Withdrawing (h : Computer) (d t1 t : State) : Prop where
  moving : Moving h d t
  records : t.records = t1.records
  serial : t.serial = t1.serial

section
variable {t1 : State} (hheld : Holding h d allLines t1)
include hheld

theorem holding_offeredTo (hses : t.ses n = t1.ses n) : offeredTo t h n = offeredTo d h n ∧
    (offeredTo d h n = true → t.ses n = d.ses n) := by
  obtain ⟨hstep, -⟩ := hheld.lines n (State.mem_allLines n)
  rw [← hses] at hstep
  have hown : (d.ses n).ownedBy h = true → offeredTo d h n = false := fun ho => by
    rw [Bool.eq_false_iff, ne_eq, offeredTo_iff, ((ownedBy_iff _ _).1 ho).1]
    rintro ⟨hc, -⟩
    cases hc
  unfold offeredTo at hown ⊢
  generalize t.unit n = x', d.unit n = x at hstep
  generalize t.ses n = r' at hstep ⊢
  cases hstep with
  | passed => exact ⟨rfl, fun _ => rfl⟩
  | held ho =>
    refine ⟨(hown ho).symm ▸ rfl, fun hc => ?_⟩
    rw [hown ho] at hc
    cases hc
  | cleared ho _ _ _ ha =>
    refine ⟨?_, fun hc => ?_⟩
    · rw [hown ho]
      have hne : (r'.state == LineState.offered) = false := by
        rw [beq_eq_false_iff_ne]
        intro hc
        rw [hc] at ha
        cases ha
      rw [hne, Bool.false_and]
    · rw [hown ho] at hc
      cases hc

theorem holding_rerouted (ht : Moving h d t) (hses : t.ses n = t1.ses n) : rerouted t h n = rerouted d h n := by
  obtain ⟨hto, hsame⟩ := holding_offeredTo hheld hses
  cases ho : offeredTo d h n with
  | true => exact rerouted_congr (hsame ho) ht.hosts ht.other
  | false =>
    rw [finds_iff, finds_iff, hto, ho]
    rfl

/-- Step 3 over all the lines. -/
theorem withdrawing_all : Filling (fun t n => t.withdrawLost n h) (rerouted d h) (offerOf t1) (otherHost h).link
    (d.port (otherHost h).link).notices [] (d.port (otherHost h).link) (Withdrawing h d t1)
    (fun b n r x => Rerouting h d b n (t1.ses n) (t1.unit n) r x) t1 allLines (withdrawnLines t1 h) := by
  refine filling_all (fun t n => (reaches.refl n t).withdrawLost h) ⟨hheld.moving, rfl, rfl⟩
    (by rw [hheld.port, queued_nil]) fun t n ht hses hunit => ?_
  have hun := withdrawLost_apart (t := t) n ht.moving.lost.down
  obtain ⟨hto, hsame⟩ := holding_offeredTo hheld hses
  obtain ⟨hposts, hr⟩ := rerouting_step (s := d) ht.moving.lost.down hto (holding_rerouted hheld ht.moving hses)
    ht.moving.lost.params hsame
  rw [hses, hunit] at hr
  rw [hses] at hposts
  exact ⟨⟨ht.moving.withdrawn n, (show _ = _ from hun .records (by simp [restParts])).trans ht.records,
    (show _ = _ from hun .serial (by simp [restParts])).trans ht.serial⟩, hposts, hr⟩

end

/-! ### Step 5: the HELD lines with no offer (R93) -/

/-- A line that is HELD with no offer once a host's own lines and offers are dealt with. -/
def freed (s : State) (h : Computer) (n : LineNo) : Bool :=
  (s.ses n).ownedBy h && s.params.holdLimit != 0 ||
    (s.ses n).state == .held && ((s.ses n).offer.isNone || (s.ses n).offer.map (·.target) == some h)

theorem sought_iff : sought s h n = (freed s h n && seeksOther s n (s.ses n).declined (otherHost h)) := by
  unfold sought freed seeksOther
  generalize (((s.ses n).ownedBy h && s.params.holdLimit != 0 ||
    (s.ses n).state == .held && ((s.ses n).offer.isNone || (s.ses n).offer.map (·.target) == some h))) = a
  cases a <;> cases (s.ses n).declined.has (otherHost h) <;> cases s.permitsHost n (otherHost h) <;>
    cases (s.host (otherHost h)).up <;> rfl

theorem freed_state (hf : freed s h n = true) : (s.ses n).state = .connected ∧ s.params.holdLimit ≠ 0 ∨ (s.ses n).state = .held := by
  simp only [freed, Bool.or_eq_true, Bool.and_eq_true, bne_iff_ne, beq_iff_eq, ownedBy_iff] at hf
  exact hf.imp (fun hc => ⟨hc.1.1, hc.2⟩) fun hc => hc.1

/-- What steps 2 and 3 leave of a line, for the search. -/
theorem freed_iff {b : Bool} {r1 : Session} {x1 : LineUnit} (hu : unoffered d)
    (h1 : HeldStep h d.params (d.ses n) x r1 x1) (h2 : Rerouting h d b n r1 x1 r' x') :
    (freed d h n = true ↔ r'.state = .held ∧ r'.offer = none) ∧
    (freed d h n = true → r'.account = (d.ses n).account ∧ r'.declined = (d.ses n).declined ∧
      r'.toggle = (d.ses n).toggle) := by
  have hcon : ∀ {r : Session}, r.ownedBy h = true → r.state = .connected := fun ho => ((ownedBy_iff _ _).1 ho).1
  cases h1 with
  | passed ho =>
    have hfree : freed d h n = true ↔ (d.ses n).state = .held ∧
        ((d.ses n).offer = none ∨ (d.ses n).offer.map (·.target) = some h) := by simp [freed, ho]
    cases h2 with
    | passed hoff => exact ⟨by rw [hfree]; tauto, fun _ => ⟨rfl, rfl, rfl⟩⟩
    | dropped hoff hs => exact ⟨by rw [hfree]; tauto, fun _ => ⟨rfl, rfl, rfl⟩⟩
    | again hto =>
      have hst := (offeredTo_iff.1 hto).1
      have hno : ¬freed d h n = true := fun hc => by
        rw [hfree, hst] at hc
        cases hc.1
      exact ⟨⟨fun hc => absurd hc hno, fun hc => by cases hst.symm.trans hc.1⟩, fun hc => absurd hc hno⟩
    | declined hto hr u x' hd hoff =>
      have hno : ¬freed d h n = true := fun hc => by
        rw [hfree, (offeredTo_iff.1 hto).1] at hc
        cases hc.1
      exact ⟨⟨fun hc => absurd hc hno, fun hc => absurd hc.1 (Declined.apart hd).2⟩, fun hc => absurd hc hno⟩
  | held ho hp =>
    have hfree : freed d h n = true := by simp [freed, ho, hp]
    have hnone : (heldRecord (d.ses n) h d.params).offer = none := hu n (hcon ho)
    cases h2 with
    | passed => exact ⟨⟨fun _ => ⟨rfl, hnone⟩, fun _ => hfree⟩, fun _ => ⟨rfl, rfl, rfl⟩⟩
    | dropped hoff => rw [hnone] at hoff; cases hoff
    | again hto => cases (hcon ho).symm.trans (offeredTo_iff.1 hto).1
    | declined hto => cases (hcon ho).symm.trans (offeredTo_iff.1 hto).1
  | cleared ho hp _ _ ha hnone =>
    have hfree : freed d h n = false := by simp [freed, ho, hp, hcon ho]
    have hstate : r1.state ≠ .held := fun hc => by rw [hc] at ha; cases ha
    rw [hfree]
    cases h2 with
    | passed => exact ⟨⟨fun hc => absurd hc (by decide), fun hc => absurd hc.1 hstate⟩, fun hc => absurd hc (by decide)⟩
    | dropped hoff => rw [hnone] at hoff; cases hoff
    | again hto => cases (hcon ho).symm.trans (offeredTo_iff.1 hto).1
    | declined hto => cases (hcon ho).symm.trans (offeredTo_iff.1 hto).1

/-- A line through step 5, by whether the other host's queue has room. -/
inductive Seeking (h : Computer) (s : State) (room : Bool) (n : LineNo) (r : Session) (x : LineUnit) :
    Session → LineUnit → Prop where
  | passed (hs : sought s h n = false) : Seeking h s room n r x r x
  | posted (hs : sought s h n = true) (hb : room = true) : Seeking h s room n r x { r with
      toggle := !r.toggle, offer := some ⟨otherHost h, .adopt⟩, offerTimer := .running (s.params.offerLimit * 1000) } x
  | full (hs : sought s h n = true) (hb : room = false) :
      Seeking h s room n r x { r with declined := r.declined.add (otherHost h) } x

/-- The notice of a session's offer to the other host for adoption. -/
def adoptOf (t : State) (n : LineNo) : Notice := .adopt n (!(t.ses n).toggle) ((t.ses n).account.getD 0)

theorem seeking_step (hd : (t.host h).up = false) (hp : t.params = s.params)
    (hf : freed s h n = true ↔ (t.ses n).state = .held ∧ (t.ses n).offer = none)
    (hseek : freed s h n = true → seeksOther t n (t.ses n).declined (otherHost h) = seeksOther s n (s.ses n).declined (otherHost h)) :
    postsAt (otherHost h).link (sought s h n) (adoptOf t n) t (if (t.ses n).state = .held then t.adoptionSearch n 2 else t) ∧
    Seeking h s (decide ((t.port (otherHost h).link).notices.length < 32)) n (t.ses n) (t.unit n)
      ((if (t.ses n).state = .held then t.adoptionSearch n 2 else t).ses n)
      ((if (t.ses n).state = .held then t.adoptionSearch n 2 else t).unit n) ∧
    unchangedBut [.session n, .port (otherHost h).link] t (if (t.ses n).state = .held then t.adoptionSearch n 2 else t) := by
  have hpass : sought s h n = false → ∀ u, u = t →
      postsAt (otherHost h).link (sought s h n) (adoptOf t n) t u ∧
      Seeking h s (decide ((t.port (otherHost h).link).notices.length < 32)) n (t.ses n) (t.unit n) (u.ses n) (u.unit n) ∧
      unchangedBut [.session n, .port (otherHost h).link] t u := by
    rintro hs u rfl
    exact ⟨by rw [postsAt, if_neg (by simp [hs])], .passed hs, unchangedBut_refl _ u⟩
  by_cases hst : (t.ses n).state = .held
  · rw [if_pos hst]
    cases hoff : (t.ses n).offer with
    | some o =>
      refine hpass ?_ _ (adoptionSearch_offered hoff 2)
      rw [sought_iff, show freed s h n = false from ?_, Bool.false_and]
      rw [Bool.eq_false_iff, ne_eq, hf, hoff]
      rintro ⟨-, hc⟩
      cases hc
    | none =>
      have hfree : freed s h n = true := hf.2 ⟨hst, hoff⟩
      have hs : seeksOther t n (t.ses n).declined (otherHost h) = sought s h n := by
        rw [hseek hfree, sought_iff, hfree, Bool.true_and]
      have heq := adoptionSearch_eq hoff (no_search_down hd)
      rw [hs] at heq
      cases hb : sought s h n with
      | false =>
        have := hpass hb _ (heq.trans (by rw [hb]; rfl))
        rwa [hb] at this
      | true =>
        rw [hb, if_pos rfl] at heq
        rw [heq]
        split
        next hq =>
          have hfull : ¬(t.port (otherHost h).link).notices.length < 32 := Nat.not_lt.2 ((queueFull_link t (otherHost h)).1 hq)
          refine ⟨?_, ?_, unchangedBut_modSes _ t (by simp)⟩
          · rw [postsAt, if_neg (fun hc => hfull hc.2)]
            exact State.port_modSes ..
          · rw [State.addDeclined, State.ses_modSes_self, State.unit_modSes]
            exact .full hb (decide_eq_false hfull)
        next hq =>
          have hroom : (t.port (otherHost h).link).notices.length < 32 :=
            Nat.not_le.1 fun hl => hq ((queueFull_link t (otherHost h)).2 hl)
          obtain ⟨hses, hport, hun⟩ := postOffer_law t n (otherHost h) .adopt
          refine ⟨?_, ?_, hun⟩
          · rw [postsAt, if_pos ⟨rfl, hroom⟩, hport]
            rfl
          · rw [hses, show (t.postOffer n (otherHost h) .adopt).unit n = _ from hun (.unit n) (by simp), hp]
            exact .posted hb (decide_eq_true hroom)
  · rw [if_neg hst]
    refine hpass ?_ _ rfl
    rw [sought_iff, show freed s h n = false from ?_, Bool.false_and]
    rw [Bool.eq_false_iff, ne_eq, hf]
    exact fun hc => hst hc.1

end Sys2Proof.SessionsOffered
end

section
/-! PROOFS. A host is lost: where each of its sessions ends, and what the other host's queue takes. -/

namespace Sys2Proof.HostsLost

open Sys2Proof.Machine Sys2Proof.Stations Sys2Proof.Clears Sys2Proof.Keeping
open Sys2Proof.LineControl Sys2Proof.ClearRequests Sys2Proof.ClearOrders
open Sys2Proof.OffersMade Sys2Proof.OffersAnswered Sys2Proof.OffersDeclined Sys2Proof.LinksUp Sys2Proof.LinksLost
open Sys2Proof.SessionsClosed Sys2Proof.SessionsMoved Sys2Proof.SessionsOffered

variable {s t u v w d t1 t2 : State} {n : LineNo} {h : Computer} {e : Account} {i : Instr}

/-! ### The three passes together -/

/-- What step 5 keeps. -/
structure Searching (h : Computer) (u t : State) : Prop where
  moving : Moving h u t
  books : unchangedBut (.port (otherHost h).link :: allSessions) u t

/-- The work of step 3 over all the lines. -/
abbrev Withdrawn (h : Computer) (d t1 t2 : State) : Prop :=
  Filling (fun t n => t.withdrawLost n h) (rerouted d h) (offerOf t1) (otherHost h).link
    (d.port (otherHost h).link).notices [] (d.port (otherHost h).link) (Withdrawing h d t1)
    (fun b n r x => Rerouting h d b n (t1.ses n) (t1.unit n) r x) t1 allLines t2

/-- The work of step 5 over all the lines. -/
abbrev Sought (h : Computer) (d t1 u t : State) : Prop :=
  Filling (fun t n => if (t.ses n).state = .held then t.adoptionSearch n 2 else t) (sought d h) (adoptOf u)
    (otherHost h).link (d.port (otherHost h).link).notices ((allLines.filter (rerouted d h)).map (offerOf t1))
    (d.port (otherHost h).link) (Searching h u) (fun b n r x => Seeking h d b n (u.ses n) (u.unit n) r x) u allLines t

theorem searching_all (hu : unoffered d) (hheld : Holding h d allLines t1) (hwith : Withdrawn h d t1 t2) :
    Sought h d t1 (t2.postNotice .acct (.hostDown h)) (soughtLines (t2.postNotice .acct (.hostDown h))) := by
  set u := t2.postNotice .acct (.hostDown h) with hudef
  have huses : ∀ n, u.ses n = t2.ses n := fun n => State.ses_postNotice ..
  have huunit : ∀ n, u.unit n = t2.unit n := fun n => State.unit_postNotice ..
  have hhost : ∀ g, u.host g = t2.host g := fun g => State.host_postNotice ..
  have hpar : u.params = d.params := (State.params_postNotice ..).trans hwith.keeps.moving.lost.params
  have hhosts : SameHosts d u := hwith.keeps.moving.hosts.trans (.of_eq (by rw [hudef, State.accounts_postNotice]))
  have hport : u.port (otherHost h).link = t2.port (otherHost h).link :=
    State.port_postNotice_ne _ _ _ _ (acct_ne (otherHost h)).symm
  refine filling_all (fun t n => reaches_soughtLine t n) ⟨Moving.refl ((hhost h).trans hwith.keeps.moving.lost.host), unchangedBut_refl _ u⟩
    (by rw [hport, hwith.port, List.nil_append]) fun t n ht hses hunit => ?_
  obtain ⟨b, hr, -⟩ := hwith.lines n (State.mem_allLines n)
  obtain ⟨hstep, -⟩ := hheld.lines n (State.mem_allLines n)
  have hall : SameHosts d t := hhosts.trans ht.moving.hosts
  have hother : t.host (otherHost h) = d.host (otherHost h) :=
    ht.moving.other.trans ((hhost _).trans hwith.keeps.moving.other)
  have htses : t.ses n = t2.ses n := hses.trans (huses n)
  obtain ⟨hfree, hsame⟩ := freed_iff hu hstep hr
  rw [← htses] at hfree hsame
  obtain ⟨hposts, hseek, hun⟩ := seeking_step (s := d) (t := t) ht.moving.lost.down (ht.moving.lost.params.trans hpar)
    hfree fun hf => by
      obtain ⟨hacc, hdec, -⟩ := hsame hf
      unfold seeksOther
      rw [hother, hall.permits hacc, hdec]
  refine ⟨⟨⟨ht.moving.lost.sought n, ht.moving.hosts.trans (.of_eq (hun .accounts (by simp))),
    (show _ = t.host (otherHost h) from hun (.host _) (by simp)).trans ht.moving.other⟩,
    ht.books.trans (hun.mono (by simp [mem_allSessions]))⟩, ?_, ?_⟩
  · rwa [show adoptOf u n = adoptOf t n by rw [adoptOf, adoptOf, hses]]
  · rwa [← hses, ← hunit]

/-! ### Where each line ends -/

section
variable {b1 b2 : Bool} {x x1 x2 x3 : LineUnit} {r1 r2 r3 : Session} (hu : unoffered d)
  (h1 : HeldStep h d.params (d.ses n) x r1 x1) (h2 : Rerouting h d b1 n r1 x1 r2 x2) (h3 : Seeking h d b2 n r2 x2 r3 x3)

theorem not_sought (hs : (d.ses n).state = .offered) : sought d h n = false := by
  rw [Bool.eq_false_iff, ne_eq, sought_iff, Bool.and_eq_true]
  rintro ⟨hf, -⟩
  rcases freed_state hf with ⟨hc, -⟩ | hc <;> rw [hs] at hc <;> cases hc

include h1 in
theorem offered_stays (ho : offeredTo d h n = true) : r1 = d.ses n ∧ x1 = x := by
  have hs := (offeredTo_iff.1 ho).1
  cases h1 with
  | passed => exact ⟨rfl, rfl⟩
  | held hown => cases ((ownedBy_iff _ _).1 hown).1.symm.trans hs
  | cleared hown => cases ((ownedBy_iff _ _).1 hown).1.symm.trans hs

include h3 in
theorem unsought_stays (hs : sought d h n = false) : r3 = r2 ∧ x3 = x2 := by
  cases h3 with
  | passed => exact ⟨rfl, rfl⟩
  | posted hc => rw [hs] at hc; cases hc
  | full hc => rw [hs] at hc; cases hc

include h1 h2 h3

/-- A line OFFERED to the lost host is offered to the other, if its routing finds that one and the queue has room. -/
theorem offered_moves (hr : rerouted d h n = true) (hb : b1 = true) :
    x3 = x ∧ r3 = offeredAgain (d.ses n) (otherHost h) d.params := by
  have hto : offeredTo d h n = true := by
    rw [finds_iff, Bool.and_eq_true] at hr
    exact hr.1
  obtain ⟨hs, ho⟩ := offeredTo_iff.1 hto
  obtain ⟨rfl, rfl⟩ := offered_stays h1 hto
  obtain ⟨rfl, rfl⟩ := unsought_stays h3 (not_sought hs)
  cases h2 with
  | passed hc => exact absurd ho hc
  | dropped _ hc => exact absurd hs hc
  | again => exact ⟨rfl, rfl⟩
  | declined _ hc => rcases hc with hc | hc <;> simp_all

/-- Else it returns to SIGN_ON. -/
theorem offered_returns (hto : offeredTo d h n = true) (hr : rerouted d h n = false ∨ b1 = false) :
    ∃ u, Declined n d u ∧ (u.ses n).offer = none ∧ r3 = u.ses n := by
  obtain ⟨hs, ho⟩ := offeredTo_iff.1 hto
  obtain ⟨rfl, rfl⟩ := offered_stays h1 hto
  obtain ⟨rfl, rfl⟩ := unsought_stays h3 (not_sought hs)
  cases h2 with
  | passed hc => exact absurd ho hc
  | dropped _ hc => exact absurd hs hc
  | again _ hc hb => rcases hr with hr | hr <;> simp_all
  | declined _ _ u _ hd hoff => exact ⟨u, hd, hoff, rfl⟩

/-- A line HELD that is not searched loses an offer to the lost host. -/
theorem held_stays (hs : (d.ses n).state = .held) (hno : sought d h n = false) :
    r3 = if (d.ses n).offer.map (·.target) = some h then { d.ses n with offer := none, offerTimer := .stopped } else d.ses n := by
  obtain ⟨rfl, rfl⟩ := unsought_stays h3 hno
  have hto : ¬offeredTo d h n = true := fun hc => by cases hs.symm.trans (offeredTo_iff.1 hc).1
  cases h1 with
  | held hown => cases ((ownedBy_iff _ _).1 hown).1.symm.trans hs
  | cleared hown => cases ((ownedBy_iff _ _).1 hown).1.symm.trans hs
  | passed =>
    cases h2 with
    | passed hc => rw [if_neg hc]
    | dropped hc => rw [if_pos hc]
    | again hc => exact absurd hc hto
    | declined hc => exact absurd hc hto

include hu in
/-- A line searched is HELD with its session as it was, offered to the other host if the queue has room. -/
theorem sought_ends (hs : sought d h n = true) : r3.state = .held ∧ r3.account = (d.ses n).account ∧
    (b2 = true → r3.offer = some ⟨otherHost h, .adopt⟩ ∧ r3.toggle = !(d.ses n).toggle ∧
      r3.offerTimer = .running (d.params.offerLimit * 1000) ∧ r3.declined = (d.ses n).declined) ∧
    (b2 = false → r3.offer = none ∧ r3.toggle = (d.ses n).toggle ∧ r3.declined = (d.ses n).declined.add (otherHost h)) := by
  have hf : freed d h n = true := by
    rw [sought_iff, Bool.and_eq_true] at hs
    exact hs.1
  obtain ⟨hfree, hsame⟩ := freed_iff hu h1 h2
  obtain ⟨hst, hoff⟩ := hfree.1 hf
  obtain ⟨hacc, hdec, htog⟩ := hsame hf
  cases h3 with
  | passed hc => rw [hs] at hc; cases hc
  | posted _ hb => exact ⟨hst, hacc, fun _ => ⟨rfl, by rw [← htog], rfl, hdec⟩, fun hc => absurd (hb.symm.trans hc) (by decide)⟩
  | full _ hb => exact ⟨hst, hacc, fun hc => absurd (hb.symm.trans hc) (by decide), fun _ => ⟨hoff, htog, by rw [← hdec]⟩⟩

/-- A line cleared because its host is lost is left so. -/
theorem cleared_ends (hown : (d.ses n).ownedBy h = true) (hp : d.params.holdLimit = 0) : r3 = r1 := by
  have hs : (d.ses n).state = .connected := ((ownedBy_iff _ _).1 hown).1
  have hto : ¬offeredTo d h n = true := fun hc => by cases hs.symm.trans (offeredTo_iff.1 hc).1
  have hno : sought d h n = false := by
    rw [Bool.eq_false_iff, ne_eq, sought_iff, Bool.and_eq_true]
    rintro ⟨hf, -⟩
    rcases freed_state hf with ⟨-, hc⟩ | hc
    · exact hc hp
    · cases hs.symm.trans hc
  obtain ⟨rfl, rfl⟩ := unsought_stays h3 hno
  cases h1 with
  | passed hc => rw [hown] at hc; cases hc
  | held _ hc => exact absurd hp hc
  | cleared _ _ _ _ ha hoff =>
    cases h2 with
    | passed => rfl
    | dropped hc => rw [hoff] at hc; cases hc
    | again hc => exact absurd hc hto
    | declined hc => exact absurd hc hto

end

/-! ### The admission of the one line that returns (R84) -/

theorem accountOf_congr (ha : t.accounts = s.accounts) (hn : t.ses n = s.ses n) : t.accountOf n = s.accountOf n := by
  unfold State.accountOf State.account?
  rw [ha, hn]

/-- Where one line alone was OFFERED to the lost host, and it returns, step 3 gives back its admission and no other. -/
theorem withdrawnLines_books (hd : d.host h = ⟨false, .stopped⟩) (hto : offeredTo d h n = true)
    (hr : rerouted d h n = false ∨ 32 ≤ (d.port (otherHost h).link).notices.length)
    (hothers : ∀ m, m ≠ n → offeredTo d h m = false) (he : d.accountOf n = some e) :
    (withdrawnLines d h).reservations = d.reservations - 1 ∧
    (withdrawnLines d h).accounts = d.accounts.map (fun x => if x.number = e.number then { x with active := x.active - 1 } else x) := by
  have hlines := State.forLines_induct (f := fun t n => t.withdrawLost n h) (s := d) (I := fun done t =>
    Moving h d t ∧ t.port (otherHost h).link = d.port (otherHost h).link ∧ (∀ m, m ∉ done → t.ses m = d.ses m) ∧
    (n ∉ done → t.reservations = d.reservations ∧ t.accounts = d.accounts) ∧
    (n ∈ done → t.reservations = d.reservations - 1 ∧
      t.accounts = d.accounts.map (fun x => if x.number = e.number then { x with active := x.active - 1 } else x)))
    ⟨Moving.refl hd, rfl, fun _ _ => rfl, fun _ => ⟨rfl, rfl⟩, by simp⟩ fun done m t hm ⟨hmov, hport, htodo, hleft, hdone⟩ => by
      have hother : ∀ a, a ∉ done ++ [m] → (t.withdrawLost m h).ses a = d.ses a := fun a ha => by
        rw [List.mem_append, List.mem_singleton, not_or] at ha
        rw [reaches_ses_ne ((reaches.refl m t).withdrawLost h) ha.2]
        exact htodo a ha.1
      have hses := htodo m hm
      by_cases hmn : m = n
      · subst hmn
        obtain ⟨hres, hacc⟩ := hleft hm
        have hto' : (t.ses m).state = .offered ∧ (t.ses m).offer.map (·.target) = some h := by
          rw [hses]
          exact offeredTo_iff.1 hto
        have hfinds : findsOther t m (t.ses m).offerAttempts (t.ses m).tried (otherHost h) = rerouted d h m := by
          rw [← rerouted_congr hses hmov.hosts hmov.other, finds_iff, offeredTo_iff.2 hto', Bool.true_and]
        obtain ⟨k, tried, heq⟩ : ∃ k tried, t.withdrawLost m h = (withdrawnWith t m k tried).returnToSignOn m := by
          rw [withdrawLost_offered hto'.1 hto'.2, declineSignOn_eq (no_reroute_down hmov.lost.down), hfinds]
          cases hb : rerouted d h m with
          | false => exact ⟨_, _, rfl⟩
          | true =>
            have hfull : t.queueFull (otherHost h).link = true := by
              rw [queueFull_link, hport]
              exact hr.resolve_left (by rw [hb]; decide)
            rw [if_pos rfl, hfull]
            exact ⟨_, _, rfl⟩
        obtain ⟨h1, h2⟩ := withdrawn_books ((accountOf_congr hacc hses).trans he) k tried
        obtain ⟨-, -, hun⟩ := withdrawn_declined t m k tried
        refine ⟨hmov.withdrawn m, ?_, hother, fun hc => absurd (by simp) hc, fun _ => ?_⟩
        · rw [heq, show _ = _ from hun (.port (otherHost h).link) (by simp [port_link_restParts]), hport]
        · rw [heq, h1, h2, hres, hacc]
          exact ⟨rfl, rfl⟩
      · have hquiet : unchangedBut [.session m] t (t.withdrawLost m h) := by
          by_cases ho : (t.ses m).offer.map (·.target) = some h
          · rw [withdrawLost_held (fun hs => ?_) ho]
            · exact unchangedBut_modSes _ t (by simp)
            · have := hothers m hmn
              rw [Bool.eq_false_iff, ne_eq, offeredTo_iff, ← hses] at this
              exact this ⟨hs, ho⟩
          · rw [withdrawLost_passed ho]
            exact unchangedBut_refl _ t
        have hres : (t.withdrawLost m h).reservations = t.reservations := hquiet .reservations (by simp)
        have hacc : (t.withdrawLost m h).accounts = t.accounts := hquiet .accounts (by simp)
        have hmem : n ∈ done ++ [m] ↔ n ∈ done := by simp [Ne.symm hmn]
        refine ⟨hmov.withdrawn m, (show _ = _ from hquiet (.port _) (by simp)).trans hport, hother, fun hc => ?_, fun hc => ?_⟩
        · rw [hres, hacc]
          exact hleft (fun hd => hc (hmem.2 hd))
        · rw [hres, hacc]
          exact hdone (hmem.1 hc)
  exact hlines.2.2.2.2 (State.mem_allLines n)

/-! ### The whole of it -/

theorem disjoint_counts {p q : LineNo → Bool} (hpq : ∀ n, p n = true → q n = false) :
    (allLines.filter p).length + (allLines.filter q).length ≤ 16 := by
  rw [← List.length_append]
  have hnd : allLines.Nodup := by decide
  refine (List.Nodup.length_le_card (List.nodup_append.2 ⟨hnd.filter p, hnd.filter q, ?_⟩)).trans (by simp)
  rintro a ha b hb rfl
  have := hpq a (List.mem_filter.1 ha).2
  rw [(List.mem_filter.1 hb).2] at this
  cases this

theorem Declined.to (hd : Declined n s u) (ht : t.ses n = u.ses n) : Declined n s t where
  refused := by
    have := hd.refused
    unfold refusedWith at this ⊢
    rwa [ht]
  offer ho := by rw [ht]; exact hd.offer ho
  toggle := by rw [ht]; exact hd.toggle
  call hc := by
    rw [ht] at hc ⊢
    exact hd.call hc

/-- What the loss of a host leaves of the other host's queue, of the Charge Record Queue and of each line. -/
structure Moved (h : Computer) (d t : State) : Prop where
  port : t.port (otherHost h).link = { d.port (otherHost h).link with
    notices := queued (d.port (otherHost h).link).notices
      ((allLines.filter (rerouted d h)).map (offerOf d) ++ (allLines.filter (sought d h)).map (adoptOf d)) }
  lines : ∀ n, ∃ b1 b2 r1 x1 r2 x2, HeldStep h d.params (d.ses n) (d.unit n) r1 x1 ∧
    ((d.ses n).ownedBy h = true → d.params.holdLimit = 0 → clearedLost h (d.ses n) (d.unit n) r1) ∧
    Rerouting h d b1 n r1 x1 r2 x2 ∧ Seeking h d b2 n r2 x2 (t.ses n) (t.unit n) ∧
    (32 ≤ (d.port (otherHost h).link).notices.length → b1 = false ∧ b2 = false) ∧
    ((d.port (otherHost h).link).notices.length ≤ 16 →
      (rerouted d h n = true → b1 = true) ∧ (sought d h n = true → b2 = true))
  kept : d.params.holdLimit ≠ 0 → t.records = d.records ∧ t.serial = d.serial
  recorded : d.params.holdLimit = 0 → t.records.length = d.records.length + d.countLines (fun _ l => l.ses.ownedBy h) ∧
    ∀ n, (d.ses n).ownedBy h = true → ∃ x ∈ t.records, RecordOf (heldRecord (d.ses n) h d.params) .held n .hostLost x
  alone : ∀ n e, offeredTo d h n = true → rerouted d h n = false ∨ 32 ≤ (d.port (otherHost h).link).notices.length →
    d.accountOf n = some e → (∀ m, m ≠ n → offeredTo d h m = false ∧ (d.ses m).ownedBy h = false) →
    t.reservations = d.reservations - 1 ∧
    t.accounts = d.accounts.map (fun x => if x.number = e.number then { x with active := x.active - 1 } else x)

theorem moved (hd : d.host h = ⟨false, .stopped⟩) (hu : unoffered d) : Moved h d
    (soughtLines ((withdrawnLines (heldLines d h) h).postNotice .acct (.hostDown h))) := by
  have hheld := holding_all hd hu
  have hwith := withdrawing_all hheld
  have hsought := searching_all hu hheld hwith
  set t1 := heldLines d h
  set t2 := withdrawnLines t1 h
  set u := t2.postNotice .acct (.hostDown h)
  have huses : ∀ n, u.ses n = t2.ses n := fun n => State.ses_postNotice ..
  have huunit : ∀ n, u.unit n = t2.unit n := fun n => State.unit_postNotice ..
  have hbooks := hsought.keeps.books
  have hrecords : (soughtLines u).records = t1.records := by
    rw [show (soughtLines u).records = _ from hbooks .records (by simp [allSessions]), State.records_postNotice, hwith.keeps.records]
  have hserial : (soughtLines u).serial = t1.serial := by
    rw [show (soughtLines u).serial = _ from hbooks .serial (by simp [allSessions]), State.serial_postNotice, hwith.keeps.serial]
  have hoffers : (allLines.filter (rerouted d h)).map (offerOf t1) = (allLines.filter (rerouted d h)).map (offerOf d) := by
    refine List.map_congr_left fun n hn => ?_
    have hr := (List.mem_filter.1 hn).2
    rw [finds_iff, Bool.and_eq_true] at hr
    rw [offerOf, offerOf, (holding_offeredTo hheld rfl).2 hr.1]
  have hadopts : (allLines.filter (sought d h)).map (adoptOf u) = (allLines.filter (sought d h)).map (adoptOf d) := by
    refine List.map_congr_left fun n hn => ?_
    have hs := (List.mem_filter.1 hn).2
    rw [sought_iff, Bool.and_eq_true] at hs
    obtain ⟨b, hr, -⟩ := hwith.lines n (State.mem_allLines n)
    obtain ⟨hacc, -, htog⟩ := (freed_iff hu (hheld.lines n (State.mem_allLines n)).1 hr).2 hs.1
    rw [adoptOf, adoptOf, huses, htog, hacc]
  have hcount : (allLines.filter (rerouted d h)).length + (allLines.filter (sought d h)).length ≤ 16 :=
    disjoint_counts fun n hr => by
      rw [finds_iff, Bool.and_eq_true] at hr
      exact not_sought (offeredTo_iff.1 hr.1).1
  refine ⟨?_, fun n => ?_, fun hp => ?_, fun hp => ?_, fun n e hto hr he hothers => ?_⟩
  · rw [show (soughtLines u).port (otherHost h).link = _ from hsought.port, hoffers, hadopts]
  · obtain ⟨b1, h2, hf1, ht1⟩ := hwith.lines n (State.mem_allLines n)
    obtain ⟨b2, h3, hf2, ht2⟩ := hsought.lines n (State.mem_allLines n)
    obtain ⟨h1, hclear⟩ := hheld.lines n (State.mem_allLines n)
    rw [huses, huunit] at h3
    refine ⟨b1, b2, _, _, _, _, h1, hclear, h2, h3, fun hq => ⟨hf1 hq, hf2 hq⟩, fun hq => ⟨fun hr => ht1 hr hq ?_, fun hs => ht2 hs hq ?_⟩⟩
    · simp only [List.length_nil]
      omega
    · rw [List.length_map]
      exact hcount
  · rw [hrecords, hserial]
    exact hheld.kept hp
  · obtain ⟨hlen, hrec⟩ := hheld.recorded hp
    rw [hrecords]
    exact ⟨hlen, fun n ho => hrec n (State.mem_allLines n) ho⟩
  · have hidle : t1 = d := hheld.idle fun m => by
      by_cases hmn : m = n
      · rw [hmn, Bool.eq_false_iff, ne_eq, ownedBy_iff]
        exact fun hc => by cases hc.1.symm.trans (offeredTo_iff.1 hto).1
      · exact (hothers m hmn).2
    obtain ⟨hres, hacc⟩ := withdrawnLines_books hd hto hr (fun m hm => (hothers m hm).1) he
    rw [show (soughtLines u).reservations = _ from hbooks .reservations (by simp [allSessions]),
      show (soughtLines u).accounts = _ from hbooks .accounts (by simp [allSessions]), State.reservations_postNotice,
      State.accounts_postNotice, ← hres, ← hacc, show t2 = withdrawnLines d h by rw [← hidle]]
    exact ⟨rfl, rfl⟩

theorem Rerouting.of_eq {b : Bool} {r r' : Session} {x x' : LineUnit} (hr : Rerouting h d b n r x r' x')
    (hto : offeredTo d h n = offeredTo s h n) (hre : rerouted d h n = rerouted s h n) (hp : d.params = s.params)
    (hses : d.ses n = s.ses n) : Rerouting h s b n r x r' x' := by
  cases hr with
  | passed ho => exact .passed ho
  | dropped ho hs => exact .dropped ho hs
  | again ho hr hb =>
    rw [hp]
    exact .again (hto ▸ ho) (hre ▸ hr) hb
  | declined ho hr u x' hd hoff => exact .declined (hto ▸ ho) (hre ▸ hr) u x' (Declined.of_eq hd hses hp) hoff

theorem Seeking.of_eq {b : Bool} {r r' : Session} {x x' : LineUnit} (hr : Seeking h d b n r x r' x')
    (hso : sought d h n = sought s h n) (hp : d.params = s.params) : Seeking h s b n r x r' x' := by
  cases hr with
  | passed ho => exact .passed (hso ▸ ho)
  | posted ho hb =>
    rw [hp]
    exact .posted (hso ▸ ho) hb
  | full ho hb => exact .full (hso ▸ ho) hb

/-- The link and the host that are lost are no part of it. -/
theorem Moved.of_eq (hm : Moved h d t) (hs : unchangedBut [.port h.link, .host h] s d)
    (ht : unchangedBut [.port h.link] t u) : Moved h s u := by
  have hne : (otherHost h).link ≠ h.link := link_ne (otherHost_ne h)
  have hses : ∀ n, d.ses n = s.ses n := fun n => hs (.session n) (by simp)
  have hunit : ∀ n, d.unit n = s.unit n := fun n => hs (.unit n) (by simp)
  have hport : d.port (otherHost h).link = s.port (otherHost h).link := hs (.port _) (by simpa using hne)
  have hhost : d.host (otherHost h) = s.host (otherHost h) := hs (.host _) (by simpa using otherHost_ne h)
  have hpar : d.params = s.params := hs .params (by simp)
  have hacc : d.accounts = s.accounts := hs .accounts (by simp)
  have hperm : ∀ n, d.permitsHost n (otherHost h) = s.permitsHost n (otherHost h) := fun n => permitsHost_congr hacc (by rw [hses])
  have hto : ∀ n, offeredTo d h n = offeredTo s h n := fun n => by rw [offeredTo, offeredTo, hses]
  have hre : ∀ n, rerouted d h n = rerouted s h n := fun n => by rw [rerouted, rerouted, hto, hses, hperm, hhost]
  have hso : ∀ n, sought d h n = sought s h n := fun n => by rw [sought, sought, hses, hperm, hhost, hpar]
  have hoffer : offerOf d = offerOf s := funext fun n => by rw [offerOf, offerOf, hses]
  have hadopt : adoptOf d = adoptOf s := funext fun n => by rw [adoptOf, adoptOf, hses]
  have hcount : d.countLines (fun _ l => l.ses.ownedBy h) = s.countLines (fun _ l => l.ses.ownedBy h) := by
    unfold State.countLines
    exact List.countP_congr fun n _ => by
      show (d.ses n).ownedBy h = true ↔ (s.ses n).ownedBy h = true
      rw [hses]
  have hurec : u.records = t.records := ht .records (by simp)
  have hdrec : d.records = s.records := hs .records (by simp)
  refine ⟨?_, fun n => ?_, fun hp => ?_, fun hp => ?_, fun n e ho hr he hothers => ?_⟩
  · rw [show u.port _ = _ from ht (.port (otherHost h).link) (by simpa using hne), hm.port, hport, hoffer, hadopt, funext hre, funext hso]
  · obtain ⟨b1, b2, r1, x1, r2, x2, h1, hclear, h2, h3, hfull, hroom⟩ := hm.lines n
    rw [hses, hunit, hpar] at h1 hclear
    rw [hport] at hfull hroom
    rw [hre, hso] at hroom
    refine ⟨b1, b2, r1, x1, r2, x2, h1, hclear, Rerouting.of_eq h2 (hto n) (hre n) hpar (hses n), ?_, hfull, hroom⟩
    rw [show u.ses n = _ from ht (.session n) (by simp), show u.unit n = _ from ht (.unit n) (by simp)]
    exact Seeking.of_eq h3 (hso n) hpar
  · rw [hurec, show u.serial = _ from ht .serial (by simp), ← hdrec, ← show d.serial = s.serial from hs .serial (by simp)]
    exact hm.kept (by rwa [hpar])
  · obtain ⟨hlen, hrec⟩ := hm.recorded (by rwa [hpar])
    rw [hurec, hlen, hcount, hdrec]
    refine ⟨rfl, fun n ho => ?_⟩
    have := hrec n (by rwa [hses])
    rwa [hses, hpar] at this
  · obtain ⟨hres, hac⟩ := hm.alone n e (by rwa [hto]) (by rwa [hre, hport]) ((accountOf_congr hacc (hses n)).trans he)
      fun m hne => by rw [hto, hses]; exact hothers m hne
    rw [show u.reservations = _ from ht .reservations (by simp), show u.accounts = _ from ht .accounts (by simp), hres, hac,
      hacc, show d.reservations = _ from hs .reservations (by simp)]
    exact ⟨rfl, rfl⟩

theorem unoffered_of_law (hl : offerLaw s) : unoffered s := fun n hc => by
  have hn := hl n
  unfold offerSound at hn
  cases ho : (s.ses n).offer with
  | none => rfl
  | some o =>
    rw [ho] at hn
    rcases hn with ⟨⟨hs, -⟩ | ⟨hs, -⟩, -⟩ <;> cases hc.symm.trans hs

theorem moved_down (hi : takesDown s h i) (hl : offerLaw s) : ∃ t, exec i s = .next t ∧ Moved h s t := by
  obtain ⟨v, finish, hexec, hbefore, -, hafter, -⟩ := loss_poised hi
  obtain ⟨hdhost, -, hdun⟩ := downed_law v h
  have hun : unchangedBut [.port h.link, .host h] s (downed v h) := hbefore.trans (hdun.mono (by simp))
  have hu : unoffered (downed v h) := fun n hc => by
    rw [show (downed v h).ses n = _ from hun (.session n) (by simp)] at hc ⊢
    exact unoffered_of_law hl n hc
  refine ⟨_, hexec, ?_⟩
  rw [linkDown_eq]
  exact (moved hdhost hu).of_eq hun (hafter _)

/-- Settles O49: the three passes of the loss, as the other host's queue, the books and each line see them. -/
theorem hostLossMovesSessions : Obligations.HostLossMovesSessions := by
  rintro i h g s hi rfl hlaw
  obtain ⟨t, hexec, hport, hlines, hkept, hrecorded, halone⟩ := moved_down hi hlaw
  have hu := unoffered_of_law hlaw
  refine ⟨t, hexec, ?_, ?_, fun hq => ⟨fun n hr => ?_, fun n hs => ?_⟩, fun hq n hs => ?_, fun n ho hr => ?_,
    fun n hs hno => ?_, hkept, fun hp => ⟨(hrecorded hp).1, fun n e ho he => ?_⟩⟩
  · rw [hport]
  · rw [hport]
    rfl
  · obtain ⟨b1, b2, r1, x1, r2, x2, h1, -, h2, h3, -, hroom⟩ := hlines n
    exact offered_moves h1 h2 h3 hr ((hroom hq).1 hr)
  · obtain ⟨b1, b2, r1, x1, r2, x2, h1, -, h2, h3, -, hroom⟩ := hlines n
    obtain ⟨hst, hacc, hposted, -⟩ := sought_ends hu h1 h2 h3 hs
    obtain ⟨hoff, htog, htimer, hdec⟩ := hposted ((hroom hq).2 hs)
    exact ⟨hst, hoff, htog, htimer, hdec, hacc⟩
  · obtain ⟨b1, b2, r1, x1, r2, x2, h1, -, h2, h3, hfull, -⟩ := hlines n
    obtain ⟨hst, -, -, hlast⟩ := sought_ends hu h1 h2 h3 hs
    exact ⟨hst, hlast (hfull hq).2⟩
  · obtain ⟨b1, b2, r1, x1, r2, x2, h1, -, h2, h3, hfull, -⟩ := hlines n
    obtain ⟨u, hd, hoff, heq⟩ := offered_returns h1 h2 h3 ho (hr.imp_right fun hq => (hfull hq).1)
    obtain ⟨href, -, htog, hcall⟩ := Declined.to hd heq
    exact ⟨href, by rw [heq, hoff], htog, hcall, fun e he hothers => halone n e ho hr he hothers⟩
  · obtain ⟨b1, b2, r1, x1, r2, x2, h1, -, h2, h3, -, -⟩ := hlines n
    exact held_stays h1 h2 h3 hs hno
  · obtain ⟨b1, b2, r1, x1, r2, x2, h1, hclear, h2, h3, -, -⟩ := hlines n
    obtain ⟨hact, hcleared⟩ := hclear ho hp
    obtain ⟨x, hx, hof⟩ := (hrecorded hp).2 n ho
    rw [cleared_ends h1 h2 h3 ho hp]
    exact ⟨hact, ⟨x, hx, hof.line, hof.cause, hof.lastHost, hof.account, hof.bandSecs, hof.fee⟩, hcleared⟩

end Sys2Proof.HostsLost
end

section
/-! PROOFS. SERVICE OPEN, DRAIN and CLOSE. -/

namespace Sys2Proof.ServiceStates

open Sys2Proof.Machine Sys2Proof.Stations Sys2Proof.Clears Sys2Proof.Keeping
open Sys2Proof.LineControl Sys2Proof.ClearRequests Sys2Proof.ClearOrders Sys2Proof.ClearEnds
open Sys2Proof.OffersAnswered Sys2Proof.LinksUp Sys2Proof.LinksLost Sys2Proof.SessionsClosed

variable {s t u v : State} {n : LineNo} {done : List LineNo}

/-! ### The ring detectors stop (R46) -/

/-- A line's record as the service leaves OPEN. -/
def ceasedRecord (r : Session) : Session :=
  if r.state = .ringing then { r with state := .idle, ringCount := 0, stateTimer := .stopped } else r

/-- A line's Line Unit as the service leaves OPEN. -/
def ceasedUnit (r : Session) (x : LineUnit) : LineUnit :=
  if r.state = .idle ∨ r.state = .ringing then { x with ring := .reset } else x

/-- What the service's leaving OPEN does to a line. -/
def ceased (t : State) (n : LineNo) : State :=
  if (t.ses n).state = .idle ∨ (t.ses n).state = .ringing then (t.ringingToIdle n).modUnit n fun u => { u with ring := .reset }
  else t

theorem stopRinging_eq (s : State) : s.stopRinging = s.forLines ceased := by
  unfold State.stopRinging
  refine congrArg s.forLines (funext fun t => funext fun n => ?_)
  unfold ceased
  split
  next h => rw [if_pos (.inl h)]
  next h => rw [if_pos (.inr h)]
  next h1 h2 => rw [if_neg (not_or.2 ⟨h1, h2⟩)]

theorem ceased_law (t : State) (n : LineNo) : (ceased t n).ses n = ceasedRecord (t.ses n) ∧
    (ceased t n).unit n = ceasedUnit (t.ses n) (t.unit n) ∧ unchangedBut [.session n, .unit n] t (ceased t n) := by
  unfold ceased ceasedRecord ceasedUnit State.ringingToIdle
  by_cases hr : (t.ses n).state = .ringing
  · rw [if_pos (.inr hr), if_pos hr, if_pos hr, if_pos (.inr hr)]
    refine ⟨?_, ?_, (unchangedBut_modSes _ t (by simp)).trans (unchangedBut_modUnit _ _ (by simp))⟩
    · rw [State.ses_modUnit, State.ses_modSes_self]
    · rw [State.unit_modUnit_self, State.unit_modSes]
  · rw [if_neg hr, if_neg hr]
    split
    · exact ⟨State.ses_modUnit .., State.unit_modUnit_self .., unchangedBut_modUnit _ t (by simp)⟩
    · exact ⟨rfl, rfl, unchangedBut_refl _ t⟩

theorem mem_allUnits (n : LineNo) : Part.session n ∈ allUnits ∧ Part.unit n ∈ allUnits :=
  ⟨List.mem_append_left _ (mem_allSessions n), List.mem_append_right _ (List.mem_map.2 ⟨n, State.mem_allLines n, rfl⟩)⟩

theorem stopRinging_law (s : State) : (∀ n, s.stopRinging.ses n = ceasedRecord (s.ses n) ∧
    s.stopRinging.unit n = ceasedUnit (s.ses n) (s.unit n)) ∧ unchangedBut allUnits s s.stopRinging := by
  rw [stopRinging_eq]
  have hreach : ∀ t n, reaches n t (ceased t n) := fun t n => (ceased_law t n).2.2.mono (by simp [lineParts])
  obtain ⟨hun, hlines⟩ := lines_done (s := s) (f := ceased) (K := unchangedBut allUnits s)
    (Q := fun n r x => r = ceasedRecord (s.ses n) ∧ x = ceasedUnit (s.ses n) (s.unit n)) hreach (unchangedBut_refl _ s)
    (fun t n ht => ht.trans ((ceased_law t n).2.2.mono (by simp [mem_allUnits]))) fun t n _ hses hunit => by
      rw [← hses, ← hunit]
      exact ⟨(ceased_law t n).1, (ceased_law t n).2.1⟩
  exact ⟨hlines, hun⟩

theorem ceasedRecord_ringing {r : Session} (h : r.state = .ringing) :
    ceasedRecord r = { r with state := .idle, ringCount := 0, stateTimer := .stopped } := if_pos h

theorem ceasedRecord_other {r : Session} (h : r.state ≠ .ringing) : ceasedRecord r = r := if_neg h

theorem ceasedUnit_quiet {r : Session} (h : r.state = .idle ∨ r.state = .ringing) (x : LineUnit) :
    ceasedUnit r x = { x with ring := .reset } := if_pos h

theorem ceasedUnit_other {r : Session} (h : r.state ≠ .idle) (h' : r.state ≠ .ringing) (x : LineUnit) :
    ceasedUnit r x = x := if_neg (not_or.2 ⟨h, h'⟩)

theorem ceasedRecord_state (r : Session) : (ceasedRecord r).state = if r.state = .ringing then .idle else r.state := by
  unfold ceasedRecord
  split <;> rfl

/-! ### The ring detectors start (R40) -/

theorem startRinging_law (hs : s.service = .opened) : (∀ n, ((s.ses n).state ≠ .idle → s.startRinging.unit n = s.unit n) ∧
    ((s.ses n).state = .idle → s.startRinging.unit n = { s.unit n with ring := .afresh (s.unit n).rngSeen })) ∧
    unchangedBut (allLines.map Part.unit) s s.startRinging := by
  have hstep : ∀ t n, unchangedBut [.unit n] t (if (t.ses n).state = .idle then t.startRing n else t) := fun t n => by
    split
    · exact unchangedBut_modUnit _ t (by simp)
    · exact unchangedBut_refl _ t
  have hmem : ∀ n, Part.unit n ∈ allLines.map Part.unit := fun n => List.mem_map.2 ⟨n, State.mem_allLines n, rfl⟩
  obtain ⟨hun, hlines⟩ := lines_done (s := s) (f := fun t n => if (t.ses n).state = .idle then t.startRing n else t)
    (K := unchangedBut (allLines.map Part.unit) s) (Q := fun n _ x => ((s.ses n).state ≠ .idle → x = s.unit n) ∧
      ((s.ses n).state = .idle → x = { s.unit n with ring := .afresh (s.unit n).rngSeen }))
    (fun t n => (hstep t n).mono (by simp [lineParts])) (unchangedBut_refl _ s)
    (fun t n ht => ht.trans ((hstep t n).mono (by simpa using hmem n))) fun t n ht hses hunit => by
      have hserv : t.service = .opened := (show _ = _ from ht .service (by simp)).trans hs
      rw [hses]
      refine ⟨fun hi => by rw [if_neg hi, hunit], fun hi => ?_⟩
      rw [if_pos hi, State.startRing, State.unit_modUnit_self, hunit, hserv, if_pos rfl]
  exact ⟨hlines, hun⟩

/-- The part with the service state written. -/
def serviced (s : State) (v : Service) : State := { s with service := v }

theorem serviced_law (s : State) (v : Service) : (serviced s v).service = v ∧ unchangedBut [.service] s (serviced s v) :=
  ⟨rfl, unchanged_write fun p _ hp => by
    cases p with
    | service => exact absurd (by simp) hp
    | time => exact ⟨rfl, rfl, rfl⟩
    | _ => rfl⟩

/-! ### Every active line cleared (R168) -/

/-- What the clear of an active line shows. -/
def endedBy (c : Cause) (r' : Session) : Prop :=
  r'.state.active = false ∧ r'.state ≠ .ringing ∧ (r'.state = .clearing → r'.cause = some c)

theorem enterClearing_endedBy (t : State) (n : LineNo) (c : Cause) : endedBy c ((t.enterClearing n c).ses n) := by
  obtain ⟨f, bs, hsec, d, o', fe, st, wd, cur, ot, hbses, -, -⟩ := t.beforeDrain_ses n c
  have hcl := startDrain_cleared (t.beforeDrain n c) n c
  rw [← State.enterClearing_eq] at hcl
  obtain ⟨hact, hring, hcause⟩ := hcl.fields (by rw [hbses])
  exact ⟨hact, hring, fun hc => (hcause hc).1.trans (by rw [hbses])⟩

/-- A line with a session in progress. -/
def inSession (r : Session) : Bool := r.state == .connected || r.state == .held

/-- The clears of the lines done so far, the service being CLOSED. -/
structure Closing (c : Cause) (s : State) (done : List LineNo) (t : State) : Prop where
  service : t.service = .closed
  todo : ∀ n, n ∉ done → t.ses n = s.ses n ∧ t.unit n = s.unit n
  passed : ∀ n, (s.ses n).state.active = false → t.ses n = s.ses n ∧ t.unit n = s.unit n
  ended : ∀ n ∈ done, (s.ses n).state.active = true → endedBy c (t.ses n)
  count : t.records.length = s.records.length + done.countP (fun n => inSession (s.ses n))
  causes : ∀ x ∈ t.records, x ∈ s.records ∨ x.cause = c

theorem Closing.step {c : Cause} (hn : n ∉ done) (ht : Closing c s done t) : Closing c s (done ++ [n]) (t.clearRequest n c) := by
  obtain ⟨hserv, htodo, hpassed, hended, hcount, hcauses⟩ := ht
  have hses := (htodo n hn).1
  have hreach : reaches n t (t.clearRequest n c) := (reaches.refl n t).clearRequest c
  have htodo' : ∀ m, m ∉ done ++ [n] → (t.clearRequest n c).ses m = s.ses m ∧ (t.clearRequest n c).unit m = s.unit m :=
    fun m hm => by
      rw [List.mem_append, List.mem_singleton, not_or] at hm
      rw [reaches_ses_ne hreach hm.2, reaches_unit_ne hreach hm.2]
      exact htodo m hm.1
  cases ha : (s.ses n).state.active with
  | false =>
    have heq : t.clearRequest n c = t := by rw [State.clearRequest, hses, ha]; rfl
    have hno : inSession (s.ses n) = false := by
      unfold inSession
      cases hst : (s.ses n).state with
      | connected => rw [hst] at ha; cases ha
      | held => rw [hst] at ha; cases ha
      | _ => rfl
    rw [heq] at htodo' ⊢
    refine ⟨hserv, htodo', hpassed, fun m hm hma => hended m ?_ hma, ?_, hcauses⟩
    · rcases List.mem_append.1 hm with hm | hm
      · exact hm
      · rw [List.mem_singleton.1 hm, ha] at hma
        cases hma
    · rw [List.countP_append, hcount]
      simp [hno]
  | true =>
    have heq : t.clearRequest n c = t.enterClearing n c := clearRequest_active (by rw [hses, ha])
    have hrecs : (inSession (s.ses n) = true ∧ ∃ x, (t.enterClearing n c).records = t.records ++ [x] ∧ x.cause = c) ∨
        inSession (s.ses n) = false ∧ (t.enterClearing n c).records = t.records := by
      by_cases hs : (t.ses n).state = .connected ∨ (t.ses n).state = .held
      · obtain ⟨x, hx, hof⟩ := enterClearing_record hs c
        refine .inl ⟨?_, x, hx, hof.cause⟩
        rw [hses] at hs
        rcases hs with hs | hs <;> simp [inSession, hs]
      · refine .inr ⟨?_, enterClearing_unrecorded hs c⟩
        rw [hses, not_or] at hs
        simp [inSession, hs.1, hs.2]
    rw [heq] at htodo' hreach ⊢
    refine ⟨?_, htodo', fun m hm => ?_, fun m hm hma => ?_, ?_, fun x hx => ?_⟩
    · exact ((enterClearing_apart t n c).2 (by rw [hserv]; decide)).2.trans hserv
    · have hmn : m ≠ n := by rintro rfl; rw [ha] at hm; cases hm
      rw [reaches_ses_ne hreach hmn, reaches_unit_ne hreach hmn]
      exact hpassed m hm
    · by_cases hmn : m = n
      · rw [hmn]
        exact enterClearing_endedBy t n c
      · rw [reaches_ses_ne hreach hmn]
        exact hended m (by simpa [hmn] using hm) hma
    · rw [List.countP_append]
      rcases hrecs with ⟨hi, x, hx, -⟩ | ⟨hi, hx⟩
      · rw [hx, List.length_append, hcount]
        simp [hi]
        omega
      · rw [hx, hcount]
        simp [hi]
    · rcases hrecs with ⟨-, y, hy, hcause⟩ | ⟨-, hy⟩
      · rw [hy, List.mem_append, List.mem_singleton] at hx
        rcases hx with hx | rfl
        · exact hcauses x hx
        · exact .inr hcause
      · rw [hy] at hx
        exact hcauses x hx

theorem closing_all (c : Cause) (hs : s.service = .closed) :
    Closing c s allLines (s.forLines fun t n => t.clearRequest n c) :=
  State.forLines_induct (I := Closing c s)
    ⟨hs, fun _ _ => ⟨rfl, rfl⟩, fun _ _ => ⟨rfl, rfl⟩, by simp, by simp, fun _ hx => .inl hx⟩
    fun _ _ _ hn ht => ht.step hn

/-! ### The drain judged (R169) -/

theorem notices_drained (hn : (t.port .acct).notices = (s.port .acct).notices) (hm : (t.port .acct).mask = (s.port .acct).mask)
    (m : Notice) : ((t.postNotice .acct m).port .acct).notices = ((s.postNotice .acct m).port .acct).notices := by
  rw [port_postNotice_self, port_postNotice_self, hm, hn, show t.reachable .acct = s.reachable .acct from rfl]
  split
  · exact hn
  · split
    · exact hn
    · rfl

theorem judgeDrained_rest (hs : s.service = .draining) (h : ∀ n, (s.ses n).state = .idle ∨ (s.ses n).state = .outOfService) :
    s.judgeDrained = (serviced s .closed).postNotice .acct .drained :=
  if_pos ⟨hs, (State.countLines_eq_zero s _).2 fun n => (State.busy_eq_false _).2 (h n)⟩

theorem judgeDrained_busy (h : (s.ses n).state ≠ .idle) (h' : (s.ses n).state ≠ .outOfService) : s.judgeDrained = s :=
  if_neg fun hc => ((State.busy_eq_false _).1 ((State.countLines_eq_zero s _).1 hc.2 n)).elim h h'

/-! ### The orders -/

/-- The orders that leave the service state as it is. -/
theorem service_unmoved (hl : listens s .acct) : (∀ sel : Byte, 2 < sel.toNat →
      ∃ t, exec (.serviceOpen .acct sel) s = .next t ∧ onlyAnswers .acct ⟨.badArgument, 0⟩ s t) ∧
    (s.service = .opened → ∃ t, exec (.serviceOpen .acct 0) s = .next t ∧ onlyAnswers .acct ⟨.ok, 0⟩ s t) ∧
    (s.service = .closed → ∃ t, exec (.serviceDrain .acct) s = .next t ∧ onlyAnswers .acct ⟨.badState, 0⟩ s t) ∧
    (s.service = .draining → ∃ t, exec (.serviceDrain .acct) s = .next t ∧ onlyAnswers .acct ⟨.ok, 0⟩ s t) ∧
    (s.service = .closed → ∃ t, exec (.serviceClose .acct) s = .next t ∧ onlyAnswers .acct ⟨.ok, 0⟩ s t) := by
  have hserv : (s.heard .acct).service = s.service := State.service_modPort ..
  refine ⟨fun sel hs => acct_answers rfl hl (if_neg ?_), fun hs => acct_answers rfl hl ?_,
    fun hs => acct_answers rfl hl ?_, fun hs => acct_answers rfl hl ?_, fun hs => acct_answers rfl hl ?_⟩
  · rintro rfl
    exact absurd hs (by decide)
  · rw [if_pos rfl, State.openService, hserv, hs]
    rfl
  · rw [State.drainService, hserv, hs]
    rfl
  · rw [State.drainService, hserv, hs]
    rfl
  · rw [State.closeService, hserv, hs]
    rfl

theorem openService_eq (hs : s.service ≠ .opened) : s.openService = (serviced s .opened).startRinging := by
  unfold State.openService
  split
  next hc => exact absurd hc hs
  · rfl
  · rfl

theorem drainService_eq (hs : s.service = .opened) :
    s.drainService = ((serviced s .draining).stopRinging.judgeDrained, ⟨.ok, 0⟩) := by
  unfold State.drainService
  rw [hs]
  rfl

theorem closeService_eq (hs : s.service ≠ .closed) :
    s.closeService = (serviced s .closed).stopRinging.forLines fun t n => t.clearRequest n .serviceClosed := by
  unfold State.closeService
  split
  next hc => exact absurd hc hs
  · rfl
  · rfl

theorem exec_serviceClose (hl : listens s .acct) :
    exec (.serviceClose .acct) s = .next ((s.heard .acct).closeService.setReply .acct ⟨.ok, 0⟩) := by
  show Host.Outcome.next _ = _
  rw [State.acctOrder_listens s hl]
  rfl

/-- The drain complete as the order is answered. -/
theorem drain_completes {r : Reply} (hs : s.service = .draining)
    (hrest : ∀ n, (s.ses n).state = .idle ∨ (s.ses n).state = .outOfService) (hp : s.port .acct = framePort u .acct r) :
    (s.judgeDrained.setReply .acct ⟨.ok, 0⟩).service = .closed ∧
    (s.judgeDrained.setReply .acct ⟨.ok, 0⟩).portAcct.notices = (u.postNotice .acct .drained).portAcct.notices := by
  obtain ⟨hserv, hun⟩ := serviced_law s .closed
  have hport : (serviced s .closed).port .acct = framePort u .acct r :=
    (show _ = s.port .acct from hun (.port .acct) (by simp)).trans hp
  rw [judgeDrained_rest hs hrest]
  refine ⟨?_, ?_⟩
  · rw [State.setReply, State.service_modPort, State.service_postNotice, hserv]
  · have hnotices : (((serviced s .closed).postNotice .acct .drained).port .acct).notices =
        ((u.postNotice .acct .drained).port .acct).notices :=
      notices_drained (by rw [hport]; rfl) (by rw [hport]; rfl) .drained
    refine .trans ?_ hnotices
    generalize (serviced s .closed).postNotice .acct .drained = x
    show ((x.setReply .acct ⟨.ok, 0⟩).port .acct).notices = _
    rw [port_setReply_self]

/-- SERVICE OPEN with the service not OPEN (R168). -/
theorem service_opens (hl : listens s .acct) (hs : s.service ≠ .opened) :
    ∃ t, exec (.serviceOpen .acct 0) s = .next t ∧ t.service = .opened ∧
      (∀ n, (s.ses n).state ≠ .idle → t.unit n = s.unit n) ∧
      (∀ n, (s.ses n).state = .idle → t.unit n = { s.unit n with ring := (t.unit n).ring } ∧
        (t.unit n).ring.cond = if (s.unit n).rngSeen then .qualifying else .armed) ∧
      carriedOut .acct (framePort s .acct ⟨.ok, 0⟩) (.service :: allLines.map Part.unit) s t := by
  set v := s.heard .acct with hv
  have hvserv : v.service = s.service := State.service_modPort ..
  set o := serviced v .opened with ho
  obtain ⟨hoserv, houn⟩ := serviced_law v .opened
  have hoses : ∀ n, o.ses n = s.ses n := fun n => (show _ = v.ses n from houn (.session n) (by simp)).trans (State.ses_heard ..)
  have hounit : ∀ n, o.unit n = s.unit n := fun n => (show _ = v.unit n from houn (.unit n) (by simp)).trans (State.unit_heard ..)
  obtain ⟨hunits, hun⟩ := startRinging_law hoserv
  have hopen : v.openService = o.startRinging := openService_eq (by rwa [hvserv])
  have hall : unchangedBut (.service :: allLines.map Part.unit) v o.startRinging :=
    (houn.mono (by simp)).trans (hun.mono fun p hp => List.mem_cons_of_mem _ hp)
  refine acct_order (u := o.startRinging) (r := ⟨.ok, 0⟩) rfl hl (by rw [if_pos rfl, hopen]; rfl) ⟨?_, fun n hn => ?_, fun n hn => ?_,
    carriedOut_apart hall (by simp) (by simp)⟩
  · exact (State.service_modPort ..).trans ((show _ = _ from hun .service (by simp)).trans hoserv)
  · rw [unit_setReply, (hunits n).1 (by rwa [hoses]), hounit]
  · rw [unit_setReply, (hunits n).2 (by rwa [hoses]), hounit]
    refine ⟨rfl, ?_⟩
    unfold Ring.afresh
    rfl

/-- SERVICE DRAIN with the service OPEN (R168, R169). -/
theorem service_drains (hl : listens s .acct) (hs : s.service = .opened) :
    ∃ t, exec (.serviceDrain .acct) s = .next t ∧
      (∀ n, t.ses n = ceasedRecord (s.ses n) ∧ t.unit n = ceasedUnit (s.ses n) (s.unit n)) ∧
      ((∀ n, (s.ses n).state = .idle ∨ (s.ses n).state = .ringing ∨ (s.ses n).state = .outOfService) →
        t.service = .closed ∧ t.portAcct.notices = (s.postNotice .acct .drained).portAcct.notices) ∧
      (∀ n, (s.ses n).state ≠ .idle → (s.ses n).state ≠ .ringing → (s.ses n).state ≠ .outOfService →
        t.service = .draining ∧ t.portAcct = framePort s .acct ⟨.ok, 0⟩) ∧
      (t.port .acct).reply = ⟨.ok, 0⟩ ∧ unchangedBut (.service :: .port .acct :: allUnits) s t := by
  set v := s.heard .acct with hv
  have hvun : unchangedBut [.port .acct] s v := unchangedBut_heard _ s (by simp [frameParts, Link.host?])
  have hvport : v.port .acct = framePort s .acct (s.port .acct).reply := State.port_heard_self ..
  set d := serviced v .draining with hd
  obtain ⟨hdserv, hdun⟩ := serviced_law v .draining
  obtain ⟨hlines, hun⟩ := stopRinging_law d
  set q := d.stopRinging with hq
  have hqserv : q.service = .draining := (show _ = d.service from hun .service (by simp [allUnits, allSessions])).trans hdserv
  have hqport : q.port .acct = v.port .acct :=
    (show _ = d.port .acct from hun (.port .acct) (by simp [allUnits, allSessions])).trans (hdun (.port .acct) (by simp))
  have hjudged : unchangedBut [.service, .port .acct] q q.judgeDrained :=
    State.judgeDrained_unch q (unchangedBut_refl _ q) (by simp) (by simp)
  have hdses : ∀ n, d.ses n = s.ses n := fun n => (show _ = v.ses n from hdun (.session n) (by simp)).trans (State.ses_heard ..)
  have hdunit : ∀ n, d.unit n = s.unit n := fun n => (show _ = v.unit n from hdun (.unit n) (by simp)).trans (State.unit_heard ..)
  have hqses : ∀ n, q.ses n = ceasedRecord (s.ses n) := fun n => by rw [(hlines n).1, hdses]
  have hdrain : v.drainService = (q.judgeDrained, ⟨.ok, 0⟩) := drainService_eq ((State.service_modPort ..).trans hs)
  refine acct_order (u := q.judgeDrained) (r := ⟨.ok, 0⟩) rfl hl hdrain
    ⟨fun n => ⟨?_, ?_⟩, fun hall => ?_, fun n h1 h2 h3 => ?_, ?_, ?_⟩
  · rw [ses_setReply, show q.judgeDrained.ses n = _ from hjudged (.session n) (by simp), hqses]
  · rw [unit_setReply, show q.judgeDrained.unit n = _ from hjudged (.unit n) (by simp), (hlines n).2, hdses, hdunit]
  · have hrest : ∀ n, (q.ses n).state = .idle ∨ (q.ses n).state = .outOfService := fun n => by
      rw [hqses, ceasedRecord_state]
      rcases hall n with hn | hn | hn <;> simp [hn]
    exact drain_completes hqserv hrest (hqport.trans hvport)
  · have hst : (q.ses n).state = (s.ses n).state := by rw [hqses, ceasedRecord_other h2]
    rw [judgeDrained_busy (n := n) (by rwa [hst]) (by rwa [hst])]
    refine ⟨(State.service_modPort ..).trans hqserv, ?_⟩
    show (q.setReply .acct ⟨.ok, 0⟩).port .acct = _
    rw [port_setReply_self, hqport, hvport]
    rfl
  · rw [port_setReply_self]
  · refine (hvun.mono (by simp)).trans (.trans (hdun.mono (by simp)) ?_)
    exact (hun.mono (by simp +contextual)).trans ((hjudged.mono (by simp)).trans (unchangedBut_setReply _ _ _ (by simp)))

/-- SERVICE CLOSE with the service not CLOSED (R168). -/
theorem service_closes (hl : listens s .acct) (hs : s.service ≠ .closed) :
    ∃ q t, exec (.serviceClose .acct) s = .next (t.setReply .acct ⟨.ok, 0⟩) ∧ Closing .serviceClosed q allLines t ∧
      q.records = s.records ∧
      (∀ n, q.ses n = ceasedRecord (s.ses n) ∧ q.unit n = ceasedUnit (s.ses n) (s.unit n)) ∧
      t.clock = s.clock ∧ t.tariff = s.tariff ∧ t.messages = s.messages ∧ t.params = s.params := by
  set v := s.heard .acct with hv
  have hvserv : v.service = s.service := State.service_modPort ..
  have hvun : unchangedBut [.port .acct] s v := unchangedBut_heard _ s (by simp [frameParts, Link.host?])
  set d := serviced v .closed with hd
  obtain ⟨hdserv, hdun⟩ := serviced_law v .closed
  obtain ⟨hlines, hun⟩ := stopRinging_law d
  set q := d.stopRinging with hq
  have hall : unchangedBut (.service :: .port .acct :: allUnits) s q := (hvun.mono (by simp)).trans
    (.trans (hdun.mono (by simp)) (hun.mono (by simp +contextual)))
  have hqserv : q.service = .closed := (show _ = d.service from hun .service (by simp [allUnits, allSessions])).trans hdserv
  have hclose : v.closeService = q.forLines fun t n => t.clearRequest n .serviceClosed := closeService_eq (by rwa [hvserv])
  have hkeep : ∀ {p : Part}, (∀ n, p ∉ lineParts n) → p.same q (q.forLines fun t n => t.clearRequest n .serviceClosed) :=
    fun hp => lines_keep (fun t n => (reaches.refl n t).clearRequest _) hp
  have hfull : ∀ {p : Part}, (∀ n, p ∉ lineParts n) → p ∉ allUnits →
      p.same s (q.forLines fun t n => t.clearRequest n .serviceClosed) := fun {p} hp hu =>
    Part.same_trans (hall p fun hm => by
      rcases List.mem_cons.1 hm with rfl | hm
      · exact hp 0 (by simp [lineParts])
      · rcases List.mem_cons.1 hm with rfl | hm
        · exact hp 0 (by simp [lineParts])
        · exact hu hm) (hkeep hp)
  refine ⟨q, _, ?_, closing_all .serviceClosed hqserv, hall .records (by simp [allUnits, allSessions]), fun n => ?_,
    hfull (p := .clock) (by simp [lineParts]) (by simp [allUnits, allSessions]),
    hfull (p := .tariff) (by simp [lineParts]) (by simp [allUnits, allSessions]),
    hfull (p := .messages) (by simp [lineParts]) (by simp [allUnits, allSessions]),
    hfull (p := .params) (by simp [lineParts]) (by simp [allUnits, allSessions])⟩
  · rw [exec_serviceClose hl, ← hv, hclose]
  · rw [(hlines n).1, (hlines n).2, show d.ses n = v.ses n from hdun (.session n) (by simp),
      show d.unit n = v.unit n from hdun (.unit n) (by simp), hv, State.ses_heard, State.unit_heard]
    exact ⟨rfl, rfl⟩

theorem ceased_active {r : Session} : (ceasedRecord r).state.active = r.state.active := by
  rw [ceasedRecord_state]
  split
  next h => rw [h]; rfl
  · rfl

theorem ceased_inSession (r : Session) : inSession (ceasedRecord r) = inSession r := by
  unfold inSession
  rw [ceasedRecord_state]
  split
  next h => rw [h]; rfl
  · rfl

/-- Settles O40: order by order, each line through the ring detectors' stop and the clears. -/
theorem serviceOrders : Obligations.ServiceOrders := by
  intro s hl
  obtain ⟨hbad, hopened, hclosed, hdraining, hclosing⟩ := service_unmoved hl
  refine ⟨hbad, hopened, fun hs => service_opens hl hs, hclosed, hdraining, fun hs => ?_, hclosing, fun hs => ?_⟩
  · obtain ⟨t, hexec, hlines, hrest⟩ := service_drains hl hs
    refine ⟨t, hexec, fun n hn => ?_, fun n hn => ?_, fun n hn => ?_, fun n h1 h2 => ?_, hrest⟩
    · rw [(hlines n).1, ceasedRecord_ringing hn]
    · rw [(hlines n).1, ceasedRecord_other hn]
    · rw [(hlines n).2, ceasedUnit_quiet hn]
    · rw [(hlines n).2, ceasedUnit_other h1 h2]
  · obtain ⟨q, t, hexec, ⟨hserv, -, hpassed, hended, hcount, hcauses⟩, hqrec, hlines, hkept⟩ := service_closes hl hs
    have hquiet : ∀ n, (s.ses n).state.active = false → t.ses n = ceasedRecord (s.ses n) ∧
        t.unit n = ceasedUnit (s.ses n) (s.unit n) := fun n ha => by
      obtain ⟨h1, h2⟩ := hpassed n (by rw [(hlines n).1, ceased_active, ha])
      exact ⟨h1.trans (hlines n).1, h2.trans (hlines n).2⟩
    refine ⟨_, hexec, (State.service_modPort ..).trans hserv, by rw [port_setReply_self], fun n hn => ?_, fun n hn => ?_,
      fun n hn => ?_, fun n hn => ?_, fun n ha => ?_, ?_, fun x hx => ?_, hkept⟩
    · rw [ses_setReply, (hquiet n (by rw [hn]; rfl)).1, ceasedRecord_ringing hn]
    · have ha : (s.ses n).state.active = false ∧ (s.ses n).state ≠ .ringing := by
        rcases hn with hn | hn | hn <;> rw [hn] <;> exact ⟨rfl, by decide⟩
      rw [ses_setReply, (hquiet n ha.1).1, ceasedRecord_other ha.2]
    · have ha : (s.ses n).state.active = false ∧ (s.ses n).state ≠ .idle ∧ (s.ses n).state ≠ .ringing := by
        rcases hn with hn | hn <;> rw [hn] <;> exact ⟨rfl, by decide, by decide⟩
      rw [unit_setReply, (hquiet n ha.1).2, ceasedUnit_other ha.2.1 ha.2.2]
    · have ha : (s.ses n).state.active = false := by rcases hn with hn | hn <;> rw [hn] <;> rfl
      rw [unit_setReply, (hquiet n ha).2, ceasedUnit_quiet hn]
    · rw [ses_setReply]
      exact hended n (State.mem_allLines n) (by rw [(hlines n).1, ceased_active, ha])
    · show (State.setReply t .acct ⟨.ok, 0⟩).records.length = _
      rw [State.setReply, State.records_modPort, hcount, hqrec]
      refine congrArg _ (List.countP_congr fun n _ => ?_)
      rw [(hlines n).1, ceased_inSession]
      rfl
    · rw [State.setReply, State.records_modPort] at hx
      rw [← hqrec]
      exact hcauses x hx

end Sys2Proof.ServiceStates
end

section
/-! PROOFS. A line billed for a second: its units, the account's entry, and the clear that grace minutes of 0 bring. -/

namespace Sys2Proof.LinesBilled

open Sys2Proof.Machine Sys2Proof.Stations Sys2Proof.Clears Sys2Proof.Keeping Sys2Proof.CharacterEvents
open Sys2Proof.LineControl Sys2Proof.ClearRequests Sys2Proof.ClearOrders Sys2Proof.UnitsCharged Sys2Proof.ServiceStates

variable {s t u : State} {n : LineNo} {e : Account} {k : Nat} {band : Fin 4}

/-! ### Entries of a table rewritten under one number -/

theorem account?_map {a b : Nat} {f : Account → Account}
    (ht : t.accounts = s.accounts.map fun x => if x.number = a then f x else x) (hf : ∀ x, (f x).number = x.number) :
    t.account? b = (s.account? b).map fun x => if b = a then f x else x := by
  unfold State.account?
  rw [ht, List.find?_map]
  have hsame : ((fun x : Account => x.number == b) ∘ fun x => if x.number = a then f x else x) =
      fun x : Account => x.number == b := funext fun x => by
    dsimp only [Function.comp]
    split
    · rw [hf]
    · rfl
  rw [hsame]
  cases hfind : s.accounts.find? (fun x => x.number == b) with
  | none => rfl
  | some x =>
    have hx : x.number = b := by simpa using List.find?_some hfind
    simp [hx]

/-! ### Units charged, however far the counters go (R139, R142) -/

/-- The parts that a charge changes. -/
def chargeParts (n : LineNo) : List Part := [.session n, .accounts, .port .hostA, .port .hostB]

/-- What k units leave of the account's entry, and of the line's record but for its counters. -/
structure Debited (n : LineNo) (e : Account) (s t : State) (k : Nat) : Prop where
  accounts : t.accounts = s.accounts.map fun x =>
    if x.number = e.number then { x with balance := x.balance - min k e.balance } else x
  others : unchangedBut (chargeParts n) s t
  account : (t.ses n).account = (s.ses n).account
  state : (t.ses n).state = (s.ses n).state
  grace : (t.ses n).graceTimer = if (unitsGrace (s.ses n) e k && decide (0 < e.grace)) = true then
    .running (e.grace * 60000) else (s.ses n).graceTimer

theorem Debited.entry (h : Debited n e s t k) (he : s.accountOf n = some e) :
    t.accountOf n = some { e with balance := e.balance - min k e.balance } := by
  obtain ⟨ha, hf⟩ := number_of_accountOf he
  rw [State.accountOf, h.account, ha, Option.bind_some, account?_map h.accounts fun _ => rfl, hf]
  simp

theorem chargeUnits_debited (he : s.accountOf n = some e) (k : Nat) : Debited n e s (s.chargeUnits n k).1 k ∧
    (s.chargeUnits n k).2 = (unitsGrace (s.ses n) e k && decide (e.grace = 0)) := by
  induction k with
  | zero =>
    obtain ⟨hacc, -, -, hun⟩ := Charged.refl n e s
    exact ⟨⟨hacc, hun, rfl, rfl, rfl⟩, rfl⟩
  | succ k ih =>
    obtain ⟨hk, hclear⟩ := ih
    obtain ⟨hone, hcone⟩ := chargeUnit_charged (hk.entry he)
    rw [chargeUnits_succ, hclear, hcone]
    set t := (s.chargeUnits n k).1
    set g := decide (e.balance - min k e.balance = 0) && decide ((t.ses n).graceTimer = .stopped) with hg
    have hgrace : g = (unitsGrace (s.ses n) e (k + 1) && !(unitsGrace (s.ses n) e k && decide (0 < e.grace))) := by
      rw [hg, unitsGrace_succ, hk.grace]
      cases (unitsGrace (s.ses n) e k && decide (0 < e.grace)) <;> simp
    have hmono : unitsGrace (s.ses n) e k = true → unitsGrace (s.ses n) e (k + 1) = true := by
      simp only [unitsGrace, Bool.and_eq_true, decide_eq_true_eq]
      exact fun h => ⟨by omega, h.2⟩
    have hzero : decide (e.grace = 0) = !decide (0 < e.grace) := by
      rw [← decide_not]
      exact decide_eq_decide.2 (by omega)
    obtain ⟨hacc, hses, -, hun⟩ := hone
    refine ⟨⟨?_, hk.others.trans hun, ?_, ?_, ?_⟩, ?_⟩
    · rw [hacc, hk.accounts, List.map_map]
      refine List.map_congr_left fun x _ => ?_
      by_cases hx : x.number = e.number
      · simp only [Function.comp, hx, if_true]
        rw [show x.balance - min k e.balance - min 1 (e.balance - min k e.balance) = x.balance - min (k + 1) e.balance by omega]
      · simp [hx]
    · rw [hses]
      exact hk.account
    · rw [hses]
      exact hk.state
    · rw [hses]
      show (if (g && decide (0 < e.grace)) = true then _ else _) = _
      rw [hk.grace, hgrace]
      revert hmono
      cases unitsGrace (s.ses n) e k <;> cases unitsGrace (s.ses n) e (k + 1) <;> cases decide (0 < e.grace) <;> simp
    · show (_ || g && decide (e.grace = 0)) = _
      rw [hgrace, hzero]
      revert hmono
      cases unitsGrace (s.ses n) e k <;> cases unitsGrace (s.ses n) e (k + 1) <;> cases decide (0 < e.grace) <;> simp

/-- A line whose session names no entry is charged nothing. -/
theorem chargeUnits_none (he : s.accountOf n = none) (k : Nat) : s.chargeUnits n k = (s, false) := by
  have hunit : s.chargeUnit n = (s, false) := by
    unfold State.chargeUnit State.unitDebit State.judgeWarning State.judgeGrace
    simp only [he]
  induction k with
  | zero => rfl
  | succ k ih =>
    rw [chargeUnits_succ, ih]
    dsimp only
    rw [hunit]
    rfl

/-! ### A CONNECTED line billed (R135) -/

/-- A record with a second of a band counted, and its price added to F. -/
def accruedRecord (r : Session) (band : Fin 4) (rate : Nat) : Session :=
  { r with bandSecs := r.bandSecs.set band.val (satInc maxUnits r.bandSecs[band.val]), f := (r.f + rate) % 60000 }

theorem accrueSecond_law (s : State) (n : LineNo) (band : Fin 4) :
    (s.accrueSecond n band).ses n = accruedRecord (s.ses n) band (s.tariff.rate band (s.ses n).cls) ∧
    unchangedBut [.session n] s (s.accrueSecond n band) :=
  ⟨State.ses_modSes_self .., unchangedBut_modSes _ s (by simp)⟩

theorem accrueSecond_entry (s : State) (n : LineNo) (band : Fin 4) :
    (s.accrueSecond n band).accountOf n = s.accountOf n := OffersMade.accountOf_modSes rfl

/-- A line is billed without a clear, or it is cleared after its units. -/
theorem billLine_eq (he : s.accountOf n = some e) : s.billLine n band =
    if (unitsGrace (s.ses n) e (s.unitsDue n band) && decide (e.grace = 0)) = true then
      ((s.accrueSecond n band).chargeUnits n (s.unitsDue n band)).1.clearRequest n .creditExhausted
    else ((s.accrueSecond n band).chargeUnits n (s.unitsDue n band)).1 := by
  have hclear := (chargeUnits_debited ((accrueSecond_entry s n band).trans he) (s.unitsDue n band)).2
  have hgrace : unitsGrace ((s.accrueSecond n band).ses n) e (s.unitsDue n band) = unitsGrace (s.ses n) e (s.unitsDue n band) := by
    rw [(accrueSecond_law s n band).1]
    rfl
  rw [hgrace] at hclear
  unfold State.billLine
  dsimp only
  rw [hclear]

/-- What a second leaves of the books, on a line that makes k units. -/
structure Billing (n : LineNo) (k : Nat) (s t : State) : Prop where
  charged : ∀ b x, s.account? b = some x → (s.ses n).account = some b → ∃ act, t.account? b =
    some { x with balance := x.balance - k, active := act } ∧ (0 < x.grace ∨ k ≤ x.balance → act = x.active)
  apart : ∀ b, (s.ses n).account ≠ some b → t.account? b = s.account? b
  graced : (∀ x ∈ s.accounts, 0 < x.grace) → (∀ x ∈ t.accounts, 0 < x.grace) ∧ unchangedBut (chargeParts n) s t
  records : ∀ x ∈ s.records, x ∈ t.records

theorem Billing.quiet (h : unchangedBut [.session n] s t) : Billing n 0 s t := by
  have hacc : t.accounts = s.accounts := h .accounts (by simp)
  have hentry : ∀ b, t.account? b = s.account? b := fun b => by rw [State.account?, State.account?, hacc]
  refine ⟨fun b x hx _ => ⟨x.active, ?_, fun _ => rfl⟩, fun b _ => hentry b, fun hg => ⟨?_, h.mono (by simp [chargeParts])⟩, fun x hx => ?_⟩
  · rw [hentry, hx]
    rfl
  · rwa [hacc]
  · rwa [show t.records = s.records from h .records (by simp)]

/-- A clear of the line after its units, on an account with nothing left. -/
theorem clear_books (hs : (s.ses n).state = .connected) (he : s.accountOf n = some e) (hb : e.balance = 0) (c : Cause) :
    (s.enterClearing n c).accounts = s.accounts.map (fun x => if x.number = e.number then { x with active := x.active - 1 } else x) ∧
    (s.enterClearing n c).records = s.records ++ [closingRecord s n 0 c] := by
  obtain ⟨hrec, -, -, hacc, -⟩ := beforeDrain_closes (.inl hs) he c
  rw [State.enterClearing_eq]
  have hrest := rest_startDrain (s.beforeDrain n c) n c
  refine ⟨(show _ = _ from hrest .accounts (by simp [restParts])).trans (hacc.trans ?_),
    (show _ = _ from hrest .records (by simp [restParts])).trans (hrec.trans ?_)⟩
  · rw [hb]
    simp
  · rw [hb]

theorem billLine_billing (hs : (s.ses n).state = .connected) : Billing n (s.unitsDue n band) s (s.billLine n band) := by
  obtain ⟨hases, haun⟩ := accrueSecond_law s n band
  cases he : s.accountOf n with
  | none =>
    have heq : s.billLine n band = s.accrueSecond n band := by
      unfold State.billLine
      dsimp only
      rw [chargeUnits_none ((accrueSecond_entry s n band).trans he)]
      rfl
    obtain ⟨-, hapart, hgraced, hrecords⟩ := Billing.quiet haun
    rw [heq]
    refine ⟨fun b x hx hb => ?_, hapart, hgraced, hrecords⟩
    rw [State.accountOf, hb, Option.bind_some, hx] at he
    cases he
  | some e =>
    obtain ⟨ha, hf⟩ := number_of_accountOf he
    obtain ⟨hdeb, -⟩ := chargeUnits_debited ((accrueSecond_entry s n band).trans he) (s.unitsDue n band)
    have hentry := hdeb.entry ((accrueSecond_entry s n band).trans he)
    have heq := billLine_eq (band := band) he
    set k := s.unitsDue n band
    set w := ((s.accrueSecond n band).chargeUnits n k).1
    set c := unitsGrace (s.ses n) e k && decide (e.grace = 0) with hc
    have haacc : (s.accrueSecond n band).accounts = s.accounts := haun .accounts (by simp)
    have hwacc := hdeb.accounts
    rw [haacc] at hwacc
    have hwun : unchangedBut (chargeParts n) s w := (haun.mono (by simp [chargeParts])).trans hdeb.others
    have hws : (w.ses n).state = .connected := by
      rw [hdeb.state, hases]
      exact hs
    have hcleared : c = true → e.balance < k ∧ e.grace = 0 := fun hct => by
      rw [hc, unitsGrace, Bool.and_eq_true, Bool.and_eq_true, decide_eq_true_eq] at hct
      exact ⟨hct.1.1, of_decide_eq_true hct.2⟩
    have hfin : (s.billLine n band).accounts = s.accounts.map (fun x => if x.number = e.number then
        { x with balance := x.balance - min k e.balance, active := if c then x.active - 1 else x.active } else x) ∧
        ∀ x ∈ w.records, x ∈ (s.billLine n band).records := by
      cases hct : c with
      | false =>
        rw [heq, hct, if_neg (by decide)]
        exact ⟨hwacc, fun _ hx => hx⟩
      | true =>
        rw [heq, hct, if_pos rfl, clearRequest_active (by rw [hws]; rfl)]
        have hlt := (hcleared hct).1
        obtain ⟨hcacc, hcrec⟩ := clear_books hws hentry (show e.balance - min k e.balance = 0 by omega) .creditExhausted
        refine ⟨?_, fun x hx => by rw [hcrec]; exact List.mem_append_left _ hx⟩
        rw [hcacc, hwacc, List.map_map]
        refine List.map_congr_left fun x _ => ?_
        by_cases hx : x.number = e.number <;> simp [hx]
    obtain ⟨hacc, hrecs⟩ := hfin
    have hlook := fun b => account?_map (b := b) hacc fun _ => rfl
    refine ⟨fun b x hx hb => ?_, fun b hb => ?_, fun hg => ⟨fun x hx => ?_, ?_⟩, fun x hx => hrecs x ?_⟩
    · obtain rfl : b = e.number := Option.some.inj (hb.symm.trans ha)
      obtain rfl : e = x := Option.some.inj (hf.symm.trans hx)
      refine ⟨if c then e.active - 1 else e.active, ?_, fun hor => ?_⟩
      · rw [hlook, hf, Option.map_some, if_pos rfl, show e.balance - min k e.balance = e.balance - k by omega]
      · rw [if_neg]
        intro hct
        obtain ⟨h1, h2⟩ := hcleared hct
        omega
    · have hne : b ≠ e.number := fun hbe => hb (by rw [ha, hbe])
      rw [hlook]
      simp [hne]
    · rw [hacc] at hx
      obtain ⟨y, hy, rfl⟩ := List.mem_map.1 hx
      split
      · exact hg y hy
      · exact hg y hy
    · have hpos := hg e (account?_eq_some hf).1
      have hct : c = false := by
        rw [Bool.eq_false_iff]
        intro hct
        exact absurd (hcleared hct).2 (by omega)
      rw [heq, hct, if_neg (by decide)]
      exact hwun
    · rwa [show w.records = s.records from hwun .records (by simp [chargeParts])]

end Sys2Proof.LinesBilled
end

section
/-! PROOFS. The second boundary: the clock, the accrual run over the lines, and the tariff installed. -/

namespace Sys2Proof.SecondsBilled

open Sys2Proof.Machine Sys2Proof.Stations Sys2Proof.Clears Sys2Proof.Keeping Sys2Proof.CharacterEvents
open Sys2Proof.LineControl Sys2Proof.ClearRequests Sys2Proof.ClearOrders Sys2Proof.UnitsCharged Sys2Proof.ServiceStates
open Sys2Proof.LinksLost Sys2Proof.LinesBilled

variable {s t u : State} {n : LineNo} {e : Account} {k : Nat} {band : Fin 4} {done rest : List LineNo}

/-! ### One line of the run -/

/-- Whether a billed line is cleared: an overdraft unit would start grace, and its account has none (R142). -/
def outOfGrace (r : Session) (e : Account) (k : Nat) : Bool := unitsGrace r e k && decide (e.grace = 0)

/-- A CONNECTED line billed, as far as the counters go. -/
structure Billed (n : LineNo) (band : Fin 4) (e : Account) (s t : State) (k : Nat) : Prop where
  left : outOfGrace (s.ses n) e k = false → t.unit n = s.unit n ∧
    t.ses n = chargedSession (accruedRecord (s.ses n) band (s.tariff.rate band (s.ses n).cls)) e
      ((s.ses n).debited + min k e.balance) ((s.ses n).overdraft + (k - e.balance)) (unitsWarn (s.ses n) e k)
      (unitsGrace (s.ses n) e k)
  cleared : outOfGrace (s.ses n) e k = true → endedBy .creditExhausted (t.ses n) ∧
    ∃ x ∈ t.records, x.line = n ∧ x.cause = .creditExhausted ∧ x.account = (s.ses n).account ∧
      x.debited = (s.ses n).debited + e.balance ∧ x.overdraft = (s.ses n).overdraft + (k - e.balance) +
        if 30000 ≤ ((s.ses n).f + s.tariff.rate band (s.ses n).cls) % 60000 then 1 else 0

theorem billLine_billed (hs : (s.ses n).state = .connected) (he : s.accountOf n = some e) (hk : k = s.unitsDue n band)
    (hd : (s.ses n).debited + k ≤ 16777215) (ho : (s.ses n).overdraft + k + 1 ≤ 16777215) :
    Billed n band e s (s.billLine n band) k := by
  subst hk
  obtain ⟨hases, haun⟩ := accrueSecond_law s n band
  have heq := billLine_eq (band := band) he
  set k := s.unitsDue n band
  obtain ⟨hcharged, -⟩ := chargeUnits_charged ((accrueSecond_entry s n band).trans he) k
    (by rw [hases]; show (s.ses n).debited + _ ≤ _; omega) (by rw [hases]; show (s.ses n).overdraft + _ ≤ _; omega)
  rw [hases] at hcharged
  set w := ((s.accrueSecond n band).chargeUnits n k).1
  have hwses := hcharged.ses
  rw [hases] at hwses
  refine ⟨fun hc => ?_, fun hc => ?_⟩
  · rw [heq, if_neg (by rw [show (_ && _) = false from hc]; decide)]
    refine ⟨(show _ = _ from hcharged.others (.unit n) (by simp)).trans (haun (.unit n) (by simp)), hwses.trans ?_⟩
    have hgrace : (unitsGrace (s.ses n) e k && decide (0 < e.grace)) = unitsGrace (s.ses n) e k := by
      unfold outOfGrace at hc
      cases hg : unitsGrace (s.ses n) e k with
      | false => rfl
      | true =>
        rw [hg, Bool.true_and, decide_eq_false_iff_not] at hc
        rw [Bool.true_and]
        exact decide_eq_true (by omega)
    exact congrArg (chargedSession _ e _ _ _) hgrace
  · have hlt : e.balance < k ∧ e.grace = 0 := by
      simp only [outOfGrace, unitsGrace, Bool.and_eq_true, decide_eq_true_eq] at hc
      exact ⟨hc.1.1, hc.2⟩
    have hws : (w.ses n).state = .connected := by
      rw [hwses]
      exact hs
    have hentry := hcharged.accountOf ((accrueSecond_entry s n band).trans he)
    obtain ⟨-, hrec⟩ := clear_books hws hentry (show e.balance - min k e.balance = 0 by omega) .creditExhausted
    rw [heq, if_pos (show (_ && _) = true from hc), clearRequest_active (by rw [hws]; rfl)]
    refine ⟨enterClearing_endedBy w n _, closingRecord w n 0 .creditExhausted, by rw [hrec]; simp, rfl, rfl, ?_, ?_, ?_⟩
    · show (w.ses n).account = _
      rw [hwses]
      rfl
    · show (if roundsUp (w.ses n) = true ∧ 0 < 0 then _ else (w.ses n).debited) = _
      rw [if_neg (fun hc => absurd hc.2 (by decide)), hwses]
      show (s.ses n).debited + min k e.balance = _
      omega
    · show (if roundsUp (w.ses n) = true ∧ 0 = 0 then min ((w.ses n).overdraft + 1) 16777215 else (w.ses n).overdraft) = _
      have hover : (w.ses n).overdraft = (s.ses n).overdraft + (k - e.balance) := by
        rw [hwses]
        rfl
      have hround : roundsUp (w.ses n) = decide (30000 ≤ ((s.ses n).f + s.tariff.rate band (s.ses n).cls) % 60000) := by
        rw [hwses]
        rfl
      have hroom : (s.ses n).overdraft + (k - e.balance) + 1 ≤ 16777215 := by omega
      rw [hround, hover, Nat.min_eq_left hroom]
      simp only [decide_eq_true_eq, and_true]
      split
      · rfl
      · rfl

/-- One line's work, by the state of the line. -/
theorem accrueLine_connected (hs : (s.ses n).state = .connected) : State.accrueLine band s n = s.billLine n band := by
  unfold State.accrueLine
  rw [hs]

theorem accrueLine_held (hs : (s.ses n).state = .held) : State.accrueLine band s n =
    s.modSes n fun r => { r with heldSecs := min (r.heldSecs + 1) 16777215 } := by
  unfold State.accrueLine
  rw [hs]
  simp only [satInc, maxUnits]

theorem accrueLine_passed (hc : (s.ses n).state ≠ .connected) (hh : (s.ses n).state ≠ .held) :
    State.accrueLine band s n = s := by
  unfold State.accrueLine
  split
  next hs => exact absurd hs hc
  next hs => exact absurd hs hh
  · rfl

theorem reaches_accrueLine (s : State) (n : LineNo) : reaches n s (State.accrueLine band s n) := by
  unfold State.accrueLine
  split
  · unfold State.billLine
    have hc : reaches n s ((s.accrueSecond n band).chargeUnits n (s.unitsDue n band)).1 :=
      reaches.chargeUnits ((accrueSecond_law s n band).2.mono (by simp [lineParts])) _
    exact reaches.ite (fun _ => hc.clearRequest _) fun _ => hc
  · exact (reaches.refl n s).ses _
  · exact .refl n s

theorem unitsMade_connected (hs : (s.ses n).state = .connected) : unitsMade s band.val n = s.unitsDue n band := by
  have hlt : 4 * band.val + (s.ses n).cls.val < 16 := by omega
  unfold unitsMade State.unitsDue Tariff.rate
  rw [if_pos hs, Vector.getElem?_eq_getElem hlt]
  rfl

theorem accrueLine_billing (s : State) (n : LineNo) (band : Fin 4) :
    Billing n (unitsMade s band.val n) s (State.accrueLine band s n) := by
  by_cases hc : (s.ses n).state = .connected
  · rw [accrueLine_connected hc, unitsMade_connected hc]
    exact billLine_billing hc
  · rw [unitsMade, if_neg hc]
    by_cases hh : (s.ses n).state = .held
    · rw [accrueLine_held hh]
      exact Billing.quiet (unchangedBut_modSes _ s (by simp))
    · rw [accrueLine_passed hc hh]
      exact Billing.quiet (unchangedBut_refl _ s)

/-! ### The run over the lines, in ascending order (R135) -/

/-- Work on the lines in ascending order, by what the lines before one have come to. -/
theorem forLines_order {f : State → LineNo → State} {I : List LineNo → State → Prop} (h : I [] s)
    (hstep : ∀ done n rest t, allLines = done ++ n :: rest → I done t → I (done ++ [n]) (f t n)) :
    I allLines (s.forLines f) := by
  have hall : ∀ rest done t, allLines = done ++ rest → I done t → I allLines (rest.foldl f t) := by
    intro rest
    induction rest with
    | nil =>
      intro done t heq ht
      rw [heq, List.append_nil]
      exact ht
    | cons n rest ih =>
      intro done t heq ht
      exact ih (done ++ [n]) (f t n) (by rw [heq]; simp) (hstep done n rest t heq ht)
  exact hall allLines [] s rfl h

theorem before_line (heq : allLines = done ++ n :: rest) : allLines.filter (fun m => decide (m.val < n.val)) = done := by
  have hsorted : (done ++ n :: rest).Pairwise (· < ·) := heq ▸ (by decide : allLines.Pairwise (· < ·))
  rw [heq, List.filter_append]
  obtain ⟨-, hrest, hcross⟩ := List.pairwise_append.1 hsorted
  have h1 : done.filter (fun m => decide (m.val < n.val)) = done :=
    List.filter_eq_self.2 fun m hm => decide_eq_true (hcross m hm n List.mem_cons_self)
  have h2 : (n :: rest).filter (fun m => decide (m.val < n.val)) = [] :=
    List.filter_eq_nil_iff.2 fun m hm => by
      rw [decide_eq_true_eq]
      rcases List.mem_cons.1 hm with rfl | hm
      · omega
      · have : n.val < m.val := (List.pairwise_cons.1 hrest).1 m hm
        omega
  rw [h1, h2, List.append_nil]

/-- The units that some of the lines make on an account. -/
def unitsOf (s : State) (band number : Nat) (l : List LineNo) : Nat :=
  ((l.filter fun m => (s.ses m).account == some number).map (unitsMade s band)).sum

theorem unitsOf_append (s : State) (b a : Nat) (l l' : List LineNo) : unitsOf s b a (l ++ l') = unitsOf s b a l + unitsOf s b a l' := by
  simp [unitsOf]

theorem unitsOf_single (s : State) (b a : Nat) (n : LineNo) :
    unitsOf s b a [n] = if (s.ses n).account = some a then unitsMade s b n else 0 := by
  unfold unitsOf
  split
  next h => simp [h]
  next h => simp [h]

theorem unitsBelow_line (heq : allLines = done ++ n :: rest) (b a : Nat) : unitsBelow s b a n.val = unitsOf s b a done := by
  unfold unitsBelow unitsOf
  rw [← before_line heq, List.filter_filter]
  simp only [Bool.and_comm]

theorem unitsBelow_all (b a : Nat) : unitsBelow s b a 16 = unitsOf s b a allLines := by
  unfold unitsBelow unitsOf
  refine congrArg (fun l => (l.map (unitsMade s b)).sum) (List.filter_congr fun m _ => ?_)
  rw [decide_eq_true m.isLt, Bool.true_and]

/-- What the run has made of one line. -/
structure LineRun (s : State) (band : Fin 4) (n : LineNo) (t : State) : Prop where
  passed : (s.ses n).state ≠ .connected → (s.ses n).state ≠ .held → t.ses n = s.ses n ∧ t.unit n = s.unit n
  held : (s.ses n).state = .held → t.unit n = s.unit n ∧
    t.ses n = { s.ses n with heldSecs := min ((s.ses n).heldSecs + 1) 16777215 }
  billed : ∀ e, (s.ses n).state = .connected → s.accountOf n = some e →
    (s.ses n).debited + s.unitsDue n band ≤ 16777215 → (s.ses n).overdraft + s.unitsDue n band + 1 ≤ 16777215 →
    Billed n band { e with balance := e.balance - unitsBelow s band.val e.number n.val } s t (s.unitsDue n band)

theorem LineRun.later (h : LineRun s band n t) (hs : u.ses n = t.ses n) (hu : u.unit n = t.unit n)
    (hr : ∀ x ∈ t.records, x ∈ u.records) : LineRun s band n u := by
  obtain ⟨hpassed, hheld, hbilled⟩ := h
  refine ⟨?_, ?_, fun e hc he hd ho => ?_⟩
  · rwa [hs, hu]
  · rwa [hs, hu]
  · obtain ⟨hleft, hcleared⟩ := hbilled e hc he hd ho
    refine ⟨fun hg => ?_, fun hg => ?_⟩
    · rw [hs, hu]
      exact hleft hg
    · obtain ⟨hend, x, hx, hfields⟩ := hcleared hg
      rw [hs]
      exact ⟨hend, x, hr x hx, hfields⟩

/-- The run over the lines before one. -/
structure Running (s : State) (band : Fin 4) (done : List LineNo) (t : State) : Prop where
  todo : ∀ n, n ∉ done → t.ses n = s.ses n ∧ t.unit n = s.unit n
  tariff : t.tariff = s.tariff
  entries : ∀ b x, s.account? b = some x → ∃ act, t.account? b =
    some { x with balance := x.balance - unitsOf s band.val b done, active := act } ∧
    (0 < x.grace ∨ unitsOf s band.val b allLines ≤ x.balance → act = x.active)
  graced : (∀ x ∈ s.accounts, 0 < x.grace) → (∀ x ∈ t.accounts, 0 < x.grace) ∧ t.records = s.records ∧
    t.reservations = s.reservations ∧ t.serial = s.serial ∧ t.service = s.service
  lines : ∀ n ∈ done, LineRun s band n t

theorem Running.step (heq : allLines = done ++ n :: rest) (ht : Running s band done t) :
    Running s band (done ++ [n]) (State.accrueLine band t n) := by
  obtain ⟨htodo, htariff, hentries, hgraced, hlines⟩ := ht
  have hn : n ∉ done := fun hm => by
    have hnd : (done ++ n :: rest).Nodup := heq ▸ (by decide : allLines.Nodup)
    exact (List.nodup_append.1 hnd).2.2 n hm n (by simp) rfl
  obtain ⟨hses, hunit⟩ := htodo n hn
  have hreach := reaches_accrueLine (band := band) t n
  have hmade : unitsMade t band.val n = unitsMade s band.val n := by rw [unitsMade, unitsMade, hses, htariff]
  obtain ⟨hcharged, hapart, hgr, hrecs⟩ := accrueLine_billing t n band
  rw [hmade, hses] at hcharged
  rw [hses] at hapart
  refine ⟨fun m hm => ?_, (reaches_tariff hreach).trans htariff, fun b x hx => ?_, fun hg => ?_, fun m hm => ?_⟩
  · rw [List.mem_append, List.mem_singleton, not_or] at hm
    rw [reaches_ses_ne hreach hm.2, reaches_unit_ne hreach hm.2]
    exact htodo m hm.1
  · obtain ⟨act, hact, hkeep⟩ := hentries b x hx
    have hsum := unitsOf_append s band.val b done [n]
    rw [unitsOf_single] at hsum
    have htotal : unitsOf s band.val b (done ++ [n]) ≤ unitsOf s band.val b allLines := by
      rw [heq, show done ++ n :: rest = (done ++ [n]) ++ rest by simp, unitsOf_append s band.val b (done ++ [n])]
      omega
    by_cases hb : (s.ses n).account = some b
    · rw [if_pos hb] at hsum
      obtain ⟨act', hact', hkeep'⟩ := hcharged b _ hact hb
      refine ⟨act', ?_, fun hor => ?_⟩
      · rw [hact', hsum, ← Nat.sub_sub]
      · refine (hkeep' (hor.imp_right fun hle => ?_)).trans (hkeep hor)
        show unitsMade s band.val n ≤ x.balance - unitsOf s band.val b done
        omega
    · rw [if_neg hb, Nat.add_zero] at hsum
      rw [hapart b hb, hsum]
      exact ⟨act, hact, hkeep⟩
  · obtain ⟨hpos, h1, h2, h3, h4⟩ := hgraced hg
    obtain ⟨hpos', hun⟩ := hgr hpos
    refine ⟨hpos', (show _ = _ from hun .records (by simp [chargeParts])).trans h1,
      (show _ = _ from hun .reservations (by simp [chargeParts])).trans h2,
      (show _ = _ from hun .serial (by simp [chargeParts])).trans h3, (show _ = _ from hun .service (by simp [chargeParts])).trans h4⟩
  · by_cases hmn : m = n
    · subst hmn
      refine ⟨fun hc hh => ?_, fun hh => ?_, fun e hc he hd ho => ?_⟩
      · rw [accrueLine_passed (by rwa [hses]) (by rwa [hses])]
        exact ⟨hses, hunit⟩
      · rw [accrueLine_held (by rwa [hses]), State.unit_modSes, State.ses_modSes_self, hses]
        exact ⟨hunit, rfl⟩
      · obtain ⟨ha, hf⟩ := number_of_accountOf he
        obtain ⟨act, hact, -⟩ := hentries e.number e hf
        have hentry : t.accountOf m = some { e with balance := e.balance - unitsOf s band.val e.number done, active := act } := by
          rw [State.accountOf, hses, ha]
          exact hact
        have hdue : t.unitsDue m band = s.unitsDue m band := by rw [State.unitsDue, State.unitsDue, hses, htariff]
        have hbilled := billLine_billed (s := t) (n := m) (band := band) (by rwa [hses]) hentry hdue.symm (by rwa [hses])
          (by rwa [hses])
        rw [accrueLine_connected (by rwa [hses]), unitsBelow_line heq]
        obtain ⟨hleft, hcleared⟩ := hbilled
        rw [hses, htariff] at hleft hcleared
        rw [hunit] at hleft
        exact ⟨hleft, hcleared⟩
    · have hm' : m ∈ done := by simpa [hmn] using hm
      exact (hlines m hm').later (reaches_ses_ne hreach hmn) (reaches_unit_ne hreach hmn) hrecs

theorem running_all (s : State) (band : Fin 4) : Running s band allLines (s.forLines (State.accrueLine band)) :=
  forLines_order (I := Running s band)
    ⟨fun _ _ => ⟨rfl, rfl⟩, rfl, fun b x hx => ⟨x.active, hx, fun _ => rfl⟩, fun hg => ⟨hg, rfl, rfl, rfl, rfl⟩, by simp⟩
    fun _ _ _ _ heq ht => ht.step heq

end Sys2Proof.SecondsBilled
end

section
/-! PROOFS. The second boundary as a whole. -/

namespace Sys2Proof.SecondBoundaries

open Sys2Proof.Machine Sys2Proof.Stations Sys2Proof.Clears Sys2Proof.Keeping Sys2Proof.CharacterEvents
open Sys2Proof.LineControl Sys2Proof.ClearRequests Sys2Proof.UnitsCharged Sys2Proof.ServiceStates
open Sys2Proof.LinksLost Sys2Proof.LinesBilled Sys2Proof.SecondsBilled

variable {s t : State} {n : LineNo}

/-! ### The clock and the tariff (R125, R131) -/

/-- The part with its clock a second on. -/
def ticked (s : State) : State := { s with clock := s.clock.advance }

theorem ticked_law (s : State) : (ticked s).clock = s.clock.advance ∧ unchangedBut [.clock] s (ticked s) :=
  ⟨rfl, unchanged_write fun p _ hp => by
    cases p with
    | clock => exact absurd (by simp) hp
    | time => exact ⟨rfl, rfl, rfl⟩
    | _ => rfl⟩

/-- The part with its pending tariff values installed. -/
def installed (s : State) : State := { s with tariff := s.tariff.install }

theorem installed_law (s : State) : (installed s).tariff = s.tariff.install ∧ unchangedBut [.tariff] s (installed s) :=
  ⟨rfl, unchanged_write fun p _ hp => by
    cases p with
    | tariff => exact absurd (by simp) hp
    | time => exact ⟨rfl, rfl, rfl⟩
    | _ => rfl⟩

theorem exec_secondBoundary (hr : s.inReset = false) :
    exec .secondBoundary s = .next (installed ((ticked s).forLines (State.accrueLine s.bandNow))) := by
  show execSecondBoundary s = _
  unfold execSecondBoundary installed ticked
  rw [if_neg (by rw [hr]; decide)]

theorem advance_law {c : Clock} (hm : c.minute < 10080) (hs : c.second < 60) : c.advance.set = c.set ∧ c.advance.phase = 0 ∧
    60 * c.advance.minute + c.advance.second = (60 * c.minute + c.second + 1) % 604800 ∧ c.advance.second < 60 := by
  unfold Clock.advance
  by_cases h1 : c.second + 1 < 60
  · rw [if_pos h1]
    exact ⟨rfl, rfl, by dsimp only; omega, h1⟩
  · rw [if_neg h1]
    refine ⟨rfl, rfl, ?_, Nat.zero_lt_succ _⟩
    dsimp only
    split
    · omega
    · omega

theorem getElem_zipEach {α β γ : Type} {m i : Nat} (f : α → β → γ) (v : Vector α m) (w : Vector β m) (hi : i < m) :
    (zipEach f v w)[i] = f v[i] w[i] := by
  simp [zipEach]

/-- The tariff installed, entry by entry (R131). -/
theorem install_law (f : Tariff) :
    (∀ i, (hi : i < 168) → f.install.bands[i] = (f.pendingBands[i]).getD f.bands[i] ∧ f.install.pendingBands[i] = none) ∧
    (∀ i, (hi : i < 16) → f.install.rates[i] = (f.pendingRates[i]).getD f.rates[i] ∧ f.install.pendingRates[i] = none) ∧
    (∀ i, (hi : i < 4) → f.install.classes[i] =
      { rates := f.pendingClasses[i].rates.getD f.classes[i].rates
        format := f.pendingClasses[i].format.getD f.classes[i].format
        flowControl := f.pendingClasses[i].flowControl.getD f.classes[i].flowControl
        fee := f.pendingClasses[i].fee.getD f.classes[i].fee } ∧
      f.install.pendingClasses[i] = ⟨none, none, none, none⟩) :=
  ⟨fun _ hi => ⟨getElem_zipEach _ _ _ hi, Vector.getElem_replicate hi⟩,
    fun _ hi => ⟨getElem_zipEach _ _ _ hi, Vector.getElem_replicate hi⟩,
    fun _ hi => ⟨getElem_zipEach _ _ _ hi, Vector.getElem_replicate hi⟩⟩

theorem bandNow_val (s : State) :
    (if s.clock.set then (s.tariff.bands[s.clock.minute / 60]?.map (·.val)).getD 0 else 0) = s.bandNow.val := by
  unfold State.bandNow
  split
  · cases s.tariff.bands[s.clock.minute / 60]? <;> rfl
  · rfl

/-! ### A billed line's record -/

/-- The record of a billed line, field by field (R135, R139, R140, R142). -/
theorem billed_record (r : Session) (e : Account) (band : Fin 4) (rate d o : Nat) (w g : Bool) :
    chargedSession (accruedRecord r band rate) e d o w g = { r with
      bandSecs := (chargedSession (accruedRecord r band rate) e d o w g).bandSecs
      f := r.f + rate - 60000 * ((r.f + rate) / 60000), debited := d, overdraft := o, warned := r.warned || w
      graceTimer := if g then .running (e.grace * 60000) else r.graceTimer, feed := chargeFeed r.feed w g
      cursor := if w || g then cursorRequested r else r.cursor } ∧
    ∀ b, (hb : b < 4) → (chargedSession (accruedRecord r band rate) e d o w g).bandSecs[b] =
      if b = band.val then min (r.bandSecs[b] + 1) 16777215 else r.bandSecs[b] := by
  refine ⟨?_, fun b hb => ?_⟩
  · have hf : (r.f + rate) % 60000 = r.f + rate - 60000 * ((r.f + rate) / 60000) := by omega
    rw [← hf]
    rfl
  · show (r.bandSecs.set band.val (satInc maxUnits r.bandSecs[band.val]))[b] = _
    by_cases hbb : b = band.val
    · subst hbb
      rw [if_pos rfl, Vector.getElem_set_self]
      simp only [satInc, maxUnits]
    · rw [if_neg hbb, Vector.getElem_set_ne _ _ (Ne.symm hbb)]

/-- Settles O60: the run over the lines in ascending order, between the clock's advance and the tariff's installation. -/
theorem secondBoundary : Obligations.SecondBoundary := by
  rintro s band hreset ⟨hmin, hsec⟩ hband
  obtain rfl : band = s.bandNow.val := hband.trans (bandNow_val s)
  obtain ⟨hclock, haun⟩ := ticked_law s
  set a := ticked s with ha
  set run := a.forLines (State.accrueLine s.bandNow) with hrun
  obtain ⟨htariff, htun⟩ := installed_law run
  set t := installed run with ht
  have hases : ∀ n, a.ses n = s.ses n := fun n => haun (.session n) (by simp)
  have haunit : ∀ n, a.unit n = s.unit n := fun n => haun (.unit n) (by simp)
  have haacc : a.accounts = s.accounts := haun .accounts (by simp)
  have hatariff : a.tariff = s.tariff := haun .tariff (by simp)
  have hkept : ∀ {p : Part}, (∀ n, p ∉ lineParts n) → p.same a run := fun hp =>
    lines_keep (fun t n => reaches_accrueLine t n) hp
  have hentry : ∀ b, a.account? b = s.account? b := fun b => by rw [State.account?, State.account?, haacc]
  have hof : ∀ n, a.accountOf n = s.accountOf n := fun n => HostsLost.accountOf_congr haacc (hases n)
  have hmade : ∀ b m, unitsMade a b m = unitsMade s b m := fun b m => by rw [unitsMade, unitsMade, hases, hatariff]
  have hbelow : ∀ b number top, unitsBelow a b number top = unitsBelow s b number top := fun b number top => by
    unfold unitsBelow
    rw [funext (hmade b)]
    simp only [hases]
  obtain ⟨-, -, hentries, hgraced, hlines⟩ := running_all a s.bandNow
  rw [← hrun] at hentries hgraced hlines
  have htclock : t.clock = s.clock.advance :=
    (show _ = _ from htun .clock (by simp)).trans ((show run.clock = a.clock from hkept (p := .clock) (by simp [lineParts])).trans hclock)
  have htses : ∀ n, t.ses n = run.ses n := fun n => htun (.session n) (by simp)
  have htunit : ∀ n, t.unit n = run.unit n := fun n => htun (.unit n) (by simp)
  have htrec : t.records = run.records := htun .records (by simp)
  have hrtariff : run.tariff = s.tariff :=
    (show run.tariff = a.tariff from hkept (p := .tariff) (by simp [lineParts])).trans hatariff
  obtain ⟨hset, hphase, hsum, hlast⟩ := advance_law hmin hsec
  obtain ⟨hbands, hrates, hclasses⟩ := install_law s.tariff
  rw [hrtariff] at htariff
  refine ⟨t, exec_secondBoundary hreset, by rw [htclock, hset], by rw [htclock, hphase], by rw [htclock, hsum],
    by rw [htclock]; exact hlast, by rw [htariff]; exact hbands, by rw [htariff]; exact hrates, by rw [htariff]; exact hclasses,
    fun n hc hh => ?_, fun n hh => ?_, fun number e he hor => ?_, ?_, fun hg => ?_, ?_⟩
  · rw [htses, htunit, ← hases, ← haunit]
    exact (hlines n (State.mem_allLines n)).passed (by rwa [hases]) (by rwa [hases])
  · rw [htses, htunit, ← hases, ← haunit]
    exact (hlines n (State.mem_allLines n)).held (by rwa [hases])
  · obtain ⟨act, hact, hsame⟩ := hentries number e (by rw [hentry, he])
    rw [← unitsBelow_all, hbelow] at hact hsame
    obtain rfl := hsame hor
    rw [State.account?, show t.accounts = run.accounts from htun .accounts (by simp)]
    exact hact
  · intro n rate units left e warns graced hs hrate hunits he hleft hwarns hgrace hd ho
    rw [← hof n] at he
    have hrate' : rate = a.tariff.rate s.bandNow (a.ses n).cls := by
      have hlt : 4 * s.bandNow.val + (s.ses n).cls.val < 16 := by omega
      rw [Vector.getElem?_eq_getElem hlt] at hrate
      rw [hatariff, hases]
      exact (Option.some.inj hrate).symm
    have hdue : a.unitsDue n s.bandNow = units := by
      rw [State.unitsDue, ← hrate', hases, hunits]
    have hb := (hlines n (State.mem_allLines n)).billed e (by rwa [hases]) he (by rwa [hases, hdue]) (by rwa [hases, hdue])
    rw [hbelow, hdue, ← hleft] at hb
    obtain ⟨hstays, hcleared⟩ := hb
    rw [← hrate', hases] at hstays hcleared
    rw [haunit] at hstays
    have hgr : unitsGrace (s.ses n) { e with balance := left } units = graced := hgrace.symm
    have hwa : unitsWarn (s.ses n) { e with balance := left } units = warns := hwarns.symm
    rw [outOfGrace, hgr, hwa] at hstays
    rw [outOfGrace, hgr] at hcleared
    dsimp only at hstays hcleared
    refine ⟨fun hor => ?_, fun hg h0 => ?_⟩
    · obtain ⟨hu, hr⟩ := hstays (by
        rcases hor with hor | hor
        · rw [hor]; rfl
        · rw [decide_eq_false (by omega), Bool.and_false])
      obtain ⟨hrec, hsecs⟩ := billed_record (s.ses n) { e with balance := left } s.bandNow rate
        ((s.ses n).debited + min units left) ((s.ses n).overdraft + (units - left)) warns graced
      rw [htses, htunit, hr]
      refine ⟨hu, ?_, hsecs⟩
      rw [hunits] at hrec ⊢
      exact hrec
    · obtain ⟨⟨hact, -, hcause⟩, x, hx, hline, hxc, hxa, hxd, hxo⟩ := hcleared (by rw [hg, h0]; rfl)
      rw [htses, htrec]
      refine ⟨hact, hcause, x, hx, hline, hxc, hxa, hxd, ?_⟩
      rw [hxo, hunits, show ((s.ses n).f + rate) % 60000 = (s.ses n).f + rate - 60000 * (((s.ses n).f + rate) / 60000) by omega]
  · obtain ⟨-, h1, h2, h3, h4⟩ := hgraced (by rwa [haacc])
    exact ⟨htrec.trans (h1.trans (haun .records (by simp))),
      (show _ = _ from htun .reservations (by simp)).trans (h2.trans (haun .reservations (by simp))),
      (show _ = _ from htun .serial (by simp)).trans (h3.trans (haun .serial (by simp))),
      (show _ = _ from htun .service (by simp)).trans (h4.trans (haun .service (by simp)))⟩
  · exact (show _ = _ from htun .params (by simp)).trans
      ((show run.params = a.params from hkept (p := .params) (by simp [lineParts])).trans (haun .params (by simp)))

end Sys2Proof.SecondBoundaries
end
